-- ==== Sys2Proof/Word.lean ====
section
/-! DEFINITION. The smallest unit of every structure in memory (R187: sizes are in bytes). -/

namespace Sys2Proof

/-- One byte of a memory structure or of a transaction's data. -/
abbrev Byte := BitVec 8

end Sys2Proof
end

