-- ==== Sys2Proof/Config.lean ====
section
/-! DEFINITION. What the part fixes once (sizes of tables, limits of counters) and the values the manual leaves open. -/

namespace Sys2Proof.Config

/-- The revision in the upper two bytes of the status block's identity word. The manual names the field (R184, R194)
and gives it no value, so nothing is known of it (log entry 2). -/
opaque revision : BitVec 16

/-- The lost count, 32 bits, after a report that would take it past its top: the manual states no result (R181; log
entry 46). -/
opaque lostPastTop : Nat → Nat → BitVec 32

/-- The lost count after the subtraction of a LOG_LOST's count greater than it: the manual states no result (R182; log
entry 46). -/
opaque lostBelowZero : Nat → Nat → BitVec 32

/-- The family code in the lower two bytes of the identity word (R194). -/
def familyCode : Nat := 0x4C74

/-- Global columns 0 to 16383 (chapter 00, section 4.4). -/
def columnCount : Nat := 16384

/-- Columns of one column group (chapter 00, section 4.4). -/
def groupWidth : Nat := 256

/-- Column groups 0 to 63 (chapter 00, section 4.4). -/
def groupCount : Nat := 64

/-- The greatest encoder position; E holds there (R24). -/
def encoderTop : Nat := 2 ^ 48 - 1

/-- The greatest backlash count (R25). -/
def backlashTop : Nat := 64

/-- One past the last 40-bit address. -/
def addressEnd : Nat := 2 ^ 40

/-- Places of a stream's hold queue, the held header write included (R10). -/
def holdPlaces : Nat := 16

/-- Runs the run buffer holds (R59). -/
def runPlaces : Nat := 256

/-- Entries of the blob table (R63). -/
def blobPlaces : Nat := 64

/-- The greatest flag age (R44). -/
def flagAgeTop : Nat := 4095

/-- Consecutive covered CLEAR lines that end a streak (R54). -/
def clearRunExit : Nat := 64

/-- Lines at which a blob or a dense zone closes by length (R70, R73). -/
def lengthLimit : Nat := 4096

/-- The limit of an area and of a dropped-pixel count (R63, R72, R74). -/
def areaTop : Nat := 16777215

/-- The limit of a blob's contrast sum, and the greatest plate, flaw and ticket number (R63, R77, R112, R124). -/
def wordTop : Nat := 4294967295

/-- Modulus of the 32-bit record counts and sequence numbers (R181). -/
def wordModulus : Nat := 4294967296

/-- Plates the plate queue holds (R112). -/
def queuePlaces : Nat := 32

/-- Flaws the flaw list holds, the overflow zone apart (R80). -/
def flawPlaces : Nat := 128

/-- Records the pending buffer holds (R181). -/
def recordPlaces : Nat := 64

/-- Rows, and columns, of a capture window (R157). -/
def captureSide : Nat := 256

/-- Bytes of one capture slot (R155). -/
def captureSlotBytes : Nat := 73728

/-- Consecutive pass-through grants an own request waits through at most (R186). -/
def arbiterLimit : Nat := 8

/-- The assembly timeout while the cached window header is invalid (R32). -/
def defaultAssemblyTimeout : Nat := 4095

end Sys2Proof.Config
end

