-- ==== Sys2Proof/Syntax.lean ====
section
/-! DEFINITION. The commands: one constructor of `Instr` for each row of spec/opcode_table.json, with the transaction, the
response or the choice of stream, slot or plate that the step is about. -/

namespace Sys2Proof

/-- An upstream write as the Traffic Classifier sees it (chapter 00, section 3): the address of its first byte, its source
tag, and its bytes in ascending address order, `none` where the byte's strobe is clear. The span is `data.length` bytes. -/
structure UpWrite where
  addr : Nat
  tag  : Nat
  data : List (Option Byte)
  deriving DecidableEq, Repr, Inhabited

/-- An upstream read: the address of its first byte, its source tag and the bytes of its span. -/
structure UpRead where
  addr : Nat
  tag  : Nat
  len  : Nat
  deriving DecidableEq, Repr, Inhabited

/-- What one read of the part's own got back: whether every beat was OKAY, and the bytes. -/
structure ReadResult where
  okay : Bool
  data : List Byte
  deriving DecidableEq, Repr, Inhabited

/-- What the pixel fetch of a line got back: a result for each burst, and the streams of which a burst had failed before they
were stopped: a failure after the stop issues no event (R38; log entry 50). -/
structure PixelResults where
  bursts : List ReadResult
  early  : List (Fin 8)
  deriving DecidableEq, Repr, Inhabited

/-- What PASS_THROUGH carries: a transaction arriving upstream, or memory's response to one forwarded before. A response
names its source tag: the responses of one tag return in order (R7). -/
inductive PassEvent where
  | write (w : UpWrite)
  | read (r : UpRead)
  | writeResponse (tag : Nat) (okay : Bool)
  | readResponse (tag : Nat) (result : ReadResult)
  deriving DecidableEq, Repr

/-- The commands, in the order of spec/opcode_table.json. -/
inductive Instr where
  | pinReset
  | forwardCount
  | reverseCount
  | invalidTransition
  | headerWrite (w : UpWrite)
  | continuationWrite (w : UpWrite)
  | completingWriteResponse (tag : Nat) (okay : Bool)
  | holdExpired (stream : Fin 8)
  | lineTimeout (stream : Fin 8)
  | streamLapsed (stream : Fin 8)
  | seedFetchDone (stream : Fin 8) (bursts : List ReadResult)
  | lineAssembly
  | assemblyTimeout
  | pixelFetchDone (results : PixelResults)
  | forcingReached
  | starved
  | sealFailedCutPoint
  | sealWriteResponse (slot : Nat) (okay : Bool)
  | nullWriteResponse (slot : Nat) (okay : Bool)
  | ticketRead (r : UpRead)
  | guardWrite (w : UpWrite)
  | statusWrite (w : UpWrite)
  | cutMissed (plate : Nat)
  | statusBlockGuard (w : UpWrite)
  | passThrough (e : PassEvent)
  | arbiterGrant
  | enable (w : UpWrite)
  | disable (w : UpWrite)
  | logClear (w : UpWrite)
  | orderRingSet (w : UpWrite)
  | orderTail (w : UpWrite)
  | logRead (w : UpWrite)
  | noticeEnable (w : UpWrite)
  | noticeAck (w : UpWrite)
  | captureRelease (w : UpWrite)
  | anchorWrite (w : UpWrite)
  | orderFetch
  | orderFetchDone (result : ReadResult)
  | nop
  | badOrder
  | fence
  | fenceWrite
  | fenceWriteResponse (okay : Bool)
  | refresh
  | refreshFetchDone (result : ReadResult)
  | streamStart
  | streamStop
  | profileLoad
  | laneAssign
  | laneRelease
  | tableLoad
  | tableLoadFetchDone (result : ReadResult)
  | planSet
  | cutRequest
  | restart
  | shiftClose
  | completionWriteResponse (okay : Bool)
  | reportWriteResponse (okays : List Bool)
  | captureSegmentReadDone (stream : Fin 8) (bursts : List ReadResult)
  | captureRowWriteDone (okay : Bool)
  | captureHeaderWriteDone (okay : Bool)
  | logWriteResponse (okays : List Bool)
  | statusBlockWriteResponse (okay : Bool)
  deriving DecidableEq, Repr

end Sys2Proof
end

