-- ==== Sys2Proof/Decode.lean ====
section
/-! DEFINITION. The table of this block gives no row any bits (each row's "fields" list is empty), so no word spells a command:
the commands are steps of the part, and the orders that the part does decode are bytes of memory (Machine/Operands.lean). -/

namespace Sys2Proof

/-- The command that a word of `nbits` bits spells: none, since spec/opcode_table.json gives no row any bits. -/
def decodeTableWord (_nbits _w : Nat) : Option Instr := none

end Sys2Proof
end

