-- ==== Sys2Proof/Machine/State.lean ====
section
/-! DEFINITION. The state of the part, one structure for each block of chapter 00, section 2, the port state of the Memory
arbiter, and three fields of the model's own (`pending`, `answers`, `toTake`). Plain data throughout. -/

namespace Sys2Proof.Machine

/-! ## Encoder Counter (chapter 2.1) -/

/-- The Encoder Counter: E, the backlash count, the quadrature state the decoder took last, and whether an invalid
transition has been reported since the last forward count (R23 to R26). -/
structure Encoder where
  e : Nat
  backlash : Nat
  phase1 : Bool
  phase2 : Bool
  invalidReported : Bool
  deriving DecidableEq, Repr, Inhabited

/-! ## Traffic Classifier: anchor latches and window cache (chapters 11.1, 11.4) -/

/-- The latches of the anchor page's control fields, as wide as the fields of R194. -/
structure Anchor where
  control : BitVec 32
  orderBase : BitVec 64
  orderSize : BitVec 8
  orderTail : BitVec 32
  tablePtr : BitVec 64
  logRead : BitVec 32
  logHighWater : BitVec 32
  noticeEnable : BitVec 8
  noticeAck : BitVec 8
  captureRelease : BitVec 8
  deriving DecidableEq, Repr, Inhabited

/-- What a stream does with a header write for a busy slot (chapter 1.1). -/
inductive Policy where
  | hold
  | skip
  deriving DecidableEq, Repr, Inhabited

/-- The cached window table entry of a stream (chapter 1.1, R191). -/
structure StreamWindow where
  valid : Bool
  base : Nat
  slotSize : Nat
  slotCount : Nat
  colBase : Nat
  winStart : Nat
  winStop : Nat
  stagger : Nat
  policy : Policy
  holdLimit : Nat
  lineTimeout : Nat
  recover : Bool
  tag : Nat
  deriving DecidableEq, Repr, Inhabited

/-- The cached window table header: the silence limit and the assembly timeout (chapter 11.4). -/
structure HeaderWindow where
  valid : Bool
  silence : Nat
  timeout : Nat
  deriving DecidableEq, Repr, Inhabited

/-- Cached entry 8, the ticket ring (R123). -/
structure TicketWindow where
  valid : Bool
  base : Nat
  count : Nat
  tag : Nat
  deriving DecidableEq, Repr, Inhabited

/-- Cached entry 9, the record log (R180). -/
structure LogWindow where
  valid : Bool
  base : Nat
  code : Nat
  deriving DecidableEq, Repr, Inhabited

/-- Cached entry 10, the capture area (R155). -/
structure CaptureWindow where
  valid : Bool
  base : Nat
  deriving DecidableEq, Repr, Inhabited

/-- Cached entry 11, the report area (R167). -/
structure ReportWindow where
  valid : Bool
  base : Nat
  count : Nat
  deriving DecidableEq, Repr, Inhabited

/-- The window cache, thirteen parts each valid or invalid (chapter 11.4). -/
structure Window where
  header : HeaderWindow
  streams : List StreamWindow
  ticket : TicketWindow
  log : LogWindow
  capture : CaptureWindow
  report : ReportWindow
  deriving DecidableEq, Repr, Inhabited

/-! ## Ring Tracker (chapter 1) -/

/-- The states of a stream (chapter 1.6). -/
inductive StreamState where
  | off
  | seeding
  | running
  | lapsed
  | faulted
  deriving DecidableEq, Repr, Inhabited

/-- The states of a ring slot (R3). -/
inductive SlotState where
  | empty
  | filling
  | ready
  | done
  | lost
  deriving DecidableEq, Repr, Inhabited

/-- A directory entry (R3). `awaiting`: FILLING with a remaining count of zero and the completing write's response
outstanding; `failed`: a write of the fill got an error response (R7). -/
structure DirEntry where
  stamp : Option Nat
  pixels : Nat
  state : SlotState
  pin : Bool
  awaiting : Bool
  failed : Bool
  deriving DecidableEq, Repr, Inhabited

/-- The fill in progress (R3): the slot being filled, its remaining count, the next expected offset within the slot and
the encoder position at which the fill began. -/
structure Fill where
  slot : Nat
  remaining : Nat
  next : Nat
  start : Nat
  deriving DecidableEq, Repr, Inhabited

/-- A hold (R10): the position at which its timer started, the held header write and the writes queued behind it. -/
structure Hold where
  start : Nat
  held : UpWrite
  queue : List UpWrite
  deriving DecidableEq, Repr, Inhabited

/-- A seed fetch in flight (R16, R39): the seed slot and its stamp. -/
structure SeedFetch where
  slot : Nat
  stamp : Nat
  deriving DecidableEq, Repr, Inhabited

/-- What the Ring Tracker and the Line Assembler keep for one stream (R3, R10, R17, chapter 2.3). -/
structure StreamRec where
  state : StreamState
  dir : List DirEntry
  lastStamp : Option Nat
  fill : Option Fill
  hold : Option Hold
  runningSince : Nat
  lastReady : Nat
  entryStamp : Option Nat
  episode : Bool
  seed : Option SeedFetch
  deriving DecidableEq, Repr, Inhabited

/-! ## Line Assembler (chapter 2) -/

/-- A stream's standing for the line being assembled (R30). -/
inductive Standing where
  | uncovered
  | seeded
  | present
  | waiting
  | missing
  deriving DecidableEq, Repr, Inhabited

/-- An entry of the coverage record (R34). `stopped`: the stream was stopped while the line was fetched (R38). -/
structure CovEntry where
  stream : Nat
  first : Nat
  last : Nat
  standing : Standing
  slot : Nat
  stamp : Nat
  pixels : Nat
  stopped : Bool
  deriving DecidableEq, Repr, Inhabited

/-- The Line Assembler's own state: the analysis line A, and the coverage record of the line being assembled once its
assembly has begun (chapter 2.3). `analysing`: a line is between hand-over and completion (chapter 5.2). -/
structure Assembler where
  a : Nat
  record : Option (List CovEntry)
  analysing : Bool
  deriving DecidableEq, Repr, Inhabited

/-! ## Detection Unit (chapter 3) -/

/-- The four values of a column (R44). -/
structure Column where
  ref : Nat
  age : Nat
  streak : Bool
  clearRun : Nat
  deriving DecidableEq, Repr, Inhabited

/-- The polarity of a run, a blob or a flaw (R57, R192); `none` only in flaws. -/
inductive Polarity where
  | none
  | dark
  | bright
  deriving DecidableEq, Repr, Inhabited

/-- A run (R57); its pixel count is its width. -/
structure Run where
  c0 : Nat
  c1 : Nat
  polarity : Polarity
  peak : Nat
  sum : Nat
  deriving DecidableEq, Repr, Inhabited

/-- The Detection Unit: the columns, each group's count of columns in STREAK and the run buffer (R44). -/
structure Detection where
  columns : List Column
  streakCounts : List Nat
  runs : List Run
  deriving DecidableEq, Repr, Inhabited

/-! ## Blob Tracker (chapter 4) -/

/-- An OPEN blob (R63). -/
structure Blob where
  num : Nat
  polarity : Polarity
  y0 : Nat
  last : Nat
  c0 : Nat
  c1 : Nat
  prev : Option (Nat × Nat)
  cur : Option (Nat × Nat)
  area : Nat
  peak : Nat
  sum : Nat
  gap : Nat
  profile : Nat
  continuation : Bool
  deriving DecidableEq, Repr, Inhabited

/-- What a STUB keeps of a blob closed by length (R63, R70). -/
structure Stub where
  num : Nat
  polarity : Polarity
  last : Nat
  prev : Nat × Nat
  gap : Nat
  deriving DecidableEq, Repr, Inhabited

/-- An entry of the blob table (R63). -/
inductive BlobEntry where
  | free
  | opened (b : Blob)
  | stub (t : Stub)
  deriving DecidableEq, Repr, Inhabited

/-- An OPEN dense zone (R72). -/
structure DenseZone where
  y0 : Nat
  y1 : Nat
  c0 : Nat
  c1 : Nat
  count : Nat
  continuation : Bool
  deriving DecidableEq, Repr, Inhabited

/-- An OPEN gap zone tracker (R74, R75): its first line, its last uncovered line or none, and whether the zone continues
one that a split closed. -/
structure GapZone where
  y0 : Nat
  last : Option Nat
  continuation : Bool
  deriving DecidableEq, Repr, Inhabited

/-- The polarity a classification rule asks for (R76). -/
inductive RulePolarity where
  | dark
  | bright
  | any
  deriving DecidableEq, Repr, Inhabited

/-- A rule of the classification table (R76). -/
structure ClassRule where
  polarity : RulePolarity
  elongMin : Nat
  elongMax : Nat
  minPeak : Nat
  areaMin : Nat
  areaMax : Nat
  deriving DecidableEq, Repr, Inhabited

/-- The Blob Tracker: the blob table and the next blob number, the dense zone (none: CLOSED) and its continuation mark,
the 64 gap zone trackers (none: CLOSED), the split list, the classification table and the next flaw number. -/
structure BlobTracker where
  table : List BlobEntry
  nextBlob : Nat
  dense : Option DenseZone
  mark : Option Nat
  gaps : List (Option GapZone)
  splits : List Nat
  rules : List ClassRule
  nextFlaw : Nat
  deriving DecidableEq, Repr, Inhabited

/-! ## Lane Map (chapter 5) -/

/-- The kind of a lane (R84). -/
inductive LaneKind where
  | sale
  | edge
  deriving DecidableEq, Repr, Inhabited

/-- A lane descriptor (R84). -/
structure LaneDesc where
  kind : LaneKind
  profile : Nat
  deriving DecidableEq, Repr, Inhabited

/-- A detection profile (R92). -/
structure Profile where
  dark : Nat
  bright : Nat
  minRun : Nat
  shift : Nat
  streakLimit : Nat
  gap : Nat
  minArea : Nat
  deriving DecidableEq, Repr, Inhabited

/-- The Lane Map: a label or FREE (none) for each of the 64 groups, the descriptors of labels 1 to 15, the profiles. -/
structure LaneMap where
  groups : List (Option Nat)
  lanes : List LaneDesc
  profiles : List Profile
  deriving DecidableEq, Repr, Inhabited

/-- A lane entry of a plate's snapshot (R91). -/
structure LaneEntry where
  label : Nat
  kind : LaneKind
  first : Nat
  count : Nat
  deriving DecidableEq, Repr, Inhabited

/-! ## Grader (chapter 8) -/

/-- The attributes and weights of a class in the grade table (R141). -/
structure ClassGrade where
  avoid : Bool
  capture : Bool
  kill1 : Bool
  kill2 : Bool
  kill3 : Bool
  core : Nat
  edge : Nat
  deriving DecidableEq, Repr, Inhabited

/-- The grade table and the loaded mark (R141). -/
structure GradeTable where
  classes : List ClassGrade
  denseCore : Nat
  denseEdge : Nat
  gapCore : Nat
  gapEdge : Nat
  prime : Nat
  standard : Nat
  second : Nat
  bandColumns : Nat
  bandLines : Nat
  cap : Nat
  loaded : Bool
  deriving DecidableEq, Repr, Inhabited

/-- A piece's account (R144). `grade` is 1 to 4 for G1 to G4 once FINAL. -/
structure Piece where
  label : Nat
  first : Nat
  count : Nat
  points : Nat
  kill1 : Bool
  kill2 : Bool
  kill3 : Bool
  flaws : Nat
  uncovered : Bool
  grade : Option Nat
  area : Nat
  deriving DecidableEq, Repr, Inhabited

/-! ## Plate Scheduler (chapters 4.8 and 6) -/

inductive PlanMode where
  | avoid
  | fixed
  deriving DecidableEq, Repr, Inhabited

inductive GapPolicy where
  | avoid
  | grade
  deriving DecidableEq, Repr, Inhabited

inductive MissAction where
  | retire
  | keep
  deriving DecidableEq, Repr, Inhabited

/-- The plan (R97). -/
structure Plan where
  nominal : Nat
  minPlate : Nat
  pitch : Nat
  guard : Nat
  strip : Nat
  distance : Nat
  margin : Nat
  slack : Nat
  missWindow : Nat
  tolerance : Nat
  mode : PlanMode
  gapPolicy : GapPolicy
  missAction : MissAction
  deriving DecidableEq, Repr, Inhabited

/-- The kind of a decision (R104 to R106, R109). -/
inductive PlateKind where
  | nominal
  | requested
  | short
  | cullet
  | late
  deriving DecidableEq, Repr, Inhabited

/-- The states of a plate in the queue (R113); an ABANDONED plate is removed at once. -/
inductive PlateState where
  | decided
  | sealing
  | sealed
  | taken
  | cut
  | skipped
  | missed
  | sealFailed
  deriving DecidableEq, Repr, Inhabited

/-- A plate record (R112), with the grade state and the piece accounts (R144). `fenced` is the model's mark: the plate was
DECIDED when the current FENCE was taken, which waits for its seal write (R179). -/
structure Plate where
  num : Nat
  start : Nat
  cut : Nat
  kind : PlateKind
  forced : Bool
  unverified : Bool
  replanned : Bool
  deviation : Bool
  lateConfirmed : Bool
  lanes : List LaneEntry
  seq : Nat
  distance : Nat
  margin : Nat
  missWindow : Nat
  tolerance : Nat
  missAction : MissAction
  state : PlateState
  final : Bool
  pieces : List Piece
  fenced : Bool
  deriving DecidableEq, Repr, Inhabited

/-- Where a flaw comes from (R77). -/
inductive Source where
  | blob
  | dense
  | gap
  deriving DecidableEq, Repr, Inhabited

/-- An entry of the flaw list (R80). `cls` is 0 to 7, 8 for DENSE and 9 for GAP (R192). `spent`: it was offered to a plate
that a RESTART abandoned, and is not offered to the plates decided in its place (R118, R153; log entry 47). -/
structure ListedFlaw where
  num : Nat
  source : Source
  cls : Nat
  y0 : Nat
  y1 : Nat
  c0 : Nat
  c1 : Nat
  avoid : Bool
  spent : Bool
  deriving DecidableEq, Repr, Inhabited

/-- The overflow zone (R81). `spent` as for an entry of the flaw list, until the zone takes in a further flaw (log entry
47). -/
structure Zone where
  y0 : Nat
  y1 : Nat
  c0 : Nat
  c1 : Nat
  spent : Bool
  deriving DecidableEq, Repr, Inhabited

/-- The Plate Scheduler: the plan, whether it is active, the plan start S, the next plate number and ticket sequence, the
plate queue, the pending cut request, the replan limit, the flaw list and the overflow zone. -/
structure Scheduler where
  plan : Option Plan
  active : Bool
  start : Nat
  nextPlate : Nat
  nextSeq : Nat
  queue : List Plate
  request : Option Nat
  replan : Option Nat
  flaws : List ListedFlaw
  zone : Option Zone
  deriving DecidableEq, Repr, Inhabited

/-! ## Ticket Unit (chapter 7) -/

/-- The part's own write to a slot that is not yet answered (R125). -/
inductive SlotWrite where
  | none
  | sealing
  | nulling
  deriving DecidableEq, Repr, Inhabited

/-- A slot record (R125). `nullPending` carries the sequence withdrawn; `noted`: the slot was noted at a disable and its
rewrite has not been answered (R138); `nullFenced`: the current FENCE waits for the pending null rewrite (R179). -/
structure SlotRec where
  occupant : Option Nat
  retired : Option Nat
  write : SlotWrite
  nullPending : Option Nat
  noted : Bool
  nullFenced : Bool
  deriving DecidableEq, Repr, Inhabited

/-! ## Capture Engine (chapter 9) -/

/-- The states of a capture slot (R155). -/
inductive CapState where
  | free
  | filling
  | locked
  deriving DecidableEq, Repr, Inhabited

/-- A capture stream of the active copy (R157, R159): the window columns in its span, its stagger, window start and column
base, the next window line to be handled, the pixel count of the slot whose segment is being read (none: no read in
flight), the segments read and not yet written, by window line, and for each of the 256 window lines whether its segment
has been found unavailable (R160). -/
structure CapStream where
  stream : Nat
  first : Nat
  last : Nat
  stagger : Nat
  winStart : Nat
  colBase : Nat
  next : Nat
  reading : Option Nat
  segments : List (Nat × List Byte)
  gone : List Bool
  deriving DecidableEq, Repr, Inhabited

/-- The active copy (R155). A window line and all before it are resolved when every capture stream's `next` is past it;
`missing` holds the 256 marks; `rowsOut` counts row writes in flight; `headerOut`: the header write has been issued. -/
structure Copy where
  slot : Nat
  flaw : Nat
  x0 : Nat
  yw : Int
  streams : List CapStream
  missing : List Bool
  nextRow : Nat
  rowsOut : Nat
  headerOut : Bool
  deriving DecidableEq, Repr, Inhabited

/-- The Capture Engine: the four slot states and the active copy. -/
structure Capture where
  slots : List CapState
  copy : Option Copy
  deriving DecidableEq, Repr, Inhabited

/-! ## Tally Unit (chapter 10) -/

/-- The report write state: a report in flight with its closing id, and, once a burst of it got an error response, the
address of that burst, while the bursts in flight are left to end (R164, R171). -/
inductive ReportState where
  | idle
  | writing (closing : Nat)
  | failing (closing addr : Nat)
  deriving DecidableEq, Repr, Inhabited

/-- The Tally Unit (R164): the tallies of the current shift in the order of `TallyKey.index` (Machine/Ops.lean), the first
and last plate retired, the SATURATED mark, the shift id and start, the report write state and the report buffer. -/
structure TallyUnit where
  counts : List Nat
  firstPlate : Option Nat
  lastPlate : Option Nat
  saturated : Bool
  shiftId : Nat
  shiftStart : Nat
  report : ReportState
  buffer : List Byte
  deriving DecidableEq, Repr, Inhabited

/-! ## Order Unit (chapter 11.3) -/

/-- What the Order Unit is about (R178). An order is its 64 bytes as fetched. `waiting`: for its not-before line; `ready`:
to be executed; `laneWait`: in the Lane Map for the end of a line's analysis (R86); `tableFetch` and `refreshFetch`: its
table is being read; `refreshWait`: the table is read and a record group's writes are in flight (R180); `shiftWait`: in
the Tally Unit for a report write in flight (R168); `fenceWait`: for the marked writes and for so many status block
writes, `fenceWriting` (R179); `completing`: the completion write with this code is in flight. -/
inductive OrderPhase where
  | idle
  | fetching
  | fetchFailed
  | waiting (order : List Byte)
  | ready (order : List Byte)
  | laneWait (order : List Byte)
  | tableFetch
  | refreshFetch (selector : Nat)
  | refreshWait (selector : Nat) (table : List Byte)
  | shiftWait (next : Nat)
  | fenceWait (addr value : Nat) (mark : Bool) (status : Nat)
  | fenceWriting (addr : Nat) (mark : Bool)
  | completing (code : Nat)
  deriving DecidableEq, Repr, Inhabited

/-- The Order Unit: head, and the current order's phase. The tail is the ORDER_TAIL latch. `orderAddr` is the address the
current order was fetched from. -/
structure OrderUnit where
  head : Nat
  orderAddr : Nat
  phase : OrderPhase
  deriving DecidableEq, Repr, Inhabited

/-! ## Record Writer (chapters 11.5 and 11.6) -/

/-- The five notice flags (R185). -/
structure Notices where
  fence : Bool
  log : Bool
  capture : Bool
  report : Bool
  fault : Bool
  deriving DecidableEq, Repr, Inhabited

/-- A flaw as its FLAW record and its routing carry it (R77). -/
structure Flaw where
  num : Nat
  source : Source
  cls : Nat
  polarity : Polarity
  y0 : Nat
  y1 : Nat
  c0 : Nat
  c1 : Nat
  area : Nat
  peak : Nat
  mean : Nat
  continued : Bool
  continuation : Bool
  avoid : Bool
  assigned : Bool
  notCaptured : Bool
  capSlot : Nat
  deriving DecidableEq, Repr, Inhabited

/-- A lane entry of a PIECE record (R152, R192); grade 0 is NONE. -/
structure PieceLane where
  label : Nat
  first : Nat
  count : Nat
  grade : Nat
  area : Nat
  points : Nat
  flaws : Nat
  kill1 : Bool
  kill2 : Bool
  kill3 : Bool
  uncovered : Bool
  deriving DecidableEq, Repr, Inhabited

/-- The events, in the order of the event code table (R195). -/
inductive EventKind where
  | seqBreak | headerBad | stampBad | writeFailed | overrun | holdExpired | lineTimeout | streamFaulted | streamLapsed
  | resumed
  | encoderInvalid | encoderBacklash | assemblyTimeout | fetchError
  | streakOn | streakOff
  | blobTableFull | pendingFull
  | profileClamped
  | requestLate | unplanned | starved | restarted
  | sealFailed | guardTicket | statusBad | confirmUnknown | lateConfirm | cutDeviation | cutMissed | nullWriteFailed
  | capturePartial | captureFailed
  | reportFailed
  | tailBad | anchorBad | guardStatus | orderFetchError | completionFailed | fenceFailed | windowBad | logLost
  deriving DecidableEq, Repr, Inhabited

/-- The body of a record (R192). -/
inductive RecordBody where
  | flaw (f : Flaw)
  | plate (p : Plate)
  | piece (lanes : List PieceLane)
  | event (k : EventKind) (fields : List Nat)
  deriving DecidableEq, Repr

/-- A record: its sequence number, E at its formation and its body (R192). -/
structure LogRecord where
  seq : Nat
  e : Nat
  body : RecordBody
  deriving DecidableEq, Repr

/-- A group of records (R181). `lostCount` is the count a LOG_LOST carries (R182); `fenced`: the current FENCE waits for
the group (R179). -/
structure LogGroup where
  records : List LogRecord
  lostCount : Option Nat
  fenced : Bool
  deriving DecidableEq, Repr

/-- The Record Writer (R181, R184, R185): the indexes, the next sequence number, the overflow flag, the lost count, the
pending buffer, the group whose writes are in flight, the notice flags, and whether a status block write is in flight
and another is pending. The image of a status block write is formed when it is issued (R184). -/
structure RecordWriter where
  writeIndex : Nat
  readIndex : Nat
  nextSeq : Nat
  overflow : Bool
  lost : Nat
  buffer : List LogGroup
  inFlight : Option LogGroup
  notices : Notices
  statusOut : Bool
  statusPending : Bool
  deriving DecidableEq, Repr

/-! ## Memory arbiter and the downstream port (R186) -/

/-- That a forwarded write belongs to a fill, and whether it is its completing write (R7). -/
structure FillNote where
  stream : Nat
  slot : Nat
  completing : Bool
  deriving DecidableEq, Repr, Inhabited

/-- A pass-through transaction. A forwarded write carries the fills its response concerns; a forwarded read carries the
ranges (offset, length) of its data that the Classifier replaces with the null ticket's bytes (R128). -/
inductive PassTxn where
  | write (w : UpWrite) (notes : List FillNote)
  | read (r : UpRead) (nulls : List (Nat × Nat))
  deriving DecidableEq, Repr

/-- What an own transaction is for. A write of the Ticket Unit carries `fenced`: the current FENCE waits for it (R179); a
null rewrite also carries `noted`: it is one of R138, whether or not the ring is still the one it was issued for. -/
inductive Purpose where
  | sealWrite (slot plate seq : Nat) (fenced : Bool)
  | nullWrite (slot seq : Nat) (noted fenced : Bool)
  | orderFetch
  | tableFetch
  | tableLoadFetch
  | completion
  | fence
  | pixel (stream : Nat)
  | seed (stream : Nat)
  | log
  | captureRead (stream : Nat)
  | captureRow
  | captureHeader
  | report
  | status
  deriving DecidableEq, Repr

/-- A read of so many bytes, or a write of these bytes with every strobe set (R188). -/
inductive OwnBody where
  | read (len : Nat)
  | write (bytes : List Byte)
  deriving DecidableEq, Repr

/-- An own transaction. `live` is false once what asked for it was abandoned: it ends, and its data and response are
disregarded (R28, R38, R163, R171, R176). -/
structure OwnTxn where
  purpose : Purpose
  live : Bool
  addr : Nat
  body : OwnBody
  deriving DecidableEq, Repr

/-- The Memory arbiter: the transactions waiting for a grant, the count of R186, and the transactions granted on the
downstream port and not yet answered, oldest first. -/
structure Arbiter where
  passWaiting : List PassTxn
  ownWaiting : List OwnTxn
  count : Nat
  passOut : List PassTxn
  ownOut : List OwnTxn
  deriving DecidableEq, Repr

/-! ## The whole part -/

/-- A response the upstream port returns: memory's, passed on unchanged, or the part's own (R128, R131, R175). -/
inductive Answer where
  | write (tag : Nat) (okay : Bool)
  | read (tag : Nat) (okay : Bool) (data : List Byte)
  deriving DecidableEq, Repr

/-- How the Classifier takes a write that a hold let go (R11, R12): as if it had just arrived, forwarded untracked, or
forwarded to its slot although the slot is busy. -/
inductive TakeMode where
  | arrive
  | untracked
  | forced
  deriving DecidableEq, Repr, Inhabited

/-- A write that the hold of a stream has let go (R11, R12). -/
structure LetGo where
  stream : Nat
  write : UpWrite
  mode : TakeMode
  deriving DecidableEq, Repr, Inhabited

/-- Everything the part holds. The last three fields are the model's: `pending` is the queue of commands to come,
`answers` the upstream responses returned so far, oldest first, and `toTake` the writes that holds have let go and that the
Classifier has still to take: between commands those that wait for a place in another stream's hold queue, and those of
the same stream behind them (log entry 35). -/
structure State where
  straps : BitVec 28
  enc : Encoder
  anchor : Anchor
  window : Window
  streams : List StreamRec
  asm : Assembler
  det : Detection
  blobs : BlobTracker
  lanes : LaneMap
  grades : GradeTable
  sched : Scheduler
  tickets : List SlotRec
  cap : Capture
  tally : TallyUnit
  orders : OrderUnit
  writer : RecordWriter
  arb : Arbiter
  toTake : List LetGo
  answers : List Answer
  pending : List Instr
  deriving DecidableEq, Repr

/-- No command faults: the manual describes no condition that stops the part, and a bus error is an input it acts on. -/
inductive Fault where
  deriving DecidableEq, Repr

/-- Why a command has no meaning. -/
inductive Refusal where
  /-- Raised by `exec` for a row of the table that has no meaning in this model (safe: the run stops). No arm raises it. -/
  | notModelled (mnemonic : String)
  deriving DecidableEq, Repr

/-! ## The machine right after reset -/

/-- A stream that is OFF (R21): no directory, no last accepted stamp, no fill, no hold, no entry stamp or episode (R28). -/
def StreamRec.off : StreamRec :=
  { state := .off, dir := [], lastStamp := none, fill := none, hold := none, runningSince := 0, lastReady := 0,
    entryStamp := none, episode := false, seed := none }

/-- A cached stream entry after pin reset: invalid (R21); its fields are not used while it is (log entry 4). -/
def StreamWindow.blank : StreamWindow :=
  { valid := false, base := 0, slotSize := 0, slotCount := 0, colBase := 0, winStart := 0, winStop := 0, stagger := 0,
    policy := .hold, holdLimit := 0, lineTimeout := 0, recover := false, tag := 0 }

/-- The window cache after pin reset: every part invalid (chapter 11.4). -/
def Window.blank : Window :=
  { header := { valid := false, silence := 0, timeout := 0 },
    streams := List.replicate 8 StreamWindow.blank,
    ticket := { valid := false, base := 0, count := 0, tag := 0 },
    log := { valid := false, base := 0, code := 0 },
    capture := { valid := false, base := 0 },
    report := { valid := false, base := 0, count := 0 } }

/-- A column after pin reset (R44). -/
def Column.blank : Column := { ref := 0, age := 0, streak := false, clearRun := 0 }

/-- The default profile of R92. -/
def Profile.reset : Profile :=
  { dark := 30, bright := 30, minRun := 2, shift := 8, streakLimit := 2048, gap := 2, minArea := 4 }

/-- A rule that matches no blob, its area range being empty (R76; log entry 5). -/
def ClassRule.blank : ClassRule :=
  { polarity := .any, elongMin := 0, elongMax := 0, minPeak := 0, areaMin := 1, areaMax := 0 }

/-- The grade table after pin reset (R141). -/
def GradeTable.reset : GradeTable :=
  { classes := List.replicate 8
      { avoid := false, capture := false, kill1 := false, kill2 := false, kill3 := false, core := 0, edge := 0 },
    denseCore := 0, denseEdge := 0, gapCore := 0, gapEdge := 0, prime := 0, standard := 0, second := 0,
    bandColumns := 0, bandLines := 0, cap := 4, loaded := false }

/-- How many tallies the Tally Unit holds (R164; their places are `TallyKey.index` in Machine/Ops.lean). -/
def tallyPlaces : Nat := 185

/-- The status block image that pin reset prompts (R184): every field zero but the identity and the next ticket
sequence 1. `resetImage_is_image` (Laws/State.lean) says that it is the image of `State.reset`. -/
def resetImage : List Byte :=
  [0x74, 0x4C, Config.revision.setWidth 8, (Config.revision >>> 8).setWidth 8]
    ++ List.replicate 32 0 ++ [1] ++ List.replicate 219 0

/-- The status block write that pin reset prompts, to the anchor page at `base` (R184). -/
def resetStatusWrite (base : Nat) : OwnTxn :=
  { purpose := .status, live := true, addr := base + 0x800, body := .write resetImage }

/-- The part right after pin reset, nothing having happened before it: R21, R26, R28, R44, R63, R72, R74, R76, R77, R80,
R84, R92, R98, R99, R125, R141, R155, R172, R174, R177, R181, R184, R185, R186. The strap pins and the state of the
quadrature input are inputs that the manual gives no value (log entry 3). -/
def State.reset : State :=
  { straps := 0,
    enc := { e := 0, backlash := 0, phase1 := false, phase2 := false, invalidReported := false },
    anchor := { control := 0, orderBase := 0, orderSize := 0, orderTail := 0, tablePtr := 0, logRead := 0,
                logHighWater := 0, noticeEnable := 0, noticeAck := 0, captureRelease := 0 },
    window := Window.blank,
    streams := List.replicate 8 StreamRec.off,
    asm := { a := 0, record := none, analysing := false },
    det := { columns := List.replicate Config.columnCount Column.blank,
             streakCounts := List.replicate Config.groupCount 0, runs := [] },
    blobs := { table := List.replicate Config.blobPlaces .free, nextBlob := 0, dense := none, mark := none,
               gaps := List.replicate Config.groupCount none, splits := [],
               rules := List.replicate 7 ClassRule.blank, nextFlaw := 1 },
    lanes := { groups := List.replicate Config.groupCount none,
               lanes := List.replicate 15 { kind := .edge, profile := 0 },
               profiles := List.replicate 8 Profile.reset },
    grades := GradeTable.reset,
    sched := { plan := none, active := false, start := 0, nextPlate := 1, nextSeq := 1, queue := [], request := none,
               replan := none, flaws := [], zone := none },
    tickets := [],
    cap := { slots := List.replicate 4 .free, copy := none },
    tally := { counts := List.replicate tallyPlaces 0, firstPlate := none, lastPlate := none, saturated := false,
               shiftId := 0, shiftStart := 0, report := .idle, buffer := [] },
    orders := { head := 0, orderAddr := 0, phase := .idle },
    writer := { writeIndex := 0, readIndex := 0, nextSeq := 0, overflow := false, lost := 0, buffer := [],
                inFlight := none,
                notices := { fence := false, log := false, capture := false, report := false, fault := false },
                statusOut := true, statusPending := false },
    arb := { passWaiting := [], ownWaiting := [resetStatusWrite 0], count := 0, passOut := [], ownOut := [] },
    toTake := [], answers := [], pending := [] }

end Sys2Proof.Machine
end

