-- ==== Sys2Proof/Machine/Flags.lean ====
section
/-! DEFINITION. The flags the part shows: ENABLE, the notice flags and IRQ (R185), the enabled state (R176) and the fields of
the status block (R184). -/

namespace Sys2Proof.Machine

/-- ENABLE, bit 0 of the CONTROL latch (R194). -/
def enabled (s : State) : Bool := s.anchor.control.getLsbD 0

/-- The value of a flag at bit `i` of a flag byte. -/
def flagAt (b : Bool) (i : Nat) : Nat := if b then 2 ^ i else 0

/-- The notice bits of R194. -/
def Notices.bits (n : Notices) : Nat :=
  flagAt n.fence 0 + flagAt n.log 1 + flagAt n.capture 2 + flagAt n.report 3 + flagAt n.fault 4

/-- The flags whose bit the mask carries. -/
def Notices.masked (n : Notices) (mask : BitVec 8) : Notices :=
  { fence := n.fence && mask.getLsbD 0, log := n.log && mask.getLsbD 1, capture := n.capture && mask.getLsbD 2,
    report := n.report && mask.getLsbD 3, fault := n.fault && mask.getLsbD 4 }

/-- A latched NOTICE_ACK clears each flag written as one; bits above the five do nothing (R185). -/
def Notices.acknowledged (n : Notices) (mask : BitVec 8) : Notices := n.masked (~~~mask)

/-- At least one flag is set. -/
def Notices.some (n : Notices) : Bool := n.fence || n.log || n.capture || n.report || n.fault

/-- IRQ: asserted while a flag is set whose bit is set in NOTICE_ENABLE (R185). -/
def irq (s : State) : Bool := (s.writer.notices.masked s.anchor.noticeEnable).some

/-- A null rewrite of R138. -/
def Purpose.drains : Purpose → Bool
  | .nullWrite _ _ noted _ => noted
  | _ => false

/-- A null rewrite of R138 waits for its grant or for its response. -/
def drainsOut (a : Arbiter) : Bool := (a.ownWaiting ++ a.ownOut).any (·.purpose.drains)

/-- The code of the enabled state (R176, R194). DRAINING lasts while a slot noted at a disable waits for its null rewrite,
and while a null rewrite of R138 is in flight, be it to a ring that a REFRESH has replaced since (log entry 19). -/
def enabledCode (s : State) : Nat :=
  if enabled s then 1 else if s.tickets.any (·.noted) || drainsOut s.arb then 2 else 0

/-- The fields of the status block other than the identity word (R184, R194). -/
structure StatusFields where
  enabled : Nat
  notices : Nat
  overflow : Bool
  e : Nat
  a : Nat
  start : Nat
  head : Nat
  depth : Nat
  nextSeq : Nat
  writeIndex : Nat
  lost : Nat
  shiftId : Nat
  streams : List StreamState
  captures : List CapState
  deriving DecidableEq, Repr

/-- The status block fields as they stand (R184). -/
def statusFields (s : State) : StatusFields :=
  { enabled := enabledCode s, notices := s.writer.notices.bits, overflow := s.writer.overflow, e := s.enc.e,
    a := s.asm.a, start := s.sched.start, head := s.orders.head, depth := s.sched.queue.length,
    nextSeq := s.sched.nextSeq, writeIndex := s.writer.writeIndex, lost := s.writer.lost, shiftId := s.tally.shiftId,
    streams := s.streams.map (·.state), captures := s.cap.slots }

end Sys2Proof.Machine
end

