-- ==== Sys2Proof/Machine/Layout.lean ====
section
/-! DEFINITION. The byte layouts of every structure the part writes or reads in memory (chapter 12, R187 to R195), and the
codes of its enumerated fields. -/

namespace Sys2Proof.Machine

/-! ## Little-endian fields (R187) -/

/-- The `n` low bytes of `v`, least significant first. -/
def leBytes : Nat → Nat → List Byte
  | 0, _ => []
  | n + 1, v => BitVec.ofNat 8 v :: leBytes n (v / 256)

/-- The number that bytes spell, least significant first. -/
def leNat : List Byte → Nat
  | [] => 0
  | b :: bs => b.toNat + 256 * leNat bs

/-- The field of `size` bytes at offset `off`. -/
def fieldAt (bytes : List Byte) (off size : Nat) : Nat := leNat ((bytes.drop off).take size)

/-- Reserved bytes, written as zero (R187). -/
def zeros (n : Nat) : List Byte := List.replicate n 0

/-! ## Codes -/

/-- Kinds in a ticket and a PLATE record; 0 is HOLD (R190). -/
def PlateKind.code : PlateKind → Nat
  | .nominal => 1 | .requested => 2 | .short => 3 | .cullet => 4 | .late => 5

/-- End states in a PLATE record, and the states before of CUT_MISSED (R192). A plate that is DECIDED or SEALING has
neither; its code is 0. -/
def PlateState.code : PlateState → Nat
  | .cut => 1 | .skipped => 2 | .missed => 3 | .sealFailed => 4 | .sealed => 5 | .taken => 6 | .decided => 0 | .sealing => 0

def StreamState.code : StreamState → Nat
  | .off => 0 | .seeding => 1 | .running => 2 | .lapsed => 3 | .faulted => 4

def CapState.code : CapState → Nat
  | .free => 0 | .filling => 1 | .locked => 2

def Source.code : Source → Nat
  | .blob => 1 | .dense => 2 | .gap => 3

def Polarity.code : Polarity → Nat
  | .none => 0 | .dark => 1 | .bright => 2

/-- The event codes (R195). -/
def EventKind.code : EventKind → Nat
  | .seqBreak => 0x01 | .headerBad => 0x02 | .stampBad => 0x03 | .writeFailed => 0x04 | .overrun => 0x05
  | .holdExpired => 0x06 | .lineTimeout => 0x07 | .streamFaulted => 0x08 | .streamLapsed => 0x09 | .resumed => 0x0A
  | .encoderInvalid => 0x10 | .encoderBacklash => 0x11 | .assemblyTimeout => 0x12 | .fetchError => 0x13
  | .streakOn => 0x18 | .streakOff => 0x19
  | .blobTableFull => 0x20 | .pendingFull => 0x21
  | .profileClamped => 0x28
  | .requestLate => 0x30 | .unplanned => 0x31 | .starved => 0x32 | .restarted => 0x33
  | .sealFailed => 0x38 | .guardTicket => 0x39 | .statusBad => 0x3A | .confirmUnknown => 0x3B | .lateConfirm => 0x3C
  | .cutDeviation => 0x3D | .cutMissed => 0x3E | .nullWriteFailed => 0x3F
  | .capturePartial => 0x48 | .captureFailed => 0x49
  | .reportFailed => 0x50
  | .tailBad => 0x58 | .anchorBad => 0x59 | .guardStatus => 0x5A | .orderFetchError => 0x5B
  | .completionFailed => 0x5C | .fenceFailed => 0x5D | .windowBad => 0x5E | .logLost => 0x5F

/-- The error mark: every event but RESUMED, STREAK_OFF, RESTARTED and CAPTURE_PARTIAL (R18, R43, R61, R83, R95, R122,
R140, R163, R172, chapter 11). -/
def EventKind.isError : EventKind → Bool
  | .resumed | .streakOff | .restarted | .capturePartial => false
  | _ => true

/-! ## Tickets (R190) -/

/-- The 64 bytes of a ticket, its status field zero (R126, R190). -/
def ticketBytes (p : Plate) : List Byte :=
  leBytes 4 p.seq ++ leBytes 4 p.num ++ leBytes 6 p.cut ++ leBytes 2 (p.cut - p.start) ++ leBytes 1 p.kind.code
    ++ leBytes 1 (flagAt p.forced 0 + flagAt p.unverified 1 + flagAt p.replanned 2) ++ zeros 30 ++ zeros 16

/-- The null ticket: 64 zero bytes (R190). -/
def nullTicket : List Byte := zeros 64

/-! ## Records (R192) -/

def flawBody (f : Flaw) : List Byte :=
  leBytes 4 f.num ++ leBytes 1 f.source.code ++ leBytes 1 f.cls ++ leBytes 1 f.polarity.code
    ++ leBytes 1 (flagAt f.continued 0 + flagAt f.continuation 1 + flagAt f.avoid 2 + flagAt f.assigned 3
        + flagAt f.notCaptured 4)
    ++ leBytes 6 f.y0 ++ leBytes 2 f.c0 ++ leBytes 6 f.y1 ++ leBytes 2 f.c1 ++ leBytes 4 f.area ++ leBytes 1 f.peak
    ++ leBytes 1 f.mean ++ leBytes 1 f.capSlot ++ zeros 17

/-- PIECE records a plate writes: four lane entries each (R115, R152). -/
def pieceRecordCount (p : Plate) : Nat := (p.lanes.length + 3) / 4

def plateBody (p : Plate) : List Byte :=
  leBytes 4 p.num ++ leBytes 4 p.seq ++ leBytes 6 p.start ++ leBytes 2 (p.cut - p.start) ++ leBytes 6 p.cut
    ++ leBytes 1 p.kind.code ++ leBytes 1 p.state.code
    ++ leBytes 1 (flagAt p.forced 0 + flagAt p.unverified 1 + flagAt p.replanned 2 + flagAt p.deviation 3
        + flagAt p.lateConfirmed 4)
    ++ leBytes 1 p.lanes.length ++ leBytes 1 (pieceRecordCount p) ++ zeros 21

def pieceLaneBytes (l : PieceLane) : List Byte :=
  leBytes 1 l.label ++ leBytes 1 l.first ++ leBytes 1 l.count ++ leBytes 1 l.grade ++ leBytes 4 l.area
    ++ leBytes 2 l.points ++ leBytes 1 l.flaws
    ++ leBytes 1 (flagAt l.kill1 0 + flagAt l.kill2 1 + flagAt l.kill3 2 + flagAt l.uncovered 3)

/-- Up to four lane entries of 12 bytes; an unused entry is zero. -/
def pieceBody (lanes : List PieceLane) : List Byte :=
  (((lanes.take 4).map pieceLaneBytes).flatten ++ zeros 48).take 48

def eventBody (k : EventKind) (fields : List Nat) : List Byte :=
  leBytes 2 k.code ++ leBytes 1 (flagAt k.isError 0) ++ zeros 5
    ++ (((fields.take 4).map (leBytes 8)).flatten ++ zeros 32).take 32 ++ zeros 8

def RecordBody.kindCode : RecordBody → Nat
  | .flaw _ => 1 | .plate _ => 2 | .piece _ => 3 | .event _ _ => 4

def RecordBody.bytes : RecordBody → List Byte
  | .flaw f => flawBody f
  | .plate p => plateBody p
  | .piece lanes => pieceBody lanes
  | .event k fields => eventBody k fields

/-- The 64 bytes of a record: its kind, sequence number and E at formation, then its body from 0x10 (R192). -/
def LogRecord.bytes (r : LogRecord) : List Byte :=
  leBytes 1 r.body.kindCode ++ zeros 3 ++ leBytes 4 r.seq ++ leBytes 6 r.e ++ zeros 2 ++ r.body.bytes

/-! ## Capture header and status block (R193, R194) -/

/-- A signed 8-byte field in two's complement (R187). -/
def signedBytes8 (v : Int) : List Byte := leBytes 8 (BitVec.ofInt 64 v).toNat

/-- The 256-byte capture header (R193). -/
def captureHeaderBytes (flaw : Nat) (yw : Int) (x0 missing : Nat) : List Byte :=
  leBytes 4 flaw ++ zeros 4 ++ signedBytes8 yw ++ leBytes 2 x0 ++ leBytes 2 missing ++ zeros 236

/-- The 256-byte status block image (R184, R194). -/
def statusImage (f : StatusFields) : List Byte :=
  leBytes 2 Config.familyCode ++ [Config.revision.setWidth 8, (Config.revision >>> 8).setWidth 8]
    ++ leBytes 1 f.enabled ++ leBytes 1 f.notices ++ leBytes 1 (flagAt f.overflow 0) ++ zeros 1
    ++ leBytes 6 f.e ++ zeros 2 ++ leBytes 6 f.a ++ zeros 2 ++ leBytes 6 f.start ++ zeros 2
    ++ leBytes 2 f.head ++ leBytes 1 f.depth ++ zeros 1 ++ leBytes 4 f.nextSeq ++ leBytes 4 f.writeIndex
    ++ leBytes 4 f.lost ++ leBytes 4 f.shiftId
    ++ ((f.streams.map (fun x => leBytes 1 x.code)).flatten ++ zeros 8).take 8
    ++ ((f.captures.map (fun x => leBytes 1 x.code)).flatten ++ zeros 4).take 4 ++ zeros 192

/-- The four bytes of a completion word: the code, a reserved byte and the mask (R191). -/
def completionBytes (code mask : Nat) : List Byte := leBytes 1 code ++ zeros 1 ++ leBytes 2 mask

end Sys2Proof.Machine
end

