-- ==== Sys2Proof/Machine/Ops.lean ====
section
/-! DEFINITION. The operations every block uses: reading and changing a stream's record, adding to a tally (R164, R165), handing a
transaction to the Memory arbiter (R186), handing records and events to the Record Writer (R181, R182), setting notices
(R185), refreshing the status block (R184) and completing an order (R178). -/

namespace Sys2Proof.Machine

/-! ## Access -/

/-- The address of the anchor page: the strap pins give bits 39 to 12 (R173). -/
def anchorBase (s : State) : Nat := s.straps.toNat * 4096

/-- A stream's record. -/
def stream (s : State) (n : Nat) : StreamRec := s.streams.getD n StreamRec.off

/-- A stream's cached window table entry. -/
def streamWindow (s : State) (n : Nat) : StreamWindow := s.window.streams.getD n StreamWindow.blank

/-- Changes one stream's record. -/
def modStream (n : Nat) (f : StreamRec → StreamRec) (s : State) : State := { s with streams := s.streams.modify n f }

/-- A directory entry that holds nothing (R3). -/
def DirEntry.blank : DirEntry :=
  { stamp := none, pixels := 0, state := .empty, pin := false, awaiting := false, failed := false }

/-- A slot's directory entry. -/
def dirEntry (s : State) (n k : Nat) : DirEntry := (stream s n).dir.getD k DirEntry.blank

/-- Changes one directory entry. -/
def modDir (n k : Nat) (f : DirEntry → DirEntry) (s : State) : State :=
  modStream n (fun r => { r with dir := r.dir.modify k f }) s

/-! ## Tallies -/

/-- The tallies of R164. Labels run from 1 and grades from 1. -/
inductive TallyKey where
  | decided (k : PlateKind)
  | decidedLength
  | unplannedLength
  | sAdvance
  | forced
  | retired (e : PlateState)
  | abandoned
  | areaByGrade (grade : Nat)
  | flaw (cls : Nat)
  | specks
  | overrun (stream : Nat)
  | held (stream : Nat)
  | missing (stream : Nat)
  | expiries (stream : Nat)
  | captureTaken
  | captureRejected
  | nullServed
  | recordsLost
  | lanePieces (label grade : Nat)
  | laneArea (label grade : Nat)
  deriving DecidableEq, Repr

/-- The place of a tally in `TallyUnit.counts`. -/
def TallyKey.index : TallyKey → Nat
  | .decided k => k.code - 1
  | .decidedLength => 5
  | .unplannedLength => 6
  | .sAdvance => 7
  | .forced => 8
  | .retired e => 8 + e.code
  | .abandoned => 13
  | .areaByGrade g => 13 + g
  | .flaw c => 18 + c
  | .specks => 28
  | .overrun n => 29 + n
  | .held n => 37 + n
  | .missing n => 45 + n
  | .expiries n => 53 + n
  | .captureTaken => 61
  | .captureRejected => 62
  | .nullServed => 63
  | .recordsLost => 64
  | .lanePieces l g => 65 + 4 * (l - 1) + (g - 1)
  | .laneArea l g => 125 + 4 * (l - 1) + (g - 1)

/-- The top of a tally's range (R164). -/
def TallyKey.top : TallyKey → Nat
  | .decidedLength | .unplannedLength | .sAdvance => 2 ^ 48 - 1
  | .areaByGrade _ | .laneArea _ _ => 2 ^ 64 - 1
  | .expiries _ => 255
  | _ => 65535

/-- The present value of a tally. -/
def tallyOf (t : TallyUnit) (k : TallyKey) : Nat := t.counts.getD k.index 0

/-- Adds a report to a tally, which holds at the top of its range; the first report that would pass it sets SATURATED
(R164). -/
def TallyUnit.add (t : TallyUnit) (k : TallyKey) (amount : Nat) : TallyUnit :=
  let v := tallyOf t k + amount
  if v ≤ k.top then { t with counts := t.counts.set k.index v }
  else { t with counts := t.counts.set k.index k.top, saturated := true }

/-- A report taken by the Tally Unit (R165). -/
def tallyAdd (k : TallyKey) (amount : Nat) (s : State) : State := { s with tally := s.tally.add k amount }

/-! ## Transactions of the part's own -/

/-- Hands an own transaction to the Memory arbiter (R186). -/
def issueOwn (p : Purpose) (addr : Nat) (body : OwnBody) (s : State) : State :=
  { s with arb := { s.arb with ownWaiting := s.arb.ownWaiting ++ [{ purpose := p, live := true, addr := addr, body := body }] } }

/-- Hands read bursts, each an address and a length, to the Memory arbiter in ascending order (R36). -/
def issueReads (p : Purpose) (bursts : List (Nat × Nat)) (s : State) : State :=
  bursts.foldl (fun s b => issueOwn p b.1 (.read b.2) s) s

/-- Marks the transactions of a purpose as abandoned: they end and concern nothing (R28, R38, R176). -/
def disown (p : Purpose → Bool) (s : State) : State :=
  let kill := fun t : OwnTxn => if p t.purpose then { t with live := false } else t
  { s with arb := { s.arb with ownWaiting := s.arb.ownWaiting.map kill, ownOut := s.arb.ownOut.map kill } }

/-- Takes back the requests of a purpose that are not yet granted, and marks those granted as abandoned (R163). The
count of R186 returns to 0 when no own request is left waiting. -/
def withdrawOwn (p : Purpose → Bool) (s : State) : State :=
  let left := s.arb.ownWaiting.filter (fun t => !p t.purpose)
  let kill := fun t : OwnTxn => if p t.purpose then { t with live := false } else t
  { s with arb := { s.arb with
      ownWaiting := left, ownOut := s.arb.ownOut.map kill, count := if left.isEmpty then 0 else s.arb.count } }

/-- Takes back the requests of a purpose that are not yet granted, and lets those granted end (R171). The count of R186 returns
to 0 when no own request is left waiting. -/
def recallOwn (p : Purpose → Bool) (s : State) : State :=
  let left := s.arb.ownWaiting.filter (fun t => !p t.purpose)
  { s with arb := { s.arb with ownWaiting := left, count := if left.isEmpty then 0 else s.arb.count } }

/-- The first entry of a list that a test accepts, and the list without it. -/
def takeFirst {α : Type} (p : α → Bool) : List α → Option (α × List α)
  | [] => none
  | x :: xs =>
    if p x then some (x, xs)
    else match takeFirst p xs with
      | some (y, ys) => some (y, x :: ys)
      | none => none

/-- The response to the oldest granted own transaction of a purpose: the transaction, and the state without it. -/
def answerOwn (p : Purpose → Bool) (s : State) : Option (OwnTxn × State) :=
  match takeFirst (fun t => p t.purpose) s.arb.ownOut with
  | some (t, rest) => some (t, { s with arb := { s.arb with ownOut := rest } })
  | none => none

/-- The transactions of one fetch in bursts, once every one of them is granted; none while one still waits. Those that were
abandoned are passed over (DESIGN CHOICE, log entry 61). -/
def allGranted (p : Purpose → Bool) (s : State) : Option (List OwnTxn) :=
  if s.arb.ownWaiting.any (fun t => t.live && p t.purpose) then none
  else some (s.arb.ownOut.filter (fun t => t.live && p t.purpose))

/-- Takes the answered transactions of a purpose off the port, abandoned ones with them. -/
def clearOut (p : Purpose → Bool) (s : State) : State :=
  { s with arb := { s.arb with ownOut := s.arb.ownOut.filter (fun t => !p t.purpose) } }

/-- The bytes an own transaction asks for. -/
def OwnTxn.readLength (t : OwnTxn) : Nat :=
  match t.body with
  | .read n => n
  | .write _ => 0

/-- The results are those of these reads: one for each, with its bytes unless it failed. -/
def resultsFit : List OwnTxn → List ReadResult → Bool
  | [], [] => true
  | t :: ts, r :: rs => (!r.okay || decide (r.data.length = t.readLength)) && resultsFit ts rs
  | _, _ => false

/-! ## The record log -/

/-- Records the log holds; none while entry 9 is invalid (R180; log entry 21). -/
def logSize (s : State) : Nat := if s.window.log.valid then 2 ^ (s.window.log.code + 6) else 0

/-- Records not yet read by the host (R183). -/
def unread (w : RecordWriter) : Nat := (w.writeIndex + Config.wordModulus - w.readIndex) % Config.wordModulus

/-- Records in the pending buffer. -/
def bufferedRecords (w : RecordWriter) : Nat := (w.buffer.map (fun g => g.records.length)).sum

/-- The lost count, 32 bits, with `n` added (R181); past its top it is a free value (log entry 46). -/
def lostWith (lost n : Nat) : Nat :=
  if lost + n < Config.wordModulus then lost + n else (Config.lostPastTop lost n).toNat

/-- The lost count with a LOG_LOST's count taken off (R182); below zero it is a free value (log entry 46). -/
def lostLess (lost n : Nat) : Nat := if n ≤ lost then lost - n else (Config.lostBelowZero lost n).toNat

/-- A group of `n` records is lost (R181). -/
def loseRecords (n : Nat) (s : State) : State :=
  tallyAdd .recordsLost n { s with writer := { s.writer with lost := lostWith s.writer.lost n, overflow := true } }

/-- The successive 64-byte writes of a group from log index `i` on (R181). -/
def issueRecords (base size : Nat) : Nat → List LogRecord → State → State
  | _, [], s => s
  | i, r :: rs, s => issueRecords base size (i + 1) rs (issueOwn .log (base + 64 * (i % size)) (.write r.bytes) s)

/-- Takes the groups of the buffer in turn from its head, entry 9 being valid and no group's writes in flight: the head
group is lost at once while the overflow flag is set or it does not fit; otherwise it leaves the buffer and is written
(R181). -/
def takeGroups : List LogGroup → State → State
  | [], s => { s with writer := { s.writer with buffer := [] } }
  | g :: rest, s =>
    if s.writer.overflow || decide (logSize s - unread s.writer < g.records.length) then
      takeGroups rest (loseRecords g.records.length s)
    else
      issueRecords s.window.log.base (logSize s) s.writer.writeIndex g.records
        { s with writer := { s.writer with buffer := rest, inFlight := some g } }

/-- Lets the Record Writer take the next group if it may (R181). -/
def pumpLog (s : State) : State :=
  if s.window.log.valid && s.writer.inFlight.isNone then takeGroups s.writer.buffer s else s

/-- Numbers the records of a group: each takes the next sequence number (R181). -/
def numberRecords (e : Nat) : Nat → List RecordBody → List LogRecord
  | _, [] => []
  | seq, b :: bs => { seq := seq % Config.wordModulus, e := e, body := b } :: numberRecords e (seq + 1) bs

/-- Hands a group of records to the Record Writer. A group that does not fit in the pending buffer is lost at once
(R181). -/
def handGroup (bodies : List RecordBody) (s : State) : State :=
  let g : LogGroup := { records := numberRecords s.enc.e s.writer.nextSeq bodies, lostCount := none, fenced := false }
  let s1 := { s with writer := { s.writer with nextSeq := (s.writer.nextSeq + bodies.length) % Config.wordModulus } }
  if bufferedRecords s1.writer + bodies.length ≤ Config.recordPlaces then
    pumpLog { s1 with writer := { s1.writer with buffer := s1.writer.buffer ++ [g] } }
  else loseRecords bodies.length s1

/-- Sets notice flags (R185). -/
def setNotices (f : Notices → Notices) (s : State) : State :=
  { s with writer := { s.writer with notices := f s.writer.notices } }

/-- Hands an EVENT record to the Record Writer; an event with an error code sets FAULT, whether or not its record is
then written (R185). -/
def issueEvent (k : EventKind) (fields : List Nat) (s : State) : State :=
  handGroup [.event k fields] (if k.isError then setNotices (fun n => { n with fault := true }) s else s)

/-- Forms LOG_LOST with the lost count; it takes the next sequence number and stands alone at the head of the buffer, the
groups there being lost first (R182; log entry 22). -/
def formLogLost (s : State) : State :=
  let s1 := loseRecords (bufferedRecords s.writer) { s with writer := { s.writer with buffer := [] } }
  let g : LogGroup :=
    { records := numberRecords s1.enc.e s1.writer.nextSeq [.event .logLost [s1.writer.lost]],
      lostCount := some s1.writer.lost, fenced := false }
  pumpLog (setNotices (fun n => { n with fault := true })
    { s1 with writer := { s1.writer with
        overflow := false, nextSeq := (s1.writer.nextSeq + 1) % Config.wordModulus, buffer := [g] } })

/-! ## The status block -/

/-- Issues a status block write with the image as it stands (R184). -/
def issueStatus (s : State) : State :=
  issueOwn .status (anchorBase s + 0x800) (.write (statusImage (statusFields s)))
    { s with writer := { s.writer with statusOut := true } }

/-- Prompts a status block write: at most one in flight and one pending (R184). -/
def promptStatus (s : State) : State :=
  if s.writer.statusOut then { s with writer := { s.writer with statusPending := true } } else issueStatus s

/-- Any change of a field, over the whole of an act, prompts a write (R184). A command is one act, but for RESTART, whose
decisions follow its completion (R119), and for the writes a hold lets go, each an act of its own (log entry 20). -/
def refreshStatus (before s : State) : State :=
  if statusFields s = statusFields before then s else promptStatus s

/-! ## Completing an order -/

/-- The completion codes (R191). -/
inductive Completion where
  | done | clamped | busy | conflict | noncontiguous | unknownLabel | overlap | range | planBad | tableBad | inUse | badOrder
  deriving DecidableEq, Repr

def Completion.code : Completion → Nat
  | .done => 1 | .clamped => 2 | .busy => 3 | .conflict => 4 | .noncontiguous => 5 | .unknownLabel => 6 | .overlap => 7
  | .range => 8 | .planBad => 9 | .tableBad => 10 | .inUse => 11 | .badOrder => 12

/-- Orders the ring holds: 2^(code + 6) (R177). -/
def ringSize (s : State) : Nat := 2 ^ (s.anchor.orderSize.toNat + 6)

/-- The owning block has acted: the Order Unit writes the completion word to the order's last four bytes (R178), at the address
that the order was fetched from, which is not reduced to 40 bits either (DESIGN CHOICE, log entry 64). -/
def completeMasked (c : Completion) (mask : Nat) (s : State) : State :=
  issueOwn .completion (s.orders.orderAddr + 0x3C) (.write (completionBytes c.code mask))
    { s with orders := { s.orders with phase := .completing c.code } }

/-- Completes the current order with a mask of 0 (R191). -/
def complete (c : Completion) (s : State) : State := completeMasked c 0 s

end Sys2Proof.Machine
end

