-- ==== Sys2Proof/Machine/Operands.lean ====
section
/-! DEFINITION. The operand forms: spans of transactions and of address ranges, a write's portions by ring slot (R2), the bytes a
write lays into a latch (R174), slot headers (R4, R190), the read bursts of a span (R36), and the fields of an order and of
a window table part (R187, R191). -/

namespace Sys2Proof.Machine

/-! ## Spans -/

/-- Two address ranges, each a first address and a length, share a byte. -/
def overlaps (a la b lb : Nat) : Bool := decide (0 < la) && decide (0 < lb) && decide (a < b + lb) && decide (b < a + la)

/-- A range lies wholly within the 40-bit address space. -/
def inAddressSpace (a len : Nat) : Bool := decide (a + len ≤ Config.addressEnd)

/-- The strobed byte a write carries for an address. -/
def byteFor (w : UpWrite) (addr : Nat) : Option Byte :=
  if addr < w.addr then none else w.data.getD (addr - w.addr) none

/-- A strobed byte of the write falls in the range. -/
def strobedIn (w : UpWrite) (addr len : Nat) : Bool :=
  (List.range len).any (fun i => (byteFor w (addr + i)).isSome)

/-- The value of a field of `size` bytes after a write: each strobed byte that falls in it replaces that byte (R174). -/
def latched (w : UpWrite) (addr size old : Nat) : Nat :=
  leNat ((List.range size).map (fun i => (byteFor w (addr + i)).getD (BitVec.ofNat 8 (old / 256 ^ i))))

/-! ## Ring slots -/

/-- Bytes of a stream's ring (R1). -/
def ringBytes (w : StreamWindow) : Nat := w.slotSize * w.slotCount

/-- The address of slot `k` (R1). -/
def slotAddr (w : StreamWindow) (k : Nat) : Nat := w.base + k * w.slotSize

/-- An address lies in the stream's ring. -/
def inRing (w : StreamWindow) (addr : Nat) : Bool := decide (w.base ≤ addr) && decide (addr < w.base + ringBytes w)

/-- A portion of a write, as tracking takes it: a slot, the offset of its first byte in the slot, its bytes (R2). -/
structure Portion where
  slot : Nat
  offset : Nat
  data : List (Option Byte)
  deriving DecidableEq, Repr

/-- Splits a write at each slot boundary; what lies beyond the end of the ring is not tracked (R2). `off` is the offset in
the ring; the fuel is the number of bytes. -/
def splitAtSlots (w : StreamWindow) : Nat → Nat → List (Option Byte) → List Portion
  | 0, _, _ => []
  | fuel + 1, off, data =>
    if data.isEmpty || decide (ringBytes w ≤ off) then []
    else
      let n := w.slotSize - off % w.slotSize
      { slot := off / w.slotSize, offset := off % w.slotSize, data := data.take n } ::
        splitAtSlots w fuel (off + n) (data.drop n)

/-- The portions of a write whose first byte lies in the ring, in ascending address order. -/
def portions (w : StreamWindow) (u : UpWrite) : List Portion := splitAtSlots w u.data.length (u.addr - w.base) u.data

/-- The columns a stream covers, first and last (R1). -/
def spanFirst (w : StreamWindow) : Nat := w.colBase

def spanLast (w : StreamWindow) : Nat := w.colBase + (w.winStop - w.winStart) - 1

/-- The slot header's stamp and pixel count (R190), unless the header is rejected: shorter than 32 bytes, a strobe clear, a
wrong check, or a pixel count of 0, above 4096 or above slot size − 32 (R4). -/
def parseHeader (slotSize : Nat) (data : List (Option Byte)) : Option (Nat × Nat) :=
  let head := data.take 32
  if head.length < 32 || head.any Option.isNone then none
  else
    let bytes := head.map (fun b => b.getD 0)
    let count := fieldAt bytes 6 2
    if fieldAt bytes 0x1E 2 = ((bytes.take 30).map BitVec.toNat).sum % 65536 ∧ 0 < count ∧ count ≤ 4096 ∧
        count + 32 ≤ slotSize then
      some (fieldAt bytes 0 6, count)
    else none

/-! ## Read bursts -/

/-- Bursts from one 16-byte boundary to another: at most 256 bytes each, none across a 4 KiB boundary (R36). -/
def splitBursts : Nat → Nat → Nat → List (Nat × Nat)
  | 0, _, _ => []
  | fuel + 1, cur, stop =>
    if stop ≤ cur then []
    else
      let next := min (min (cur + 256) stop) ((cur / 4096 + 1) * 4096)
      (cur, next - cur) :: splitBursts fuel next stop

/-- The bursts that read `len` bytes from `addr` in whole 16-byte beats (R36). -/
def bursts (addr len : Nat) : List (Nat × Nat) :=
  if len = 0 then []
  else
    let first := addr / 16 * 16
    let stop := (addr + len + 15) / 16 * 16
    splitBursts ((stop - first) / 16) first stop

/-- The `len` bytes from `addr` that the bursts of that span returned; bytes outside the span are discarded (R36). -/
def spanBytes (addr len : Nat) (results : List ReadResult) : List Byte :=
  (((results.map (·.data)).flatten).drop (addr % 16)).take len

/-- Write bursts of at most 256 bytes in ascending address order (R171); the fuel is their number. -/
def splitWrites : Nat → Nat → List Byte → List (Nat × List Byte)
  | 0, _, _ => []
  | fuel + 1, addr, data =>
    if data.isEmpty then [] else (addr, data.take 256) :: splitWrites fuel (addr + 256) (data.drop 256)

/-! ## Orders (R191) -/

/-- The kind field of an order. -/
def orderKind (o : List Byte) : Nat := fieldAt o 0 1

/-- The not-before line, if the order carries one (R178). -/
def orderNotBefore (o : List Byte) : Option Nat := if fieldAt o 1 1 = 1 then some (fieldAt o 8 6) else none

/-- The codes of the order kinds (R191). -/
def kindNop : Nat := 0
def kindFence : Nat := 1
def kindRefresh : Nat := 2
def kindStreamStart : Nat := 3
def kindStreamStop : Nat := 4
def kindProfileLoad : Nat := 5
def kindLaneAssign : Nat := 6
def kindLaneRelease : Nat := 7
def kindTableLoad : Nat := 8
def kindPlanSet : Nat := 9
def kindCutRequest : Nat := 10
def kindRestart : Nat := 11
def kindShiftClose : Nat := 12

/-- An 8-byte address field of an order or a window table part: none if a bit above bit 39 is set (R187). -/
def addressField (bytes : List Byte) (off : Nat) : Option Nat :=
  let v := fieldAt bytes off 8
  if v < Config.addressEnd then some v else none

end Sys2Proof.Machine
end

