-- ==== Sys2Proof/Machine/ArbiterOps.lean ====
section
/-! DEFINITION. The Memory arbiter's grant (R186) and the response to an own transaction on the downstream port. -/

namespace Sys2Proof.Machine

/-- The class of an own request, 1 the first served (R186). -/
def Purpose.rank : Purpose → Nat
  | .sealWrite _ _ _ _ | .nullWrite _ _ _ _ => 1
  | .orderFetch | .tableFetch | .tableLoadFetch | .completion | .fence => 2
  | .pixel _ | .seed _ => 3
  | .log => 4
  | .captureRead _ | .captureRow | .captureHeader => 5
  | .report => 6
  | .status => 7

/-- The own request the arbiter serves next: the first issued of the highest class waiting (R186). -/
def bestOwn (ts : List OwnTxn) : Option (OwnTxn × List OwnTxn) :=
  (List.range 8).findSome? (fun c => takeFirst (fun t => t.purpose.rank == c) ts)

/-- A pass-through transaction is granted, the count becoming `count`. -/
def grantPass (t : PassTxn) (rest : List PassTxn) (count : Nat) (s : State) : State :=
  { s with arb := { s.arb with passWaiting := rest, passOut := s.arb.passOut ++ [t], count := count } }

/-- An own request is granted; the count returns to 0. -/
def grantOwn (t : OwnTxn) (rest : List OwnTxn) (s : State) : State :=
  { s with arb := { s.arb with ownWaiting := rest, ownOut := s.arb.ownOut ++ [t], count := 0 } }

/-- One grant (R186): pass-through transactions come first, but after eight such grants in a row while an own request
waits, the highest own request is served. -/
def grant (s : State) : State :=
  match s.arb.passWaiting, bestOwn s.arb.ownWaiting with
  | [], none => { s with arb := { s.arb with count := 0 } }
  | [], some (t, rest) => grantOwn t rest s
  | p :: ps, none => grantPass p ps 0 s
  | p :: ps, some (t, rest) =>
    if Config.arbiterLimit ≤ s.arb.count then grantOwn t rest s else grantPass p ps (s.arb.count + 1) s

/-- The response to the oldest granted own transaction of a purpose: `act` follows it, unless the transaction was abandoned.
That the responses of one purpose come in the order granted is the model's (DESIGN CHOICE, log entry 58).
A response that nothing awaits, or whose data are not those asked for, changes nothing (log entry 8). -/
def ownAnswered (p : Purpose → Bool) (fits : OwnTxn → Bool) (act : OwnTxn → State → State) (s : State) : State :=
  match answerOwn p s with
  | none => s
  | some (t, s1) => if t.live then (if fits t then act t s1 else s) else s1

/-- A read's result is the one asked for: its bytes, or an error. -/
def OwnTxn.fitsRead (r : ReadResult) (t : OwnTxn) : Bool := !r.okay || decide (r.data.length = t.readLength)

/-- The results of all the bursts of a fetch: `act` follows once every burst is granted and every result is its burst's. -/
def burstsAnswered (p : Purpose → Bool) (results : List ReadResult) (act : List OwnTxn → State → State) (s : State) :
    State :=
  match allGranted p s with
  | none => s
  | some ts => if resultsFit ts results then act ts (clearOut p s) else s

end Sys2Proof.Machine
end

