-- ==== Sys2Proof/Machine/LaneOps.lean ====
section
/-! DEFINITION. The Lane Map: the questions of R85, the lane snapshot (R91), and the checks and effects of LANE ASSIGN, LANE RELEASE
and PROFILE LOAD (R87 to R89, R93). -/

namespace Sys2Proof.Machine

/-- The descriptor of a label, 1 to 15. -/
def laneDesc (m : LaneMap) (label : Nat) : LaneDesc := m.lanes.getD (label - 1) { kind := .edge, profile := 0 }

/-- The label of a column group, or FREE. -/
def groupLabel (m : LaneMap) (g : Nat) : Option Nat := m.groups.getD g none

/-- The profile index of a column group: its lane's, and 0 for a FREE group (R85). -/
def groupProfile (m : LaneMap) (g : Nat) : Nat :=
  match groupLabel m g with
  | some l => (laneDesc m l).profile
  | none => 0

/-- A detection profile. -/
def profile (m : LaneMap) (i : Nat) : Profile := m.profiles.getD i Profile.reset

/-- The profile index of a column (R85, first question). -/
def columnProfile (m : LaneMap) (c : Nat) : Nat := groupProfile m (c / Config.groupWidth)

/-- A group is FREE or belongs to an EDGE lane. -/
def groupOutsideSale (m : LaneMap) (g : Nat) : Bool :=
  match groupLabel m g with
  | some l => (laneDesc m l).kind == .edge
  | none => true

/-- Every group of the columns is FREE or of kind EDGE (R85, second question). -/
def outsideSale (m : LaneMap) (c0 c1 : Nat) : Bool :=
  let g0 := c0 / Config.groupWidth
  (List.range (c1 / Config.groupWidth + 1 - g0)).all (fun i => groupOutsideSale m (g0 + i))

/-- The lane snapshot: one entry for each label in use, in ascending order of first group (R91). -/
def snapshot (m : LaneMap) : List LaneEntry :=
  (List.range Config.groupCount).filterMap (fun g =>
    match groupLabel m g with
    | some l =>
      if (m.groups.take g).contains (some l) then none
      else some { label := l, kind := (laneDesc m l).kind, first := g, count := m.groups.count (some l) }
    | none => none)

/-- The groups that hold a label form one contiguous run: every group between two that hold it holds it (R87). -/
def contiguous (groups : List (Option Nat)) (label : Nat) : Bool :=
  let rest := groups.dropWhile (fun g => g != some label)
  !(rest.dropWhile (fun g => g == some label)).contains (some label)

/-- Gives the listed groups a label. -/
def labelGroups (groups : List (Option Nat)) (label : Nat) (listed : List Nat) : List (Option Nat) :=
  listed.foldl (fun gs g => gs.set g (some label)) groups

/-- The kind a LANE ASSIGN names (R191). -/
def laneKindOf : Nat → Option LaneKind
  | 1 => some .sale
  | 2 => some .edge
  | _ => none

/-- LANE ASSIGN: the checks of R87 in their sequence, and the effect of R88. -/
def laneAssign (o : List Byte) (m : LaneMap) : Completion × LaneMap :=
  let label := fieldAt o 0x10 1
  let prof := fieldAt o 0x12 1
  let count := fieldAt o 0x13 1
  let listed := (List.range count).map (fun i => fieldAt o (0x14 + i) 1)
  if label < 1 || 15 < label then (.range, m)
  else match laneKindOf (fieldAt o 0x11 1) with
    | none => (.range, m)
    | some kind =>
      if 7 < prof then (.range, m)
      else if count < 1 || 8 < count || listed.any (fun g => decide (63 < g)) then (.range, m)
      else if listed.any (fun g => (groupLabel m g).isSome) then (.conflict, m)
      else if !contiguous (labelGroups m.groups label listed) label then (.noncontiguous, m)
      else (.done, { m with groups := labelGroups m.groups label listed,
                            lanes := m.lanes.set (label - 1) { kind := kind, profile := prof } })

/-- LANE RELEASE (R89). -/
def laneRelease (o : List Byte) (m : LaneMap) : Completion × LaneMap :=
  let label := fieldAt o 0x10 1
  if label < 1 || 15 < label then (.range, m)
  else if !m.groups.contains (some label) then (.unknownLabel, m)
  else (.done, { m with groups := m.groups.map (fun g => if g = some label then none else g) })

/-- A value moved into a range (R93). -/
def clamped (low high v : Nat) : Nat := min (max v low) high

/-- PROFILE LOAD: the values carried, clamped to the ranges of R92, and a mark for each value that was moved, in the order
of R92 (R93, R189). -/
def clampProfile (o : List Byte) : Profile × Nat :=
  let dark := fieldAt o 0x11 1
  let bright := fieldAt o 0x12 1
  let minRun := fieldAt o 0x13 1
  let shift := fieldAt o 0x14 1
  let gap := fieldAt o 0x15 1
  let limit := fieldAt o 0x16 2
  let area := fieldAt o 0x18 2
  let p : Profile :=
    { dark := clamped 1 255 dark, bright := clamped 1 255 bright, minRun := clamped 1 16 minRun,
      shift := clamped 4 10 shift, streakLimit := clamped 64 4095 limit, gap := clamped 0 7 gap,
      minArea := clamped 1 4095 area }
  (p, flagAt (p.dark != dark) 0 + flagAt (p.bright != bright) 1 + flagAt (p.minRun != minRun) 2
      + flagAt (p.shift != shift) 3 + flagAt (p.streakLimit != limit) 4 + flagAt (p.gap != gap) 5
      + flagAt (p.minArea != area) 6)

/-- The Lane Map takes a lane order or a PROFILE LOAD in one act at a line boundary and the order completes (R86). -/
def takeLaneOrder (o : List Byte) (s : State) : State :=
  if orderKind o = kindLaneAssign then
    let r := laneAssign o s.lanes
    complete r.1 { s with lanes := r.2 }
  else if orderKind o = kindLaneRelease then
    let r := laneRelease o s.lanes
    complete r.1 { s with lanes := r.2 }
  else
    let index := fieldAt o 0x10 1
    if 7 < index then complete .range s
    else
      let r := clampProfile o
      let s1 := { s with lanes := { s.lanes with profiles := s.lanes.profiles.set index r.1 } }
      if r.2 = 0 then complete .done s1
      else complete .clamped (issueEvent .profileClamped [index, r.2] s1)

end Sys2Proof.Machine
end

