-- ==== Sys2Proof/Machine/DetectOps.lean ====
section
/-! DEFINITION. The Detection Unit: level, contrast and class (R48, R49), the reference update (R50), streaks (R51 to R55), runs (R56 to
R59), group coverage (R42) and the seed load (R45). -/

namespace Sys2Proof.Machine

/-- A column of the line handed over (R40). -/
inductive ColIn where
  | outside
  | uncovered
  | covered (p : Nat)
  deriving DecidableEq, Repr

/-- A pixel's class (R49). -/
inductive PixelClass where
  | clear
  | dark
  | bright
  deriving DecidableEq, Repr

/-- What a column contributes to the line: it breaks runs, uncovering its group or not; it is CLEAR; or it is flagged with a
magnitude (R47, R56). -/
inductive Mark where
  | broken (uncovers : Bool)
  | clear
  | flagged (polarity : Polarity) (magnitude : Nat)
  deriving DecidableEq, Repr

/-- The reference level: the reference rounded to the nearest grey level (R48). -/
def refLevel (ref : Nat) : Nat := (ref + 128) / 256

/-- The contrast of a pixel (R49). -/
def contrast (ref p : Nat) : Int := (p : Int) - refLevel ref

/-- The class of a contrast under a profile's thresholds (R49). -/
def pixelClass (m : Profile) (d : Int) : PixelClass :=
  if d ≤ -(m.dark : Int) then .dark else if (m.bright : Int) ≤ d then .bright else .clear

/-- The reference moves towards the pixel by the difference over 2^k, truncated toward zero (R50). -/
def refStep (k ref p : Nat) : Nat := ((ref : Int) + Int.tdiv ((256 * p : Nat) - (ref : Int)) ((2 ^ k : Nat) : Int)).toNat

/-- The step of a covered NORMAL column (R48 to R51). -/
def stepNormal (m : Profile) (p : Nat) (c : Column) : Column × Mark :=
  let d := contrast c.ref p
  let flag := fun pol : Polarity =>
    let age := min (c.age + 1) Config.flagAgeTop
    (if m.streakLimit ≤ age then { c with age := 0, streak := true, clearRun := 0 } else { c with age := age },
     Mark.flagged pol d.natAbs)
  match pixelClass m d with
  | .clear => ({ c with ref := refStep m.shift c.ref p, age := 0 }, .clear)
  | .dark => flag .dark
  | .bright => flag .bright

/-- The step of a covered STREAK column (R53, R54). -/
def stepStreak (m : Profile) (p : Nat) (c : Column) : Column × Mark :=
  let ref := refStep m.shift c.ref p
  match pixelClass m (contrast c.ref p) with
  | .clear =>
    if Config.clearRunExit ≤ c.clearRun + 1 then ({ c with ref := ref, streak := false, clearRun := 0 }, .broken true)
    else ({ c with ref := ref, clearRun := c.clearRun + 1 }, .broken true)
  | .dark | .bright => ({ c with ref := ref, clearRun := 0 }, .broken true)

/-- The step of a column (R47). -/
def stepColumn (m : Profile) (i : ColIn) (c : Column) : Column × Mark :=
  match i with
  | .outside => (c, .broken false)
  | .uncovered => (c, .broken true)
  | .covered p => if c.streak then stepStreak m p c else stepNormal m p c

/-- The pass over the columns in ascending order, from column `c` on (R46, R47). -/
def stepColumns (lanes : LaneMap) : Nat → List ColIn → List Column → List (Column × Mark)
  | _, [], cs => cs.map (fun c => (c, .broken false))
  | _, _, [] => []
  | c, i :: is, x :: xs => stepColumn (profile lanes (columnProfile lanes c)) i x :: stepColumns lanes (c + 1) is xs

/-- The run that a flagged pixel in column `c` begins (R57). -/
def newRun (c : Nat) (pol : Polarity) (magnitude : Nat) : Run :=
  { c0 := c, c1 := c, polarity := pol, peak := magnitude, sum := magnitude }

/-- The maximal runs of a line, in ascending order; `cur` is the run that column `c` may extend (R56, R57). -/
def formRuns : Nat → Option Run → List Mark → List Run
  | _, cur, [] => cur.toList
  | c, none, .flagged pol g :: ms => formRuns (c + 1) (some (newRun c pol g)) ms
  | c, some r, .flagged pol g :: ms =>
    if r.polarity = pol then formRuns (c + 1) (some { r with c1 := c, peak := max r.peak g, sum := r.sum + g }) ms
    else r :: formRuns (c + 1) (some (newRun c pol g)) ms
  | c, cur, .clear :: ms => cur.toList ++ formRuns (c + 1) none ms
  | c, cur, .broken _ :: ms => cur.toList ++ formRuns (c + 1) none ms

/-- A run is kept if it is no shorter than the min run of its first column's profile (R58). -/
def keptRun (lanes : LaneMap) (r : Run) : Bool :=
  decide ((profile lanes (columnProfile lanes r.c0)).minRun ≤ r.c1 + 1 - r.c0)

/-- The columns of a group. -/
def groupSlice {α : Type} (g : Nat) (cs : List α) : List α := (cs.drop (Config.groupWidth * g)).take Config.groupWidth

/-- A group's STREAK count after some of its columns changed (R44, R51, R54, R45). -/
def streakCount (before after : List Column) (g count : Nat) : Nat :=
  let pairs := (groupSlice g before).zip (groupSlice g after)
  count + (pairs.filter (fun x => !x.1.streak && x.2.streak)).length
    - (pairs.filter (fun x => x.1.streak && !x.2.streak)).length

/-- The 64 STREAK counts after some columns changed. -/
def streakCountsAfter (before after : List Column) (counts : List Nat) : List Nat :=
  counts.mapIdx (fun g n => streakCount before after g n)

/-- The group coverage of a line: a group is uncovered if one of its columns is (R42, R60). -/
def groupCoverage (marks : List Mark) : List Bool :=
  (List.range Config.groupCount).map (fun g => (groupSlice g marks).contains (.broken true))

/-- The events of one group's STREAK count (R55). -/
def streakEvent (line g before after : Nat) (s : State) : State :=
  if before = 0 ∧ 0 < after then issueEvent .streakOn [g, line, after] s
  else if 0 < before ∧ after = 0 then issueEvent .streakOff [g, line, after] s
  else s

/-- The events of the groups, in ascending group number (R55). -/
def streakEvents (line : Nat) : Nat → List Nat → List Nat → State → State
  | g, b :: bs, a :: as, s => streakEvents line (g + 1) bs as (streakEvent line g b a s)
  | _, _, _, s => s

/-- What the pass over a line leaves (R47, R60). -/
structure LinePass where
  columns : List Column
  counts : List Nat
  runs : List Run
  overflow : List Run
  uncovered : List Bool
  deriving DecidableEq, Repr

/-- The pass over a line (R46 to R60). -/
def linePass (lanes : LaneMap) (line : List ColIn) (d : Detection) : LinePass :=
  let steps := stepColumns lanes 0 line d.columns
  let columns := steps.map Prod.fst
  let marks := steps.map Prod.snd
  let kept := (formRuns 0 none marks).filter (keptRun lanes)
  { columns := columns, counts := streakCountsAfter d.columns columns d.streakCounts,
    runs := kept.take Config.runPlaces, overflow := kept.drop Config.runPlaces, uncovered := groupCoverage marks }

/-- The Detection Unit takes the pass over line `l` and issues the group events (R47, R55). -/
def takePass (l : Nat) (p : LinePass) (s : State) : State :=
  streakEvents l 0 s.det.streakCounts p.counts
    { s with det := { columns := p.columns, streakCounts := p.counts, runs := p.runs } }

/-- The column values a seed pixel loads (R45). -/
def seedColumn (p : Byte) : Column := { ref := 256 * p.toNat, age := 0, streak := false, clearRun := 0 }

/-- The columns with those of a span, from column `first` on, loaded from seed pixels (R45). -/
def seedColumns (first : Nat) (pixels : List Byte) (cs : List Column) : List Column :=
  cs.mapIdx (fun c x =>
    if first ≤ c then
      match pixels[c - first]? with
      | some p => seedColumn p
      | none => x
    else x)

/-- The seed load: one act, with STREAK_OFF for each group whose count falls to zero (R45). -/
def seedLoad (first : Nat) (pixels : List Byte) (s : State) : State :=
  let columns := seedColumns first pixels s.det.columns
  let counts := streakCountsAfter s.det.columns columns s.det.streakCounts
  streakEvents (s.asm.a + 1) 0 s.det.streakCounts counts
    { s with det := { s.det with columns := columns, streakCounts := counts } }

end Sys2Proof.Machine
end

