-- ==== Sys2Proof/Machine/CaptureOps.lean ====
section
/-! DEFINITION. The Capture Engine: the window (R157), pins (R158), selection (R156), the copy (R159, R160), its rows and header
(R161) and its abandonment (R163). -/

namespace Sys2Proof.Machine

/-- The first column of the window of a hull: the centre less 128, kept within 0 to 16128 (R157). -/
def windowFirst (c0 c1 : Nat) : Nat := min ((c0 + c1) / 2 - 128) 16128

/-- The address of capture slot `k` (R155). -/
def captureAddr (s : State) (k : Nat) : Nat := s.window.capture.base + Config.captureSlotBytes * k

/-- The capture stream that stream `n` makes for a window from column `x0`: none if it is OFF or its span shares no column
with the window (R157). -/
def capStream (s : State) (x0 n : Nat) : Option CapStream :=
  let w := streamWindow s n
  let first := max x0 (spanFirst w)
  let last := min (x0 + 255) (spanLast w)
  if (stream s n).state = .off || last < first then none
  else some { stream := n, first := first, last := last, stagger := w.stagger, winStart := w.winStart,
              colBase := w.colBase, next := 0, reading := none, segments := [],
              gone := List.replicate Config.captureSide false }

/-- A stamp of the stream brings the segment of a window line that is not yet resolved for the stream: its segment has
neither been read nor been found unavailable (R157, R158). -/
def neededLine (c : Copy) (cs : CapStream) (stamp : Nat) : Bool :=
  let line := (stamp : Int) - cs.stagger
  decide (c.yw + cs.next ≤ line) && decide (line ≤ c.yw + 255) && !cs.gone.getD (line - c.yw).toNat false

/-- The capture streams of the active copy that are stream `n`. -/
def isNeeded (s : State) (n stamp : Nat) : Bool :=
  match s.cap.copy with
  | some c => c.streams.any (fun cs => cs.stream == n && neededLine c cs stamp)
  | none => false

/-- The Ring Tracker reports an accepted stamp: a needed one's slot is pinned in the same act (R158). -/
def pinAccepted (n k stamp : Nat) (s : State) : State :=
  if isNeeded s n stamp then modDir n k (fun e => { e with pin := true }) s else s

/-- Pins every directory entry of a capture stream that the copy needs and that is FILLING, READY or DONE (R158). -/
def pinDirectory (c : Copy) (cs : CapStream) (s : State) : State :=
  modStream cs.stream (fun r => { r with dir := r.dir.map (fun e =>
    match e.stamp, e.state with
    | some stamp, .filling | some stamp, .ready | some stamp, .done =>
      if neededLine c cs stamp then { e with pin := true } else e
    | _, _ => e) }) s

/-- Clears every pin of one stream (R160, R20). -/
def unpinStream (n : Nat) (s : State) : State :=
  modStream n (fun r => { r with dir := r.dir.map (fun e => { e with pin := false }) }) s

/-- Clears every pin (R161, R163). -/
def unpinAll (s : State) : State :=
  { s with streams := s.streams.map (fun r => { r with dir := r.dir.map (fun e => { e with pin := false }) }) }

/-- The lowest-numbered FREE capture slot, if entry 10 is valid and no slot is FILLING (R156). -/
def captureSlotFor (s : State) : Option Nat :=
  if s.window.capture.valid && !s.cap.slots.contains .filling then s.cap.slots.findIdx? (· == .free) else none

/-- Sets up the active copy for a flaw in a slot (R156 to R158). -/
def startCopy (k flaw c0 c1 y0 : Nat) (s : State) : State :=
  let x0 := windowFirst c0 c1
  let c : Copy :=
    { slot := k, flaw := flaw, x0 := x0, yw := (y0 : Int) - 8, streams := (List.range 8).filterMap (capStream s x0),
      missing := List.replicate Config.captureSide false, nextRow := 0, rowsOut := 0, headerOut := false }
  let s1 := { s with cap := { slots := s.cap.slots.set k .filling, copy := some c } }
  c.streams.foldl (fun s cs => pinDirectory c cs s) s1

/-- Where a capture stream's next segment stands (R159, R160). -/
inductive SegmentState where
  | unavailable
  | ready (slot pixels : Nat)
  | wait
  deriving DecidableEq, Repr

/-- The slot of a stream that holds a stamp in state FILLING, READY or DONE. -/
def slotWithStamp (r : StreamRec) (stamp : Nat) : Option Nat :=
  r.dir.findIdx? (fun e => e.stamp == some stamp && (e.state == .filling || e.state == .ready || e.state == .done))

/-- A segment not yet read is unavailable as the directory, the last accepted stamp, A and the stream now stand (R160). A slot
that became LOST or was given up holds the stamp no more in FILLING, READY or DONE, and the stamp had been accepted. -/
def unavailable (s : State) (c : Copy) (cs : CapStream) (j : Nat) : Bool :=
  let line := c.yw + j
  let r := stream s cs.stream
  let stamp := line.toNat + cs.stagger
  decide (line < 0) || r.state == .faulted ||
    ((slotWithStamp r stamp).isNone && ((match r.lastStamp with
      | some l => decide (stamp ≤ l)
      | none => false) || decide (line ≤ s.asm.a)))

/-- A capture stream with R160's cases tested for each window line that it has neither read nor begun to read. -/
def testedStream (s : State) (c : Copy) (cs : CapStream) : CapStream :=
  let first := if cs.reading.isSome then cs.next + 1 else cs.next
  { cs with gone := cs.gone.mapIdx (fun j g => g || (decide (first ≤ j) && unavailable s c cs j)) }

/-- The Capture Engine tests R160's cases for every window line of every capture stream: what is found unavailable stays so,
and its window line is missing. -/
def testSegments (s : State) : State :=
  match s.cap.copy with
  | none => s
  | some c =>
    let streams := c.streams.map (testedStream s c)
    { s with cap := { s.cap with copy := some { c with
        streams := streams
        missing := c.missing.mapIdx (fun j m => m || streams.any (fun cs => cs.gone.getD j false)) } } }

/-- The standing of the segment a capture stream comes to next: found unavailable, or ready in a pinned READY or DONE slot
(R159), or awaited. -/
def segmentState (s : State) (c : Copy) (cs : CapStream) : SegmentState :=
  if cs.gone.getD cs.next false then .unavailable
  else match slotWithStamp (stream s cs.stream) ((c.yw + cs.next).toNat + cs.stagger) with
    | none => .wait
    | some k =>
      let e := dirEntry s cs.stream k
      if e.pin && (e.state == .ready || e.state == .done) then .ready k e.pixels else .wait

/-- The address of a segment's first byte in slot `k` of its ring (R157). -/
def segmentAddr (s : State) (cs : CapStream) (k : Nat) : Nat :=
  slotAddr (streamWindow s cs.stream) k + 32 + cs.winStart + (cs.first - cs.colBase)

/-- Changes the active copy. -/
def modCopy (f : Copy → Copy) (s : State) : State := { s with cap := { s.cap with copy := s.cap.copy.map f } }

/-- Changes one capture stream of the active copy. -/
def modCapStream (n : Nat) (f : CapStream → CapStream) (s : State) : State :=
  modCopy (fun c => { c with streams := c.streams.map (fun cs => if cs.stream = n then f cs else cs) }) s

/-- A capture stream's segment is unavailable: its line is missing and the stream goes to its next line (R160). -/
def missSegment (cs : CapStream) (s : State) : State :=
  modCapStream cs.stream (fun cs => { cs with next := cs.next + 1, reading := none, gone := cs.gone.set cs.next true })
    (modCopy (fun c => { c with missing := c.missing.set cs.next true }) s)

/-- Handles a capture stream's window lines in ascending order: unavailable ones are passed, a ready one's read is issued
(R159). The fuel is the lines of a window. -/
def advanceCapStream (n : Nat) : Nat → State → State
  | 0, s => s
  | fuel + 1, s =>
    match s.cap.copy with
    | none => s
    | some c =>
      match c.streams.find? (fun cs => cs.stream == n) with
      | none => s
      | some cs =>
        if cs.reading.isSome || decide (Config.captureSide ≤ cs.next) then s
        else match segmentState s c cs with
          | .wait => s
          | .unavailable => advanceCapStream n fuel (missSegment cs s)
          | .ready k pixels =>
            issueReads (.captureRead n) (bursts (segmentAddr s cs k) (cs.last + 1 - cs.first))
              (modCapStream n (fun cs => { cs with reading := some pixels }) s)

/-- The byte of a row in a window column: the capture stream's segment byte, or zero (R159). -/
def rowByte (c : Copy) (row col : Nat) : Byte :=
  match c.streams.find? (fun cs => decide (cs.first ≤ col) && decide (col ≤ cs.last)) with
  | none => 0
  | some cs =>
    match cs.segments.find? (fun g => g.1 == row) with
    | none => 0
    | some g => g.2.getD (col - cs.first) 0

/-- The 256 bytes of a window row (R159). -/
def rowBytes (c : Copy) (row : Nat) : List Byte :=
  (List.range Config.captureSide).map (fun i => rowByte c row (c.x0 + i))

/-- Writes the rows whose line and every line before it are resolved, in ascending order (R159). -/
def advanceRows : Nat → State → State
  | 0, s => s
  | fuel + 1, s =>
    match s.cap.copy with
    | none => s
    | some c =>
      if decide (c.nextRow < Config.captureSide) && c.streams.all (fun cs => decide (c.nextRow < cs.next)) then
        advanceRows fuel
          (issueOwn .captureRow (captureAddr s c.slot + 256 + 256 * c.nextRow) (.write (rowBytes c c.nextRow))
            (modCopy (fun c => { c with
              streams := c.streams.map (fun cs => { cs with segments := cs.segments.filter (fun g => g.1 != c.nextRow) })
              nextRow := c.nextRow + 1, rowsOut := c.rowsOut + 1 }) s))
      else s

/-- Missing window lines (R160). -/
def missingCount (c : Copy) : Nat := c.missing.count true

/-- Writes the capture header once every row write has returned OKAY (R161). -/
def advanceHeader (s : State) : State :=
  match s.cap.copy with
  | none => s
  | some c =>
    if c.nextRow = Config.captureSide ∧ c.rowsOut = 0 ∧ c.headerOut = false then
      issueOwn .captureHeader (captureAddr s c.slot)
        (.write (captureHeaderBytes c.flaw c.yw c.x0 (missingCount c))) (modCopy (fun c => { c with headerOut := true }) s)
    else s

/-- The Capture Engine goes on with the active copy as far as the directories let it (R159 to R161). Of the requests of one
act, the reads are issued in ascending stream number, then the rows, then the header (DESIGN CHOICE, log entry 53). -/
def advanceCapture (s : State) : State :=
  match s.cap.copy with
  | none => s
  | some c =>
    advanceHeader (advanceRows Config.captureSide
      (c.streams.foldl (fun s cs => advanceCapStream cs.stream (Config.captureSide + 1) s) (testSegments s)))

/-- The purposes of the Capture Engine's transactions. -/
def Purpose.isCapture : Purpose → Bool
  | .captureRead _ | .captureRow | .captureHeader => true
  | _ => false

/-- The copy ends without a capture: no further read or write is issued, those in flight concern nothing, every pin is
cleared and the slot is FREE (R161, R163). -/
def dropCopy (s : State) : State :=
  match s.cap.copy with
  | none => s
  | some c =>
    unpinAll (withdrawOwn Purpose.isCapture { s with cap := { slots := s.cap.slots.set c.slot .free, copy := none } })

/-- STREAM STOP of a capture stream abandons the copy (R163). -/
def dropCopyOf (n : Nat) (s : State) : State :=
  match s.cap.copy with
  | some c => if c.streams.any (fun cs => cs.stream == n) then dropCopy s else s
  | none => s

/-- Releases the LOCKED slots whose bit the latch carries as one (R162). -/
def releaseCaptures (mask : BitVec 8) (s : State) : State :=
  { s with cap := { s.cap with slots := s.cap.slots.mapIdx (fun k c =>
      if mask.getLsbD k && decide (k < 4) && c == .locked then .free else c) } }

end Sys2Proof.Machine
end

