-- ==== Sys2Proof/Machine/GradeOps.lean ====
section
/-! DEFINITION. The Grader: pieces (R144, R151), the application of a flaw (R145, R146), finality (R147, R148), the grade (R149,
R150) and the lane entries of the PIECE records (R152). -/

namespace Sys2Proof.Machine

/-- A flaw as it is offered to the Grader (R145). -/
structure Offer where
  source : Source
  cls : Nat
  y0 : Nat
  y1 : Nat
  c0 : Nat
  c1 : Nat
  deriving DecidableEq, Repr

/-- The pieces of a plate: one for each SALE lane entry of its snapshot (R144), its area fixed (R151). -/
def newPieces (lanes : List LaneEntry) (start cut : Nat) : List Piece :=
  (lanes.filter (fun l => l.kind == .sale)).map (fun l =>
    { label := l.label, first := l.first, count := l.count, points := 0, kill1 := false, kill2 := false,
      kill3 := false, flaws := 0, uncovered := false, grade := none, area := 256 * l.count * (cut - start) })

/-- The first column of a piece (R144). -/
def pieceFirst (p : Piece) : Nat := 256 * p.first

/-- The last column of a piece (R144). -/
def pieceLast (p : Piece) : Nat := 256 * (p.first + p.count) - 1

/-- A flaw touches a piece of the plate on lines [start, cut): the intersection is not empty (R145). -/
def touches (start cut : Nat) (p : Piece) (f : Offer) : Bool :=
  decide (max f.c0 (pieceFirst p) ≤ min f.c1 (pieceLast p)) && decide (max f.y0 start ≤ min f.y1 (cut - 1))

/-- The zone of a touching flaw is EDGE (R145): its intersection stays within the edge band of a lane boundary or a cut. -/
def inEdgeBand (g : GradeTable) (start cut : Nat) (p : Piece) (f : Offer) : Bool :=
  decide (min f.c1 (pieceLast p) < pieceFirst p + g.bandColumns)
    || decide (pieceLast p < max f.c0 (pieceFirst p) + g.bandColumns)
    || decide (min f.y1 (cut - 1) < start + g.bandLines)
    || decide (cut ≤ max f.y0 start + g.bandLines)

/-- A class's attributes and weights. -/
def classGrade (g : GradeTable) (cls : Nat) : ClassGrade :=
  g.classes.getD cls { avoid := false, capture := false, kill1 := false, kill2 := false, kill3 := false, core := 0, edge := 0 }

/-- The weight of a flaw for its zone (R146). -/
def weight (g : GradeTable) (f : Offer) (edge : Bool) : Nat :=
  match f.source with
  | .blob => if edge then (classGrade g f.cls).edge else (classGrade g f.cls).core
  | .dense => if edge then g.denseEdge else g.denseCore
  | .gap => if edge then g.gapEdge else g.gapCore

/-- The kill mark a flaw sets for G1, G2 or G3 (R146): its class's for source BLOB, every one for DENSE, none for GAP. -/
def killMark (g : GradeTable) (f : Offer) (ofClass : ClassGrade → Bool) : Bool :=
  match f.source with
  | .blob => ofClass (classGrade g f.cls)
  | .dense => true
  | .gap => false

/-- A flaw changes the account of a piece it touches in one step (R146). -/
def applyToPiece (g : GradeTable) (start cut : Nat) (f : Offer) (p : Piece) : Piece :=
  if touches start cut p f then
    { p with
      points := min (p.points + weight g f (inEdgeBand g start cut p f)) 65535
      kill1 := p.kill1 || killMark g f (·.kill1)
      kill2 := p.kill2 || killMark g f (·.kill2)
      kill3 := p.kill3 || killMark g f (·.kill3)
      flaws := min (p.flaws + 1) 255
      uncovered := p.uncovered || f.source == .gap }
  else p

/-- A flaw offered to a plate. The accounts of a FINAL plate do not change (R146, R150). -/
def applyToPlate (g : GradeTable) (f : Offer) (p : Plate) : Plate :=
  if p.final then p else { p with pieces := p.pieces.map (applyToPiece g p.start p.cut f) }

/-- The first lines of the OPEN blobs (R79). -/
def openBlobStarts (b : BlobTracker) : List Nat :=
  b.table.filterMap (fun e => match e with
    | .opened b => some b.y0
    | _ => none)

/-- The open state shows no OPEN blob or OPEN dense zone with y0 below a line (R79, R107, R147). -/
def noneOpenBelow (b : BlobTracker) (line : Nat) : Bool :=
  (openBlobStarts b).all (fun y => decide (line ≤ y)) &&
    (match b.dense with
     | some d => decide (line ≤ d.y0)
     | none => true)

/-- A plate's inspection is closed (R147). -/
def inspectionClosed (s : State) (p : Plate) : Bool := decide (p.cut + 8 ≤ s.asm.a) && noneOpenBelow s.blobs p.cut

/-- A plate's cut is settled (R148). -/
def settled (p : Plate) : Bool :=
  match p.state with
  | .cut | .skipped | .sealFailed => true
  | .missed => p.missAction == .retire
  | .decided | .sealing | .sealed | .taken => false

/-- The points grade, 1 to 4 (R149). -/
def pointsGrade (g : GradeTable) (p : Piece) : Nat :=
  if p.points ≤ g.prime && !p.kill1 then 1
  else if p.points ≤ g.standard && !p.kill2 then 2
  else if p.points ≤ g.second && !p.kill3 then 3
  else 4

/-- The grade of a piece at finality (R150): the points grade, G4 without a loaded table, on a CULLET plate and on a SKIPPED
one, and no better than the coverage cap when UNCOVERED. -/
def finalGrade (g : GradeTable) (plate : Plate) (p : Piece) : Nat :=
  if !g.loaded || plate.kind == .cullet || plate.state == .skipped then 4
  else if p.uncovered then max (pointsGrade g p) g.cap
  else pointsGrade g p

/-- Fixes every piece's grade (R148). -/
def finalise (g : GradeTable) (p : Plate) : Plate :=
  { p with final := true, pieces := p.pieces.map (fun q => { q with grade := some (finalGrade g p q) }) }

/-- The Grader's test of the queued plates: a plate whose inspection is closed and whose cut is settled becomes FINAL (R147,
R148). -/
def gradeTest (s : State) : State :=
  { s with sched := { s.sched with queue := s.sched.queue.map (fun p =>
      if !p.final && inspectionClosed s p && settled p then finalise s.grades p else p) } }

/-- A lane entry as its PIECE record carries it: a SALE entry with its piece's account, an EDGE entry with grade NONE, its
area (R151) and zeros (R152). -/
def pieceLane (p : Plate) (l : LaneEntry) : PieceLane :=
  match l.kind, p.pieces.find? (fun q => q.label == l.label) with
  | .sale, some q =>
    { label := l.label, first := l.first, count := l.count, grade := q.grade.getD 0, area := q.area, points := q.points,
      flaws := q.flaws, kill1 := q.kill1, kill2 := q.kill2, kill3 := q.kill3, uncovered := q.uncovered }
  | _, _ =>
    { label := l.label, first := l.first, count := l.count, grade := 0, area := 256 * l.count * (p.cut - p.start),
      points := 0, flaws := 0, kill1 := false, kill2 := false, kill3 := false, uncovered := false }

/-- The PIECE records of a plate, four lane entries each (R152). -/
def pieceRecords (p : Plate) : List RecordBody :=
  (List.range (pieceRecordCount p)).map (fun i => .piece (((p.lanes.drop (4 * i)).take 4).map (pieceLane p)))

end Sys2Proof.Machine
end

