-- ==== Sys2Proof/Machine/BlobOps.lean ====
section
/-! DEFINITION. The Blob Tracker and the flaw list: joining, merging and opening (R65 to R68), closing (R69 to R71), the dense zone
(R72, R73), gap zones and splits (R74, R75), classification (R76), routing (R78), the flaw list (R80 to R82), and the
act over one line (R64). -/

namespace Sys2Proof.Machine

/-! ## Classification (R76) -/

/-- The elongation of an extent of `ly` lines and `wx` columns (R76). -/
def elongation (ly wx : Nat) : Nat := min (16 * max ly wx / min ly wx) 255

def RulePolarity.accepts : RulePolarity → Polarity → Bool
  | .any, _ => true
  | .dark, p => p == .dark
  | .bright, p => p == .bright

/-- A rule matches a blob (R76). -/
def ruleMatches (r : ClassRule) (polarity : Polarity) (area elong peak : Nat) : Bool :=
  r.polarity.accepts polarity && decide (r.areaMin ≤ area) && decide (area ≤ r.areaMax) && decide (r.elongMin ≤ elong)
    && decide (elong ≤ r.elongMax) && decide (r.minPeak ≤ peak)

/-- The class: the number of the first rule that matches, and 7 if none does (R76). -/
def classify (rules : List ClassRule) (polarity : Polarity) (area elong peak : Nat) : Nat :=
  match rules.findIdx? (fun r => ruleMatches r polarity area elong peak) with
  | some i => i
  | none => 7

/-! ## The flaw list (R80 to R82) -/

/-- Places a flaw after every entry whose y0 is at or below its own (R80). -/
def insertFlaw (f : ListedFlaw) : List ListedFlaw → List ListedFlaw
  | [] => [f]
  | g :: gs => if g.y0 ≤ f.y0 then g :: insertFlaw f gs else f :: g :: gs

/-- Submits a flaw to the flaw list, or to the overflow zone when the list is full (R80, R81). -/
def submitFlaw (f : ListedFlaw) (s : State) : State :=
  if s.sched.flaws.length < Config.flawPlaces then
    { s with sched := { s.sched with flaws := insertFlaw f s.sched.flaws } }
  else match s.sched.zone with
    | some z =>
      { s with sched := { s.sched with
          zone := some { y0 := min z.y0 f.y0, y1 := max z.y1 f.y1, c0 := min z.c0 f.c0, c1 := max z.c1 f.c1, spent := false } } }
    | none =>
      issueEvent .pendingFull [f.num, f.y0, f.y1]
        { s with sched := { s.sched with zone := some { y0 := f.y0, y1 := f.y1, c0 := f.c0, c1 := f.c1, spent := false } } }

/-- Removes the entries, and the zone, with y1 below a line (R82). -/
def removePassed (line : Nat) (s : State) : State :=
  { s with sched := { s.sched with
      flaws := s.sched.flaws.filter (fun f => decide (line ≤ f.y1))
      zone := s.sched.zone.filter (fun z => decide (line ≤ z.y1)) } }

/-! ## Routing (R78) -/

/-- A flaw as the Grader is offered it. -/
def Flaw.offer (f : Flaw) : Offer :=
  { source := f.source, cls := f.cls, y0 := f.y0, y1 := f.y1, c0 := f.c0, c1 := f.c1 }

/-- The overflow zone as the Grader is offered it: a DENSE flaw with its lines and hull (R81). -/
def Zone.offer (z : Zone) : Offer := { source := .dense, cls := 8, y0 := z.y0, y1 := z.y1, c0 := z.c0, c1 := z.c1 }

def ListedFlaw.offer (f : ListedFlaw) : Offer :=
  { source := f.source, cls := f.cls, y0 := f.y0, y1 := f.y1, c0 := f.c0, c1 := f.c1 }

def Flaw.listed (f : Flaw) : ListedFlaw :=
  { num := f.num, source := f.source, cls := f.cls, y0 := f.y0, y1 := f.y1, c0 := f.c0, c1 := f.c1, avoid := f.avoid,
    spent := false }

/-- Step 1 of routing: the offer to the Capture Engine and its answer (R78, R156). -/
def offerCapture (f : Flaw) (s : State) : Flaw × State :=
  if f.source == .blob && (classGrade s.grades f.cls).capture then
    match captureSlotFor s with
    | some k => ({ f with assigned := true, capSlot := k }, startCopy k f.num f.c0 f.c1 f.y0 s)
    | none => ({ f with notCaptured := true }, tallyAdd .captureRejected 1 s)
  else (f, s)

/-- Offers a flaw to every queued plate whose lines it overlaps (R78, step 5). -/
def offerPlates (f : Flaw) (s : State) : State :=
  { s with sched := { s.sched with queue := s.sched.queue.map (fun p =>
      if f.y0 < p.cut ∧ p.start ≤ f.y1 then applyToPlate s.grades f.offer p else p) } }

/-- Steps 1 to 6 of routing a numbered flaw (R78). -/
def routeFlaw (f : Flaw) (s : State) : State :=
  let r := offerCapture f s
  let s1 := tallyAdd (.flaw f.cls) 1 (handGroup [.flaw r.1] r.2)
  if outsideSale s1.lanes f.c0 f.c1 then s1
  else
    let s2 := offerPlates r.1 s1
    if s2.sched.active && decide (s2.sched.start ≤ f.y1) then submitFlaw r.1.listed s2 else s2

/-- A flaw closes: it takes the next flaw number and is routed (R77, R78). -/
def raiseFlaw (f : Flaw) (s : State) : State :=
  let n := s.blobs.nextFlaw
  routeFlaw { f with num := n }
    { s with blobs := { s.blobs with nextFlaw := if n < Config.wordTop then n + 1 else 1 } }

/-! ## Joining, merging and opening (R65 to R68, R70) -/

/-- Least and greatest column of two hulls. -/
def hullUnion (a b : Nat × Nat) : Nat × Nat := (min a.1 b.1, max a.2 b.2)

/-- The span of two hulls where either exists. -/
def hullJoin : Option (Nat × Nat) → Option (Nat × Nat) → Option (Nat × Nat)
  | some a, some b => some (hullUnion a b)
  | some a, none => some a
  | none, b => b

/-- A previous-line hull overlaps a run, lies beside it or overlaps it diagonally (R65, third condition). -/
def hullMeets (h : Nat × Nat) (r : Run) : Bool := decide (h.1 ≤ r.c1 + 1) && decide (r.c0 ≤ h.2 + 1)

/-- A run on line `l` qualifies for an entry (R65). -/
def qualifies (l : Nat) (r : Run) : BlobEntry → Bool
  | .free => false
  | .opened b =>
    b.polarity == r.polarity && decide (l ≤ b.last + b.gap + 1) &&
      (match b.prev with
       | some h => hullMeets h r
       | none => false)
  | .stub t => t.polarity == r.polarity && decide (l ≤ t.last + t.gap + 1) && hullMeets t.prev r

/-- A run joins a blob (R66). -/
def joinRun (r : Run) (b : Blob) : Blob :=
  { b with
    cur := hullJoin b.cur (some (r.c0, r.c1))
    c0 := min b.c0 r.c0
    c1 := max b.c1 r.c1
    area := min (b.area + (r.c1 + 1 - r.c0)) Config.areaTop
    sum := min (b.sum + r.sum) Config.wordTop
    peak := max b.peak r.peak }

/-- A qualifying entry is merged into the survivor (R67). -/
def mergeEntry (b : Blob) : BlobEntry → Blob
  | .free => b
  | .stub _ => { b with continuation := true }
  | .opened o =>
    if o.num = b.num then b
    else
      { b with
        y0 := min b.y0 o.y0
        last := max b.last o.last
        c0 := min b.c0 o.c0
        c1 := max b.c1 o.c1
        prev := hullJoin b.prev o.prev
        cur := hullJoin b.cur o.cur
        area := min (b.area + o.area) Config.areaTop
        sum := min (b.sum + o.sum) Config.wordTop
        peak := max b.peak o.peak
        gap := max b.gap o.gap
        continuation := b.continuation || o.continuation }

/-- The OPEN entry with the lowest blob number (R67). -/
def lowestOpen : List BlobEntry → Option Blob
  | [] => none
  | .opened b :: es =>
    match lowestOpen es with
    | some o => if o.num < b.num then some o else some b
    | none => some b
  | _ :: es => lowestOpen es

/-- The lowest-numbered STUB (R65). -/
def lowestStub : List BlobEntry → Option Stub
  | [] => none
  | .stub t :: es =>
    match lowestStub es with
    | some o => if o.num < t.num then some o else some t
    | none => some t
  | _ :: es => lowestStub es

/-- A blob that a run opens on line `l`, under a profile (R68). -/
def openBlob (num l : Nat) (r : Run) (index gap : Nat) : Blob :=
  { num := num, polarity := r.polarity, y0 := l, last := l - 1, c0 := r.c0, c1 := r.c1, prev := none,
    cur := some (r.c0, r.c1), area := min (r.c1 + 1 - r.c0) Config.areaTop, peak := r.peak,
    sum := min r.sum Config.wordTop, gap := gap, profile := index, continuation := false }

/-- What becomes of the run buffer's runs on a line: the table, the next blob number and the runs dropped so far. -/
structure JoinState where
  table : List BlobEntry
  nextBlob : Nat
  dropped : List Run
  deriving DecidableEq, Repr

/-- A run is handled by its qualifying entries: it joins, merges and joins, continues the lowest-numbered STUB, opens a
blob, or is dropped when no entry is FREE (R65 to R68, R70; log entry 44). -/
def takeRun (m : LaneMap) (l : Nat) (r : Run) (j : JoinState) : JoinState :=
  let index := columnProfile m r.c0
  let fresh := openBlob j.nextBlob l r index (profile m index).gap
  let hits := j.table.filter (qualifies l r)
  match lowestOpen hits with
  | some b =>
    { j with table := j.table.map (fun e =>
        if qualifies l r e then
          (match e with
           | .opened o => if o.num = b.num then .opened (joinRun r (hits.foldl mergeEntry b)) else .free
           | _ => .free)
        else e) }
  | none =>
    match lowestStub hits with
    | some t =>
      { j with
        nextBlob := j.nextBlob + 1
        table := j.table.map (fun e =>
          if qualifies l r e then
            (match e with
             | .stub o =>
               if o.num = t.num then .opened { fresh with last := t.last, prev := some t.prev, continuation := true }
               else .free
             | _ => .free)
          else e) }
    | none =>
      match j.table.findIdx? (· == .free) with
      | some i => { j with nextBlob := j.nextBlob + 1, table := j.table.set i (.opened fresh) }
      | none => { j with dropped := j.dropped ++ [r] }

/-! ## Closing (R69 to R71) -/

/-- The line is ended for an entry: a current-line hull becomes the previous-line hull (R69). -/
def endLine (l : Nat) : BlobEntry → BlobEntry
  | .opened b =>
    match b.cur with
    | some h => .opened { b with prev := some h, last := l, cur := none }
    | none => .opened b
  | e => e

/-- An OPEN blob closes by gap (R69). -/
def closesByGap (l : Nat) (b : Blob) : Bool := decide (b.last + b.gap < l)

/-- An OPEN blob closes by length (R70). -/
def closesByLength (b : Blob) : Bool := decide (b.y0 + Config.lengthLimit ≤ b.last + 1)

/-- What an entry becomes at step 4 of the act (R69, R70). -/
def closeEntry (l : Nat) : BlobEntry → BlobEntry
  | .opened b =>
    if closesByGap l b then .free
    else if closesByLength b then
      .stub { num := b.num, polarity := b.polarity, last := b.last, prev := b.prev.getD (b.c0, b.c1), gap := b.gap }
    else .opened b
  | .stub t => if t.last + t.gap < l then .free else .stub t
  | .free => .free

/-- Inserts a closing blob by its number; the flag says that it closed by length. -/
def insertClosing (x : Blob × Bool) : List (Blob × Bool) → List (Blob × Bool)
  | [] => [x]
  | y :: ys => if y.1.num ≤ x.1.num then y :: insertClosing x ys else x :: y :: ys

/-- The blobs that close at the end of line `l`, in ascending blob number (R64). -/
def closings (l : Nat) : List BlobEntry → List (Blob × Bool)
  | [] => []
  | .opened b :: es =>
    if closesByGap l b then insertClosing (b, false) (closings l es)
    else if closesByLength b then insertClosing (b, true) (closings l es)
    else closings l es
  | _ :: es => closings l es

/-- The flaw a closed blob becomes, still without a number (R76, R77). -/
def blobFlaw (s : State) (b : Blob) (byLength : Bool) : Flaw :=
  let cls := classify s.blobs.rules b.polarity b.area (elongation (b.last + 1 - b.y0) (b.c1 + 1 - b.c0)) b.peak
  { num := 0, source := .blob, cls := cls, polarity := b.polarity, y0 := b.y0, y1 := b.last, c0 := b.c0, c1 := b.c1,
    area := b.area, peak := b.peak, mean := min (b.sum / b.area) 255, continued := byLength,
    continuation := b.continuation, avoid := (classGrade s.grades cls).avoid, assigned := false, notCaptured := false,
    capSlot := 0 }

/-- A closed blob: a speck is tallied and discarded, any other becomes a flaw (R71). -/
def closeBlob (s : State) (x : Blob × Bool) : State :=
  if x.1.area < (profile s.lanes x.1.profile).minArea then tallyAdd .specks 1 s
  else raiseFlaw (blobFlaw s x.1 x.2) s

/-! ## The dense zone (R72, R73) -/

/-- Runs given to the dense zone: their least and greatest column and the sum of their pixel counts. -/
def droppedHull : List Run → Option (Nat × Nat)
  | [] => none
  | r :: rs => hullJoin (some (r.c0, r.c1)) (droppedHull rs)

def droppedPixels (rs : List Run) : Nat := (rs.map (fun r => r.c1 + 1 - r.c0)).sum

/-- Step 2 of the act: the dropped runs open or extend the dense zone (R72). `overflow`: the line had an overflow run. -/
def feedDense (l : Nat) (dropped : List Run) (overflow : Bool) (s : State) : State :=
  match droppedHull dropped with
  | none => s
  | some h =>
    let count := droppedPixels dropped
    match s.blobs.dense with
    | some d =>
      { s with blobs := { s.blobs with dense := some { d with
          y1 := l, c0 := min d.c0 h.1, c1 := max d.c1 h.2, count := min (d.count + count) Config.areaTop } } }
    | none =>
      let continuation := match s.blobs.mark with
        | some m => decide (l ≤ m + 8)
        | none => false
      issueEvent .blobTableFull [if overflow then 1 else 2, l, h.1]
        { s with blobs := { s.blobs with
            dense := some { y0 := l, y1 := l, c0 := h.1, c1 := h.2, count := min count Config.areaTop, continuation := continuation }
            mark := none } }

/-- The flaw of a dense zone (R73). -/
def denseFlaw (d : DenseZone) (byLength : Bool) : Flaw :=
  { num := 0, source := .dense, cls := 8, polarity := .none, y0 := d.y0, y1 := d.y1, c0 := d.c0, c1 := d.c1,
    area := d.count, peak := 0, mean := 0, continued := byLength, continuation := d.continuation, avoid := true,
    assigned := false, notCaptured := false, capSlot := 0 }

/-- Step 5 of the act: an OPEN dense zone closes after eight lines without a dropped run, or by length (R73). -/
def testDense (l : Nat) (s : State) : State :=
  match s.blobs.dense with
  | none => s
  | some d =>
    if d.y0 + Config.lengthLimit ≤ d.y1 + 1 then
      raiseFlaw (denseFlaw d true) { s with blobs := { s.blobs with dense := none, mark := some d.y1 } }
    else if d.y1 + 7 < l then raiseFlaw (denseFlaw d false) { s with blobs := { s.blobs with dense := none } }
    else s

/-! ## Gap zones (R74, R75) -/

/-- A gap flaw takes the AVOID flag if a plan is in force with gap policy AVOID (R74). -/
def gapAvoid (s : State) : Bool :=
  match s.sched.plan with
  | some p => p.gapPolicy == .avoid
  | none => false

/-- The flaw of group `g`'s gap zone that ends at `y1` (R74, R75). -/
def gapFlaw (s : State) (g : Nat) (z : GapZone) (y1 : Nat) (continued : Bool) : Flaw :=
  { num := 0, source := .gap, cls := 9, polarity := .none, y0 := z.y0, y1 := y1, c0 := 256 * g, c1 := 256 * g + 255,
    area := min (256 * (y1 + 1 - z.y0)) Config.areaTop, peak := 0, mean := 0, continued := continued,
    continuation := z.continuation, avoid := gapAvoid s, assigned := false, notCaptured := false, capSlot := 0 }

/-- Sets a group's tracker. -/
def setGap (g : Nat) (z : Option GapZone) (s : State) : State :=
  { s with blobs := { s.blobs with gaps := s.blobs.gaps.set g z } }

/-- Step 6 of the act for one group: its tracker takes its coverage value (R74). -/
def takeCoverage (l g : Nat) (uncovered : Bool) (s : State) : State :=
  match s.blobs.gaps.getD g none with
  | none => if uncovered then setGap g (some { y0 := l, last := some l, continuation := false }) s else s
  | some z =>
    if uncovered then setGap g (some { z with last := some l }) s
    else match z.last with
      | some y1 => raiseFlaw (gapFlaw s g z y1 false) (setGap g none s)
      | none => setGap g none s

/-- Step 6 of the act: the 64 coverage values in ascending group number (R64, R74). -/
def takeCoverages (l : Nat) : Nat → List Bool → State → State
  | _, [], s => s
  | g, u :: us, s => takeCoverages l (g + 1) us (takeCoverage l g u s)

/-- A split of one group's tracker at cut `c`: the flaw it closes, if the tracker is OPEN with y0 below `c` and a last
uncovered line, and the tracker reopened with y0 = `c` (R75). `analysed`: line `c` has been analysed. -/
def splitGap (s : State) (c : Nat) (analysed : Bool) (g : Nat) : Option (Flaw × GapZone) :=
  match s.blobs.gaps.getD g none with
  | some z =>
    if decide (z.y0 < c) && z.last.isSome then
      some (gapFlaw s g z (c - 1) true, { y0 := c, last := if analysed then z.last else none, continuation := true })
    else none
  | none => none

/-- Splits every tracker at a cut: the flaws in ascending group number, not yet numbered, and the state with the trackers
reopened (R75). -/
def splitGaps (c : Nat) (analysed : Bool) (s : State) : List Flaw × State :=
  ((List.range Config.groupCount).filterMap (fun g => (splitGap s c analysed g).map Prod.fst),
   (List.range Config.groupCount).foldl (fun t g =>
     match splitGap s c analysed g with
     | some x => setGap g (some x.2) t
     | none => t) s)

/-- Raises flaws in turn. -/
def raiseFlaws (fs : List Flaw) (s : State) : State := fs.foldl (fun s f => raiseFlaw f s) s

/-- Inserts a cut in the split list, ascending (R75). -/
def insertCut (c : Nat) : List Nat → List Nat
  | [] => [c]
  | d :: ds => if d ≤ c then d :: insertCut c ds else c :: d :: ds

/-- Step 7 of the act: the splits due at a cut C with C − 1 = L, and their flaws (R64, R75). -/
def takeSplits (l : Nat) (s : State) : State :=
  let due := s.blobs.splits.filter (fun c => c == l + 1)
  due.foldl (fun s c =>
      let r := splitGaps c false s
      raiseFlaws r.1 r.2)
    { s with blobs := { s.blobs with splits := s.blobs.splits.filter (fun c => c != l + 1) } }

/-! ## The act over a line (R64) -/

/-- The Blob Tracker processes line `l`: its buffered runs, its overflow runs and its group coverage (R64). -/
def blobAct (l : Nat) (runs overflow : List Run) (uncovered : List Bool) (s : State) : State :=
  let j := runs.foldl (fun j r => takeRun s.lanes l r j)
    { table := s.blobs.table, nextBlob := s.blobs.nextBlob, dropped := [] }
  let s1 := { s with blobs := { s.blobs with table := j.table, nextBlob := j.nextBlob } }
  let s2 := feedDense l (j.dropped ++ overflow) (!overflow.isEmpty) s1
  let ended := s2.blobs.table.map (endLine l)
  let s3 := { s2 with blobs := { s2.blobs with table := ended.map (closeEntry l) } }
  let s4 := (closings l ended).foldl closeBlob s3
  takeSplits l (takeCoverages l 0 uncovered (testDense l s4))

end Sys2Proof.Machine
end

