-- ==== Sys2Proof/Machine/TicketOps.lean ====
section
/-! DEFINITION. The Ticket Unit: slots and sequences (R124, R125), the seal write (R126), null rewrites (R137, R138), the miss point
(R135) and the judgement of reads and writes of the ticket ring (R123, R128, R131). -/

namespace Sys2Proof.Machine

/-- A slot record with nothing in it (R125). -/
def SlotRec.blank : SlotRec :=
  { occupant := none, retired := none, write := .none, nullPending := none, noted := false, nullFenced := false }

/-- The ticket slot of a sequence (R124). -/
def slotOf (s : State) (seq : Nat) : Nat := seq % s.window.ticket.count

/-- The sequence after one: after the greatest it is the slot count (R124). -/
def nextSequence (s : State) (seq : Nat) : Nat :=
  if seq < Config.wordTop then seq + 1 else s.window.ticket.count

/-- The plate number after one (R112). -/
def nextNumber (n : Nat) : Nat := if n < Config.wordTop then n + 1 else 1

/-- A slot record of the ticket ring. -/
def slotRec (s : State) (j : Nat) : SlotRec := s.tickets.getD j SlotRec.blank

/-- Changes a slot record. -/
def modSlot (j : Nat) (f : SlotRec → SlotRec) (s : State) : State := { s with tickets := s.tickets.modify j f }

/-- The queued plate of a number. -/
def plateNumbered (s : State) (num : Nat) : Option Plate := s.sched.queue.find? (fun p => p.num == num)

/-- The plate that occupies a slot. -/
def occupant (s : State) (j : Nat) : Option Plate :=
  match (slotRec s j).occupant with
  | some num => plateNumbered s num
  | none => none

/-- Changes the queued plate of a number. -/
def modPlate (num : Nat) (f : Plate → Plate) (s : State) : State :=
  { s with sched := { s.sched with queue := s.sched.queue.map (fun p => if p.num = num then f p else p) } }

/-- The address of ticket slot `j` (R123). -/
def ticketAddr (s : State) (j : Nat) : Nat := s.window.ticket.base + 64 * j

/-- The encoder position at which the cutter cuts a plate (R100, R113). -/
def cutPoint (p : Plate) : Nat := p.cut + p.distance

/-- The miss point of a plate (R135). -/
def missPoint (p : Plate) : Nat := cutPoint p + p.missWindow

/-- A plate is frozen while E is at or above its freeze point (R113). -/
def frozen (s : State) (p : Plate) : Bool := decide (cutPoint p ≤ s.enc.e + p.margin)

/-- Seals a DECIDED plate whose slot has no write in flight and none pending: one write of the whole slot (R126). -/
def trySeal (num : Nat) (s : State) : State :=
  match plateNumbered s num with
  | none => s
  | some p =>
    let j := slotOf s p.seq
    let r := slotRec s j
    if p.state == .decided && r.write == .none && r.nullPending.isNone then
      issueOwn (.sealWrite j p.num p.seq p.fenced) (ticketAddr s j) (.write (ticketBytes p))
        (modPlate num (fun p => { p with state := .sealing }) (modSlot j (fun r => { r with write := .sealing }) s))
    else s

/-- Seals every plate that is ready, in plate number order (R126). -/
def pumpSeals (s : State) : State := s.sched.queue.foldl (fun s p => trySeal p.num s) s

/-- Issues the null rewrite of a slot for the sequence it withdraws (R137, R138). -/
def issueNull (j seq : Nat) (s : State) : State :=
  issueOwn (.nullWrite j seq (slotRec s j).noted (slotRec s j).nullFenced) (ticketAddr s j) (.write nullTicket)
    (modSlot j (fun r => { r with write := .nulling, nullPending := none, nullFenced := false }) s)

/-- What the Ticket Unit does with the slot of an abandoned plate, by the plate's state (R137, R138): the occupant becomes
none at once; a SEALED plate's slot is rewritten, a SEALING plate's when the seal response returns. At a disable those
two are noted. -/
def withdrawTicket (atDisable : Bool) (p : Plate) (s : State) : State :=
  let j := slotOf s p.seq
  let s1 := modSlot j (fun r => { r with
    occupant := none, noted := r.noted || (atDisable && (p.state == .sealed || p.state == .sealing)) }) s
  match p.state with
  | .sealing => modSlot j (fun r => { r with nullPending := some p.seq, nullFenced := false }) s1
  | .sealed =>
    if (slotRec s1 j).write == .none then issueNull j p.seq s1
    else modSlot j (fun r => { r with nullPending := some p.seq, nullFenced := false }) s1
  | _ => s1

/-- A SEALED or TAKEN plate becomes MISSED (R135). -/
def markMissed (p : Plate) (s : State) : State :=
  issueEvent .cutMissed [p.num, p.seq, p.cut, p.state.code] (modPlate p.num (fun p => { p with state := .missed }) s)

/-- The bytes of the ticket ring (R123). -/
def ticketBytesTotal (s : State) : Nat := 64 * s.window.ticket.count

/-- The part judges the ticket ring's transactions (R123, R131): enabled, with entry 8 valid. -/
def ticketsGuarded (s : State) : Bool := enabled s && s.window.ticket.valid

/-- A span includes a body byte of some slot, at offsets 0x00 to 0x2F of it (R131). -/
def touchesBody (s : State) (addr len : Nat) : Bool :=
  let base := s.window.ticket.base
  let first := max addr base
  let stop := min (addr + len) (base + ticketBytesTotal s)
  decide (first < stop) &&
    (decide ((first - base) % 64 < 48) || decide ((first - base) / 64 ≠ (stop - 1 - base) / 64))

/-- The span lies wholly within one slot's status field, offsets 0x30 to 0x3F: the slot (R132). -/
def statusSlot (s : State) (addr len : Nat) : Option Nat :=
  let base := s.window.ticket.base
  if base ≤ addr ∧ 0 < len ∧ addr + len ≤ base + ticketBytesTotal s ∧ 48 ≤ (addr - base) % 64 ∧
      (addr - base) % 64 + len ≤ 64 then
    some ((addr - base) / 64)
  else none

/-- How one slot's portion of a read is answered: its range in the read's data, and whether from memory (R128). -/
structure ReadPortion where
  slot : Nat
  offset : Nat
  len : Nat
  fromMemory : Bool
  sealWhole : Bool
  deriving DecidableEq, Repr

/-- A slot's reads are judged: always while the ring is guarded, and after a disable while the slot was noted and its
rewrite is not yet answered (R128, R138). -/
def slotJudged (s : State) (j : Nat) : Bool := ticketsGuarded s || (slotRec s j).noted

/-- The slot's occupant is SEALED or TAKEN (R128). -/
def offered (s : State) (j : Nat) : Bool :=
  match occupant s j with
  | some p => p.state == .sealed || p.state == .taken
  | none => false

/-- The portion of a read in slot `j`, if it touches the slot (R128). -/
def readPortion (s : State) (r : UpRead) (j : Nat) : Option ReadPortion :=
  let slotFirst := ticketAddr s j
  let first := max r.addr slotFirst
  let stop := min (r.addr + r.len) (slotFirst + 64)
  if stop ≤ first then none
  else
    let body := decide (first < slotFirst + 48)
    some { slot := j, offset := first - r.addr, len := stop - first,
           fromMemory := !body || !slotJudged s j || (enabled s && offered s j),
           sealWhole := decide (first = slotFirst) && decide (slotFirst + 4 ≤ stop) }

/-- The portions of a read, slot by slot (R128). -/
def readPortions (s : State) (r : UpRead) : List ReadPortion := (List.range s.tickets.length).filterMap (readPortion s r)

end Sys2Proof.Machine
end

