-- ==== Sys2Proof/Machine/PlateOps.lean ====
section
/-! DEFINITION. The Plate Scheduler: its positions (R100), the evaluation of a decision (R101 to R111), retirement (R114, R115),
activation (R99), RESTART (R118, R119) and the scheduler's part of a disable (R120). -/

namespace Sys2Proof.Machine

/-! ## Positions (R100) -/

/-- X0: the earliest ribbon position a ticket issued now can still cut. -/
def earliestCut (s : State) (p : Plan) : Nat := s.enc.e + p.margin + 1 - p.distance

/-- The forcing position of the plate at S. -/
def forcingPosition (s : State) (p : Plan) : Nat := s.sched.start + p.nominal + p.distance - p.margin - p.slack

/-- E has reached the forcing position (R108). -/
def forced (s : State) (p : Plan) : Bool := decide (forcingPosition s p ≤ s.enc.e)

/-! ## The avoid set and the provisional cut (R102 to R106) -/

/-- The lines of a candidate of R103. -/
structure AvoidSpan where
  y0 : Nat
  y1 : Nat
  deriving DecidableEq, Repr

/-- The open blobs and the open dense zone, taken to A, that a forced decision avoids (R103). -/
def openSpans (s : State) : List AvoidSpan :=
  s.blobs.table.filterMap (fun e => match e with
    | .opened b => if outsideSale s.lanes b.c0 b.c1 then none else some { y0 := b.y0, y1 := s.asm.a }
    | _ => none) ++
  (match s.blobs.dense with
   | some d => if outsideSale s.lanes d.c0 d.c1 then [] else [{ y0 := d.y0, y1 := s.asm.a }]
   | none => [])

/-- The candidates of R103. -/
def candidates (s : State) (isForced : Bool) : List AvoidSpan :=
  (s.sched.flaws.filter (·.avoid)).map (fun f => { y0 := f.y0, y1 := f.y1 }) ++
  (match s.sched.zone with
   | some z => [{ y0 := z.y0, y1 := z.y1 }]
   | none => []) ++ (if isForced then openSpans s else [])

/-- The avoid set F of the plate at `start` with window end `w` (R103): empty in FIXED mode. -/
def avoidSet (p : Plan) (start w : Nat) (cs : List AvoidSpan) : List AvoidSpan :=
  match p.mode with
  | .fixed => []
  | .avoid => cs.filter (fun f => decide (start ≤ f.y1 + p.guard) && decide (f.y0 < w + p.guard))

/-- The member of a list with the least y0. -/
def leastSpan : List AvoidSpan → Option AvoidSpan
  | [] => none
  | f :: fs =>
    match leastSpan fs with
    | some g => if g.y0 < f.y0 then some g else some f
    | none => some f

/-- Places a span in a list in ascending y0. -/
def insertSpan (f : AvoidSpan) : List AvoidSpan → List AvoidSpan
  | [] => [f]
  | g :: gs => if g.y0 ≤ f.y0 then g :: insertSpan f gs else f :: g :: gs

/-- The chain of R106: `b` grows over the candidates in ascending y0. One pass reaches the end of the chain: a candidate
passed over because its y0 lies too far on has none but farther ones behind it. -/
def chainEnd (p : Plan) (b : Nat) (cs : List AvoidSpan) : Nat :=
  (cs.foldr insertSpan []).foldl (fun b g =>
    if g.y0 < b + p.minPlate + p.guard ∧ b < g.y1 + p.guard then g.y1 + p.guard else b) b

/-- A provisional cut, its kind and its needed line N. -/
structure Choice where
  cut : Nat
  kind : PlateKind
  needed : Nat
  deriving DecidableEq, Repr

/-- The window end W (R102), the request having been tested. -/
def windowEnd (p : Plan) (start : Nat) (request : Option Nat) : Nat :=
  match request with
  | some x => min x (start + p.nominal)
  | none => start + p.nominal

/-- The provisional cut, kind and needed line (R104 to R106). -/
def chooseCut (p : Plan) (start w : Nat) (kind : PlateKind) (cs : List AvoidSpan) : Choice :=
  match leastSpan (avoidSet p start w cs) with
  | none => { cut := w, kind := kind, needed := w + p.guard - 1 }
  | some f =>
    let a := max start (f.y0 - p.guard)
    if start + p.minPlate ≤ a then { cut := a, kind := .short, needed := f.y0 }
    else
      let b := max (chainEnd p (f.y1 + p.guard) cs) (start + p.pitch)
      { cut := if start + p.strip < b then start + p.strip else b, kind := .cullet,
        needed := b + p.minPlate + p.guard - 1 }

/-! ## Taking a decision (R109 to R111) -/

/-- The test of the pending request (R102). -/
def testRequest (p : Plan) (s : State) : State :=
  match s.sched.request with
  | some x =>
    if x < s.sched.start + p.pitch then
      issueEvent .requestLate [x, s.sched.start] { s with sched := { s.sched with request := none } }
    else s
  | none => s

/-- S moves forward without a plate: unplanned length and S advance (R109, R110, R119, R121), and the flaw list (R82). -/
def jumpUnplanned (target : Nat) (s : State) : State :=
  let len := target - s.sched.start
  removePassed target (tallyAdd .sAdvance len (tallyAdd .unplannedLength len
    { s with sched := { s.sched with start := target } }))

/-- The plate record of a decision (R111 step 1, R112). -/
def newPlate (p : Plan) (cut : Nat) (kind : PlateKind) (isForced unverified : Bool) (s : State) : Plate :=
  let lanes := snapshot s.lanes
  { num := s.sched.nextPlate, start := s.sched.start, cut := cut, kind := kind, forced := isForced,
    unverified := unverified,
    replanned := (match s.sched.replan with
      | some limit => decide (s.sched.start < limit)
      | none => false),
    deviation := false, lateConfirmed := false, lanes := lanes, seq := s.sched.nextSeq, distance := p.distance,
    margin := p.margin, missWindow := p.missWindow, tolerance := p.tolerance, missAction := p.missAction,
    state := .decided, final := false, pieces := newPieces lanes s.sched.start cut, fenced := false }

/-- Lines `y0` to `y1` overlap a plate's lines (R78 step 5, R111 step 2). -/
def Plate.overlaps (p : Plate) (y0 y1 : Nat) : Bool := decide (y0 < p.cut) && decide (p.start ≤ y1)

/-- A plate with the flaw list's entries, and the zone, that overlap it applied (R111 step 2). To a plate decided in place
of abandoned ones, which is REPLANNED, those that an abandoned plate was offered are not offered again (R118, R153; log
entry 47). -/
def plateWithFlaws (s : State) (p : Plate) : Plate :=
  let listed := (s.sched.flaws.filter (fun f => p.overlaps f.y0 f.y1 && !(f.spent && p.replanned))).map ListedFlaw.offer
  let zone := match s.sched.zone with
    | some z => if p.overlaps z.y0 z.y1 && !(z.spent && p.replanned) then [z.offer] else []
    | none => []
  (listed ++ zone).foldl (fun p f => applyToPlate s.grades f p) p

/-- Steps 1 and 2 of R111: the plate enters the queue and occupies its slot; numbers advance; a replan limit that S has
reached is removed (R119). -/
def enterPlate (q : Plate) (s : State) : State :=
  modSlot (slotOf s q.seq) (fun r => { r with occupant := some q.num })
    { s with sched := { s.sched with
        queue := s.sched.queue ++ [plateWithFlaws s q]
        nextPlate := nextNumber s.sched.nextPlate
        nextSeq := nextSequence s s.sched.nextSeq
        replan := if q.replanned then s.sched.replan else none } }

/-- The cut is given to the Blob Tracker (R75, R111 step 4): split now, with the flaws still to be raised, or listed. -/
def giveCut (cut : Nat) (s : State) : List Flaw × State :=
  if cut ≤ s.asm.a + 1 then splitGaps cut (decide (cut ≤ s.asm.a)) s
  else ([], { s with blobs := { s.blobs with splits := insertCut cut s.blobs.splits } })

/-- The tallies of a decided plate (R111 step 6, R108, R121). -/
def tallyDecision (q : Plate) (s : State) : State :=
  let s1 := tallyAdd .sAdvance (q.cut - q.start) (tallyAdd .decidedLength (q.cut - q.start) (tallyAdd (.decided q.kind) 1 s))
  if q.forced then tallyAdd .forced 1 s1 else s1

/-- A decision takes effect (R111). -/
def decidePlate (p : Plan) (cut : Nat) (kind : PlateKind) (isForced unverified : Bool) (s : State) : State :=
  let q := newPlate p cut kind isForced unverified s
  let g := giveCut cut (removePassed cut (enterPlate q s))
  let s1 := tallyDecision q (pumpSeals g.2)
  raiseFlaws g.1 { s1 with sched := { s1.sched with
    request := if kind == .requested then none else s1.sched.request, start := cut } }

/-- The comparison with X0 and what follows it (R109). The flag says whether S has moved, so that the decision at the new S
is evaluated at once. -/
def finishDecision (p : Plan) (c : Choice) (isForced : Bool) (s : State) : State :=
  let x0 := earliestCut s p
  let unverified := isForced && decide (s.asm.a < c.needed)
  if x0 ≤ c.cut then decidePlate p c.cut c.kind isForced unverified s
  else
    let l := max x0 (s.sched.start + p.pitch)
    if l ≤ s.sched.start + p.nominal then
      let s1 :=
        if c.kind == .requested then
          issueEvent .requestLate [s.sched.request.getD 0, s.sched.start] { s with sched := { s.sched with request := none } }
        else s
      decidePlate p l .late isForced unverified s1
    else jumpUnplanned x0 (issueEvent .unplanned [s.sched.start, x0] s)

/-- The plate at S is starved (R110). -/
def starve (p : Plan) (s : State) : State :=
  jumpUnplanned (s.sched.start + p.nominal) (issueEvent .starved [s.sched.start] s)

/-- A decision that is not forced may be taken (R107). -/
def mayDecide (c : Choice) (s : State) : Bool := decide (c.needed ≤ s.asm.a) && noneOpenBelow s.blobs c.needed

/-- The choice an evaluation comes to, the request having been tested (R102 to R106). -/
def evaluationChoice (p : Plan) (s : State) : Choice :=
  let w := windowEnd p s.sched.start s.sched.request
  chooseCut p s.sched.start w (if s.sched.request = some w then .requested else .nominal) (candidates s (forced s p))

/-- One evaluation (R101 to R111): the state after it, and whether S moved. -/
def evaluateOnce (p : Plan) (s : State) : Bool × State :=
  let s1 := testRequest p s
  if Config.queuePlaces ≤ s1.sched.queue.length then
    if forced s1 p then (true, starve p s1) else (false, s1)
  else
    let c := evaluationChoice p s1
    if forced s1 p || mayDecide c s1 then (true, finishDecision p c (forced s1 p) s1) else (false, s1)

/-- Evaluates the decision at S, and again while S moves (R101). The fuel bounds the moves of S: each is by a line at
least, and S comes to rest at most a plate beyond what A and E reach. -/
def evaluateLoop (p : Plan) : Nat → State → State
  | 0, s => s
  | fuel + 1, s =>
    let r := evaluateOnce p s
    if r.1 then evaluateLoop p fuel r.2 else r.2

/-- Evaluates the decision at S, if the scheduler is active (R101). -/
def evaluate (s : State) : State :=
  match s.sched.plan with
  | some p => if s.sched.active then evaluateLoop p (s.enc.e + s.asm.a + 64) s else s
  | none => s

/-! ## Retirement (R114, R115) -/

/-- The head of the queue retires (R114). -/
def mayRetire (s : State) (p : Plate) : Bool :=
  p.final && (match p.state with
    | .cut | .skipped => true
    | .missed => p.missAction == .retire
    | .sealFailed => decide (cutPoint p ≤ s.enc.e)
    | _ => false)

/-- The tallies of a SALE piece at retirement (R115, R166). -/
def tallyPiece (s : State) (q : Piece) : State :=
  let g := q.grade.getD 4
  tallyAdd (.laneArea q.label g) q.area (tallyAdd (.lanePieces q.label g) 1 (tallyAdd (.areaByGrade g) q.area s))

/-- The tallies of a retiring plate (R115 step 2, R164). -/
def tallyRetirement (p : Plate) (s : State) : State :=
  let s1 := p.pieces.foldl tallyPiece (tallyAdd (.retired p.state) 1 s)
  { s1 with tally := { s1.tally with
      firstPlate := match s1.tally.firstPlate with
        | some n => some n
        | none => some p.num
      lastPlate := some p.num } }

/-- A plate leaves the queue by retirement (R115): its records, its tallies, and its entry and slot. -/
def retirePlate (p : Plate) (s : State) : State :=
  let s1 := tallyRetirement p (handGroup (.plate p :: pieceRecords p) s)
  modSlot (slotOf s1 p.seq) (fun r => { r with occupant := none, retired := some p.seq })
    { s1 with sched := { s1.sched with queue := s1.sched.queue.tail } }

/-- Examines the head, and the next head after each retirement (R114). -/
def retireLoop : Nat → State → State
  | 0, s => s
  | fuel + 1, s =>
    match s.sched.queue with
    | p :: _ => if s.sched.active && mayRetire s p then retireLoop fuel (evaluate (retirePlate p s)) else s
    | [] => s

/-- A plate's state or grade state, or the head, may have changed: the Grader's test (R147, R148) and the examination of
the head (R114). -/
def plateChanged (s : State) : State := retireLoop (2 * Config.queuePlaces) (gradeTest s)

/-- The head is examined if the queue's plates have changed from one state to another: a plate has become SEALING, or is new
(R114, R140). -/
def examineIfChanged (before after : State) : State :=
  if after.sched.queue = before.sched.queue then after else plateChanged after

/-! ## Reads of a ticket (R129) -/

/-- A cutter read that covers the seal word of a SEALED slot, read from memory, makes the plate TAKEN (R129), and the head is
examined (R140). -/
def takeTicket (q : ReadPortion) (s : State) : State :=
  match occupant s q.slot with
  | some p =>
    if q.fromMemory && q.sealWhole && enabled s && p.state == .sealed then
      plateChanged (modPlate p.num (fun p => { p with state := .taken }) s)
    else s
  | none => s

/-! ## Misses (R135) -/

/-- A plate is SEALED or TAKEN and E has reached its miss point (R135). -/
def missDue (s : State) (p : Plate) : Bool :=
  (p.state == .sealed || p.state == .taken) && decide (missPoint p ≤ s.enc.e)

/-- The queued plate of a number becomes MISSED if its miss is due, and is examined for retirement (R114, R135). -/
def missPlate (s : State) (num : Nat) : State :=
  match plateNumbered s num with
  | some p => if missDue s p then plateChanged (markMissed p s) else s
  | none => s

/-- An increase of E makes every plate whose miss point it reaches MISSED, in the order of the queue (R24, R135). -/
def takeMisses (s : State) : State := ((s.sched.queue.filter (missDue s)).map (·.num)).foldl missPlate s

/-! ## Activation, RESTART and disable (R99, R118 to R120) -/

/-- The scheduler becomes active when its three conditions come to hold: S becomes A + 1, untallied, and the decision is
evaluated (R99, R101). -/
def activate (s : State) : State :=
  if !s.sched.active && enabled s && s.sched.plan.isSome && s.window.ticket.valid then
    plateChanged (evaluate { s with sched := { s.sched with active := true, start := s.asm.a + 1 } })
  else s

/-- The scheduler becomes inactive (R99, R120): flaw list, request and replan limit are gone, and the overflow zone with the
list, after a REFRESH too, for which R99 names the list alone (R80; DEDUCED, log entry 54). -/
def deactivate (s : State) : State :=
  { s with sched := { s.sched with active := false, request := none, replan := none, flaws := [], zone := none } }

/-- RESTART keeps this plate and every plate ahead of it (R118). -/
def holdsRestart (s : State) (p : Plate) : Bool :=
  frozen s p || (match p.state with
    | .taken | .cut | .skipped | .missed | .sealFailed => true
    | _ => false)

/-- How many plates RESTART keeps: up to the last that holds it (R118). -/
def keptPlates (s : State) : Nat :=
  s.sched.queue.length - (s.sched.queue.reverse.takeWhile (fun p => !holdsRestart s p)).length

/-- A plate is abandoned (R118, R120). -/
def abandonPlate (atDisable : Bool) (s : State) (p : Plate) : State :=
  tallyAdd .abandoned 1 (withdrawTicket atDisable p
    { s with blobs := { s.blobs with splits := s.blobs.splits.filter (fun c => c != p.cut) } })

/-- The plates RESTART abandons (R118). -/
def abandonedPlates (s : State) : List Plate := s.sched.queue.drop (keptPlates s)

/-- RESTART's abandoned plates are withdrawn and leave the queue, and the pending request is cleared (R118, R119). -/
def abandonSuffix (s : State) : State :=
  let s1 := (abandonedPlates s).foldl (abandonPlate false) s
  { s1 with sched := { s1.sched with queue := s.sched.queue.take (keptPlates s), request := none } }

/-- Lines that an abandoned plate was offered: those that overlap one (R118, R153; log entry 47). -/
def meetsGone (gone : List Plate) (y0 y1 : Nat) : Bool := gone.any (fun p => p.overlaps y0 y1)

/-- With a plate abandoned, S, the next plate number and the next sequence go back to those of the first one, the replan
limit is the last one's cut (R119), and what the abandoned plates were offered is spent (R118, R153). The overflow zone is
spent whole if it overlaps one, whatever else it has taken in (DESIGN CHOICE, log entry 47). -/
def resumeFrom (gone : List Plate) (s : State) : State :=
  match gone.head?, gone.getLast? with
  | some f, some l =>
    { s with sched := { s.sched with
        start := f.start, nextPlate := f.num, nextSeq := f.seq, replan := some l.cut
        flaws := s.sched.flaws.map (fun x => { x with spent := x.spent || meetsGone gone x.y0 x.y1 })
        zone := s.sched.zone.map (fun z => { z with spent := z.spent || meetsGone gone z.y0 z.y1 }) } }
  | _, _ => s

/-- S becomes X0 if that is greater, with unplanned length; the flaw list follows (R119, R82). -/
def raiseStart (p : Plan) (s : State) : State :=
  if s.sched.start < earliestCut s p then jumpUnplanned (earliestCut s p) s else removePassed s.sched.start s

/-- RESTART while the scheduler is active (R118, R119), up to its completion. -/
def restartPlates (p : Plan) (s : State) : State :=
  let s1 := resumeFrom (abandonedPlates s) (abandonSuffix s)
  let s2 := raiseStart p s1
  issueEvent .restarted [(abandonedPlates s).length, s1.sched.start, s2.sched.start, s2.sched.nextSeq] s2

/-- The scheduler's part of a disable (R120, R138); the null rewrites are issued in queue order (DESIGN CHOICE, log entry 59). -/
def disableScheduler (s : State) : State :=
  let s1 := s.sched.queue.foldl (abandonPlate true) s
  deactivate { s1 with sched := { s1.sched with queue := [] }, blobs := { s1.blobs with splits := [] } }

end Sys2Proof.Machine
end

