-- ==== Sys2Proof/Machine/TrackOps.lean ====
section
/-! DEFINITION. The Ring Tracker: fills (R4 to R6), responses (R7, R8), giving up a busy slot (R14), the seed slot (R16, R39) and the
changes of a stream's state (R15, R17, R20). -/

namespace Sys2Proof.Machine

/-! ## Slots -/

/-- A slot is busy (R3). -/
def DirEntry.busy (e : DirEntry) : Bool := e.state == .ready || e.pin || (e.state == .filling && e.awaiting)

/-- The fills a write's response concerns, without those of one slot. -/
def dropNotes (n k : Nat) (notes : List FillNote) : List FillNote :=
  notes.filter (fun x => !(x.stream == n && x.slot == k))

/-- The fills a transaction's response concerns, changed by `f`. -/
def PassTxn.mapNotes (f : List FillNote → List FillNote) : PassTxn → PassTxn
  | .write w notes => .write w (f notes)
  | .read r nulls => .read r nulls

/-- The Ring Tracker stops watching the responses of the writes of a slot's fill (R7, R14, R17). -/
def withdrawNotes (n k : Nat) (s : State) : State :=
  { s with arb := { s.arb with
      passWaiting := s.arb.passWaiting.map (PassTxn.mapNotes (dropNotes n k))
      passOut := s.arb.passOut.map (PassTxn.mapNotes (dropNotes n k)) } }

/-- The Ring Tracker stops watching the responses of the writes of a stream's fills (R20). -/
def withdrawStream (n : Nat) (s : State) : State :=
  let drop := fun notes : List FillNote => notes.filter (fun x => x.stream != n)
  { s with arb := { s.arb with
      passWaiting := s.arb.passWaiting.map (PassTxn.mapNotes drop)
      passOut := s.arb.passOut.map (PassTxn.mapNotes drop) } }

/-- A slot whose stamp had been accepted becomes LOST: one missing line (R18), its pin is cleared (R158). -/
def loseSlot (n k : Nat) (s : State) : State :=
  tallyAdd (.missing n) 1 (withdrawNotes n k
    (modDir n k (fun e => { e with state := .lost, pin := false, awaiting := false, failed := false }) s))

/-- A slot becomes LOST with no stamp (R4, R5; log entry 45). -/
def rejectSlot (n k : Nat) (s : State) : State :=
  modDir n k (fun e => { e with
    stamp := none, state := .lost, pin := false, awaiting := false, failed := false }) s

/-- Sets the fill in progress of a stream. -/
def setFill (n : Nat) (f : Option Fill) (s : State) : State := modStream n (fun r => { r with fill := f }) s

/-- The stamp of a slot, as an event carries it. -/
def stampOf (s : State) (n k : Nat) : Nat := (dirEntry s n k).stamp.getD 0

/-- Ends the fill in progress, if there is one, with SEQ_BREAK (R4, R6). -/
def breakFill (n : Nat) (s : State) : State :=
  match (stream s n).fill with
  | some f => issueEvent .seqBreak [n, f.slot, stampOf s n f.slot] (loseSlot n f.slot (setFill n none s))
  | none => s

/-! ## Giving up a busy slot (R14) -/

/-- A busy slot's old content is given up to a forwarded header write (R14). -/
def giveUp (n k : Nat) (s : State) : State :=
  let e := dirEntry s n k
  let s1 :=
    if e.state == .ready || (e.state == .filling && e.awaiting) then
      issueEvent .overrun [n, k, stampOf s n k] (tallyAdd (.overrun n) 1 (withdrawNotes n k s))
    else s
  modDir n k (fun e => { e with pin := false, awaiting := false }) s1

/-! ## Taking a write's portions (R4 to R6) -/

/-- What a write has brought so far: the fills its response will concern, and the state. -/
structure Taking where
  notes : List FillNote
  state : State
  deriving DecidableEq

/-- A header that passes R4 and R5 begins a fill. -/
def beginFill (n k stamp count len : Nat) (t : Taking) : Taking :=
  let s := t.state
  let remaining := count - (len - 32)
  let s1 := match (stream s n).lastStamp with
    | some l => if l + 1 < stamp then tallyAdd (.missing n) (stamp - l - 1) s else s
    | none => s
  let s2 := modStream n (fun r => { r with
    lastStamp := some stamp
    fill := if remaining = 0 then none
            else some { slot := k, remaining := remaining, next := len, start := s.enc.e } }) s1
  let s3 := modDir n k (fun _ =>
    { stamp := some stamp, pixels := count, state := .filling, pin := false, awaiting := decide (remaining = 0),
      failed := false }) s2
  { notes := t.notes ++ [{ stream := n, slot := k, completing := decide (remaining = 0) }],
    state := pinAccepted n k stamp s3 }

/-- A stamp is rejected (R5). -/
def stampRejected (s : State) (n stamp : Nat) : Bool :=
  (match (stream s n).lastStamp with
   | some l => decide (stamp ≤ l)
   | none => false) || decide (s.enc.e + (streamWindow s n).stagger + 4 < stamp)

/-- A header portion is taken (R4, R5), a busy slot being given up first (R9, R14). -/
def takeHeader (n : Nat) (p : Portion) (t : Taking) : Taking :=
  let s := if (dirEntry t.state n p.slot).busy then giveUp n p.slot t.state else t.state
  let s1 := breakFill n s
  match parseHeader (streamWindow s1 n).slotSize p.data with
  | none => { t with state := issueEvent .headerBad [n, p.slot] (rejectSlot n p.slot s1) }
  | some (stamp, count) =>
    if stampRejected s1 n stamp then
      { t with state := issueEvent .stampBad [n, p.slot, stamp] (rejectSlot n p.slot s1) }
    else beginFill n p.slot stamp count p.data.length { t with state := s1 }

/-- A portion that is no header continues the fill in progress or breaks it; without a fill it passes untracked (R6). -/
def takeContinuation (n : Nat) (p : Portion) (t : Taking) : Taking :=
  match (stream t.state n).fill with
  | none => t
  | some f =>
    if f.slot = p.slot ∧ f.next = p.offset then
      let remaining := f.remaining - p.data.length
      let note : FillNote := { stream := n, slot := p.slot, completing := decide (remaining = 0) }
      { notes := t.notes ++ [note],
        state :=
          if remaining = 0 then modDir n p.slot (fun e => { e with awaiting := true }) (setFill n none t.state)
          else setFill n (some { f with remaining := remaining, next := p.offset + p.data.length }) t.state }
    else { t with state := breakFill n t.state }

/-- A portion of a stream write is taken (R2, R4, R6). -/
def takePortion (n : Nat) (t : Taking) (p : Portion) : Taking :=
  if p.offset = 0 then takeHeader n p t else takeContinuation n p t

/-- The portions of a stream write are taken in ascending address order, each as a write of its own (R2). A fill that a
later portion broke is not watched. -/
def takeStreamWrite (n : Nat) (w : UpWrite) (s : State) : Taking :=
  let t := (portions (streamWindow s n) w).foldl (takePortion n) { notes := [], state := s }
  { t with notes := t.notes.filter (fun x => (dirEntry t.state n x.slot).state == .filling) }

/-- The first header portion of a write that meets a busy slot (R9). -/
def busyHeader (s : State) (n : Nat) (w : UpWrite) : Option Nat :=
  ((portions (streamWindow s n) w).find? (fun p => decide (p.offset = 0) && (dirEntry s n p.slot).busy)).map (·.slot)

/-- The slot of a write's first header portion, which HOLD_EXPIRED carries (R12, R18), busy or not: the rule does not say
which of several it is (DESIGN CHOICE, log entry 55). -/
def headerSlot (s : State) (n : Nat) (w : UpWrite) : Nat :=
  match (portions (streamWindow s n) w).find? (fun p => decide (p.offset = 0)) with
  | some p => p.slot
  | none => 0

/-- A write is tracked into a stream (R2): the part is enabled, the stream neither OFF nor FAULTED, and the write's first
byte lies in its ring. -/
def tracksInto (s : State) (w : UpWrite) (n : Nat) : Bool :=
  enabled s && !((stream s n).state == .off) && !((stream s n).state == .faulted) && inRing (streamWindow s n) w.addr

/-- The stream a write is attributed to (R2). -/
def streamOf (s : State) (w : UpWrite) : Option Nat := (List.range 8).find? (tracksInto s w)

/-! ## The seed slot (R16, R39) -/

/-- READY slots of a stream that a test accepts become DONE unanalysed (R8). -/
def passReady (n : Nat) (test : Nat → DirEntry → Bool) (s : State) : State :=
  modStream n (fun r => { r with dir := r.dir.mapIdx (fun k e =>
    if e.state == .ready && test k e then { e with state := .done } else e) }) s

/-- A seed fetch failed: the stream stays SEEDING and its other READY slots become DONE (R16). -/
def seedFailed (n k : Nat) (s : State) : State :=
  passReady n (fun _ _ => true) (modDir n k (fun e => if e.state == .ready then { e with state := .done } else e)
    (modStream n (fun r => { r with seed := none }) s))

/-- The first slot to become READY is the seed slot: its fetch is issued, or fails at once when the slot is short (R16,
R39). -/
def startSeed (n k : Nat) (s : State) : State :=
  let w := streamWindow s n
  if (dirEntry s n k).pixels < w.winStop then seedFailed n k s
  else
    issueReads (.seed n) (bursts (slotAddr w k + 32 + w.winStart) (w.winStop - w.winStart))
      (modStream n (fun r => { r with seed := some { slot := k, stamp := stampOf s n k } }) s)

/-! ## Responses (R7, R8) -/

/-- A slot that becomes READY behind the analysis line becomes DONE at once (R8). -/
def lateTest (n k : Nat) (s : State) : State :=
  if stampOf s n k ≤ s.asm.a + (streamWindow s n).stagger then modDir n k (fun e => { e with state := .done }) s else s

/-- A slot becomes READY (R7), with what follows from the stream's state (R8, R16, R17). -/
def becomeReady (n k : Nat) (s : State) : State :=
  let before := (stream s n).state
  let s1 := modDir n k (fun e => { e with state := .ready, awaiting := false, failed := false })
    (modStream n (fun r => { r with lastReady := s.enc.e }) s)
  match before with
  | .seeding => if (stream s n).seed.isNone then startSeed n k s1 else s1
  | .lapsed =>
    lateTest n k (issueEvent .resumed [n, k, stampOf s n k]
      (modStream n (fun r => { r with state := .running, runningSince := s.enc.e }) s1))
  | .running => lateTest n k s1
  | .off | .faulted => s1

/-- The response of one write of a fill (R7). The completing write's response decides, even if another write of the fill, with
another source tag, is still unanswered; the error of such a one then marks what the slot holds (DESIGN CHOICE, log entry 57). -/
def resolveNote (okay : Bool) (s : State) (x : FillNote) : State :=
  let s1 := if okay then s else modDir x.stream x.slot (fun e => { e with failed := true }) s
  if x.completing then
    if (dirEntry s1 x.stream x.slot).failed then
      issueEvent .writeFailed [x.stream, x.slot, stampOf s1 x.stream x.slot] (loseSlot x.stream x.slot s1)
    else becomeReady x.stream x.slot s1
  else s1

/-! ## Changes of a stream's state (R15, R17, R20) -/

/-- A hold ends with its writes let go in order: the held one in one mode, the queued ones in another (R11, R12). They come
before what other holds let go earlier and the Classifier could not yet take (log entry 56). -/
def endHold (n : Nat) (heldMode queueMode : TakeMode) (s : State) : State :=
  match (stream s n).hold with
  | some h =>
    { modStream n (fun r => { r with hold := none }) s with
      toTake := { stream := n, write := h.held, mode := heldMode } ::
        h.queue.map (fun w => { stream := n, write := w, mode := queueMode }) ++ s.toTake }
  | none => s

/-- The hold of a stream that goes to FAULTED or OFF ends: all its writes, those let go before and not yet taken too, go on
untracked (R12, R17, R20). -/
def abandonHold (n : Nat) (s : State) : State :=
  let s1 := endHold n .untracked .untracked s
  { s1 with toTake := s1.toTake.map (fun x => if x.stream = n then { x with mode := .untracked } else x) }

/-- The slots of a stream that a test accepts. -/
def slotsWhere (s : State) (n : Nat) (test : DirEntry → Bool) : List Nat :=
  (List.range (stream s n).dir.length).filter (fun k => test (dirEntry s n k))

/-- A stream goes to FAULTED (R17): READY slots become DONE, outstanding completions are withdrawn, its pins are cleared
(R160), a seed fetch is left to end unheeded, its episode ends (R33) and its hold ends (R12). -/
def faultStream (n : Nat) (s : State) : State :=
  let waiting := slotsWhere s n (fun e => e.state == .filling && e.awaiting)
  let s1 := waiting.foldl (fun s k => loseSlot n k s) (passReady n (fun _ _ => true) s)
  let s2 := disown (· == .seed n) (unpinStream n s1)
  abandonHold n (issueEvent .streamFaulted [n]
    (modStream n (fun r => { r with state := .faulted, seed := none, episode := false }) s2))

/-- A stream goes to OFF (R20, R21, R28): fill, hold, directory and pins are gone, a capture copy of the stream is
abandoned (R163), its fetches' data will be discarded (R38). -/
def stopStream (n : Nat) (s : State) : State :=
  if (stream s n).state == .off then s
  else
    let s1 := abandonHold n (dropCopyOf n s)
    let s2 := withdrawStream n s1
    let s3 := disown (· == .seed n) (modStream n (fun _ => StreamRec.off) s2)
    { s3 with asm := { s3.asm with record := s3.asm.record.map (fun es =>
        es.map (fun e => if e.stream = n then { e with stopped := true } else e)) } }

/-! ## What falls due with E -/

/-- The hold of a stream has reached its limit (R12). -/
def holdDue (s : State) (n : Nat) : Bool :=
  match (stream s n).hold with
  | some h => decide (h.start + (streamWindow s n).holdLimit ≤ s.enc.e)
  | none => false

/-- The fill in progress of a stream has reached its line timeout (R15). -/
def lineTimeoutDue (s : State) (n : Nat) : Bool :=
  match (stream s n).fill with
  | some f => decide (f.start + (streamWindow s n).lineTimeout ≤ s.enc.e)
  | none => false

/-- A RUNNING stream has been silent for the silence limit (R17). -/
def lapseDue (s : State) (n : Nat) : Bool :=
  let r := stream s n
  r.state == .running && decide (max r.runningSince r.lastReady + s.window.header.silence ≤ s.enc.e)

end Sys2Proof.Machine
end

