-- ==== Sys2Proof/Machine/AssemblyOps.lean ====
section
/-! DEFINITION. The Line Assembler: standings (R30), assembly by arrival and by timeout (R31 to R33), the coverage record (R34), pixel
and seed fetches (R35 to R39), hand-over (R40) and the completion of a line (R41). -/

namespace Sys2Proof.Machine

/-! ## Standings and assembly -/

/-- The line being assembled, P = A + 1. -/
def assembling (s : State) : Nat := s.asm.a + 1

/-- The first slot of a stream with a stamp in a state. -/
def slotInState (r : StreamRec) (stamp : Nat) (st : SlotState) : Option Nat :=
  r.dir.findIdx? (fun e => e.stamp == some stamp && e.state == st)

/-- The standing of a stream for line `l`, and for PRESENT its slot (R30). -/
def standing (s : State) (n l : Nat) : Standing × Nat :=
  let r := stream s n
  let needed := l + (streamWindow s n).stagger
  if r.state != .running then (.uncovered, 0)
  else if (match r.entryStamp with
      | some x => decide (needed ≤ x)
      | none => false) then (.seeded, 0)
  else match slotInState r needed .ready with
    | some k => (.present, k)
    | none =>
      if (slotInState r needed .filling).isSome then (.waiting, 0)
      else if (match r.lastStamp with
          | some x => decide (x < needed)
          | none => true) then (.waiting, 0)
      else (.missing, 0)

/-- The coverage record's entry for a stream (R34). -/
def covEntry (s : State) (l n : Nat) : CovEntry :=
  let st := standing s n l
  let w := streamWindow s n
  { stream := n, first := spanFirst w, last := spanLast w, standing := st.1, slot := st.2,
    stamp := l + w.stagger, pixels := (dirEntry s n st.2).pixels, stopped := false }

/-- The coverage record of line `l`: one entry for each stream that is not OFF (R34). -/
def coverageRecord (s : State) (l : Nat) : List CovEntry :=
  ((List.range 8).filter (fun n => (stream s n).state != .off)).map (covEntry s l)

/-- The assembly timeout in force (R32). -/
def assemblyTimeout (s : State) : Nat :=
  if s.window.header.valid then s.window.header.timeout else Config.defaultAssemblyTimeout

/-- Line P is assembled by arrival (R29, R31). -/
def arrivalDue (s : State) : Bool :=
  enabled s && s.asm.record.isNone && decide (assembling s ≤ s.enc.e) &&
    (List.range 8).any (fun n => (stream s n).state == .running) &&
    (coverageRecord s (assembling s)).all (fun e => e.standing != .waiting)

/-- Line P is assembled by timeout (R32). -/
def timeoutDue (s : State) : Bool :=
  enabled s && s.asm.record.isNone && decide (assembling s + 63 + assemblyTimeout s ≤ s.enc.e)

/-- The episode of one stream at an assembly, with its event (R33). -/
def stepEpisode (l : Nat) (s : State) (e : CovEntry) : State :=
  if e.standing == .waiting then
    if (stream s e.stream).episode then s
    else issueEvent .assemblyTimeout [e.stream, l, e.stamp] (modStream e.stream (fun r => { r with episode := true }) s)
  else modStream e.stream (fun r => { r with episode := false }) s

/-- The bytes of an entry's fetch span (R35). -/
def fetchLength (w : StreamWindow) (e : CovEntry) : Nat := min e.pixels w.winStop - w.winStart

/-- The address of an entry's fetch span (R35). -/
def fetchAddr (w : StreamWindow) (e : CovEntry) : Nat := slotAddr w e.slot + 32 + w.winStart

/-- Issues the fetch of one entry, if it is PRESENT (R35, R36). -/
def issueFetch (s : State) (e : CovEntry) : State :=
  let w := streamWindow s e.stream
  if e.standing == .present then issueReads (.pixel e.stream) (bursts (fetchAddr w e) (fetchLength w e)) s else s

/-- Line P is assembled: its coverage record is formed, its episodes are stepped and its fetches are issued in ascending
stream number (R31 to R36); for the events of several episodes that order is the model's (DESIGN CHOICE, log entry 59). -/
def assembleLine (s : State) : State :=
  let record := coverageRecord s (assembling s)
  let s1 := record.foldl (stepEpisode (assembling s)) { s with asm := { s.asm with record := some record } }
  record.foldl issueFetch s1

/-! ## The end of the fetch and the hand-over -/

/-- The purpose of a pixel burst. -/
def Purpose.isPixel : Purpose → Bool
  | .pixel _ => true
  | _ => false

/-- The results that belong to a purpose. -/
def resultsOf (p : Purpose) (txns : List OwnTxn) (results : List ReadResult) : List ReadResult :=
  ((txns.zip results).filter (fun x => x.1.purpose == p)).map Prod.snd

/-- An entry whose fetch failed: a burst got an error response (R37). -/
def fetchFailed (txns : List OwnTxn) (results : List ReadResult) (e : CovEntry) : Bool :=
  e.standing == .present && (resultsOf (.pixel e.stream) txns results).any (fun r => !r.okay)

/-- An entry's failed fetch issues FETCH_ERROR: not when the stream was stopped and no burst of it had failed by then (R37,
R38; `early` names the streams stopped after a failure, log entry 50). -/
def fetchReported (early : List (Fin 8)) (txns : List OwnTxn) (results : List ReadResult) (e : CovEntry) : Bool :=
  fetchFailed txns results e && (!e.stopped || early.any (fun n => n.val == e.stream))

/-- The pixels of an entry's span that are covered, from its first column on (R35, R37, R38). -/
def entryPixels (s : State) (txns : List OwnTxn) (results : List ReadResult) (e : CovEntry) : List Byte :=
  let w := streamWindow s e.stream
  if e.standing != .present || e.stopped || fetchFailed txns results e then []
  else spanBytes (fetchAddr w e) (fetchLength w e) (resultsOf (.pixel e.stream) txns results)

/-- A column of the line handed over: the entry whose span holds it, with that entry's covered pixels (R40). -/
def lineColumn (entries : List (CovEntry × List Byte)) (c : Nat) : ColIn :=
  match entries.find? (fun x => decide (x.1.first ≤ c) && decide (c ≤ x.1.last)) with
  | none => .outside
  | some x =>
    match x.2[c - x.1.first]? with
    | some p => .covered p.toNat
    | none => .uncovered

/-- The FETCH_ERROR of an entry (R37). -/
def fetchEvent (l : Nat) (early : List (Fin 8)) (txns : List OwnTxn) (results : List ReadResult) (s : State)
    (e : CovEntry) : State :=
  if fetchReported early txns results e then issueEvent .fetchError [e.stream, e.slot, e.stamp, l] s else s

/-! ## Completing a line (R41) -/

/-- The slot that a PRESENT entry used becomes DONE if it still holds the stamp in state READY (R41). -/
def passEntry (s : State) (e : CovEntry) : State :=
  if e.standing == .present && !e.stopped then
    passReady e.stream (fun k d => decide (k = e.slot) && d.stamp == some e.stamp) s
  else s

/-- The other READY slots that line `l` has passed become DONE (R8, R41), of a LAPSED stream as of a RUNNING one: R41 names
RUNNING streams and R8 makes no such limit. A SEEDING stream's READY slots stay until its seed fetch ends (R16; DEDUCED,
log entry 51). -/
def passBehind (l : Nat) (s : State) (n : Nat) : State :=
  if (stream s n).state == .running || (stream s n).state == .lapsed then
    passReady n (fun _ d => match d.stamp with
      | some x => decide (x < l + (streamWindow s n).stagger)
      | none => false) s
  else s

/-- The Order Unit tests a not-before line against A (R178). -/
def testNotBefore (s : State) : State :=
  match s.orders.phase with
  | .waiting o =>
    (match orderNotBefore o with
     | some l => if l ≤ s.asm.a then { s with orders := { s.orders with phase := .ready o } } else s
     | none => { s with orders := { s.orders with phase := .ready o } })
  | _ => s

/-- A lane order or PROFILE LOAD that waits for the line's completion is taken (R86). -/
def takeWaitingLaneOrder (s : State) : State :=
  match s.orders.phase with
  | .laneWait o => takeLaneOrder o s
  | _ => s

/-- Line `l` is completed in one act and its advance made known (R41). -/
def completeLine (l : Nat) (record : List CovEntry) (s : State) : State :=
  let s1 := (List.range 8).foldl (passBehind l) (record.foldl passEntry s)
  let s2 := { s1 with asm := { a := l, record := none, analysing := false } }
  plateChanged (evaluate (testNotBefore (takeWaitingLaneOrder s2)))

/-- The end of line P's pixel fetch: FETCH_ERRORs, hand-over, the detection pass, the Blob Tracker's act and the line's
completion (R36 to R42, R47, R64). Of several FETCH_ERRORs the lowest stream number's comes first (DESIGN CHOICE, log entry
59). -/
def analyseLine (early : List (Fin 8)) (record : List CovEntry) (txns : List OwnTxn) (results : List ReadResult)
    (s : State) : State :=
  let l := assembling s
  let s1 := record.foldl (fetchEvent l early txns results) { s with asm := { s.asm with analysing := true } }
  let entries := record.map (fun e => (e, entryPixels s1 txns results e))
  let pass := linePass s1.lanes ((List.range s1.det.columns.length).map (lineColumn entries)) s1.det
  completeLine l record (blobAct l pass.runs pass.overflow pass.uncovered (takePass l pass s1))

/-! ## The end of a seed fetch (R16, R39, R45) -/

/-- A seed fetch completed: the seed slot becomes DONE, its stamp the entry stamp, the references are loaded and the
stream goes to RUNNING. -/
def seedDone (n : Nat) (f : SeedFetch) (bursts : List ReadResult) (s : State) : State :=
  let w := streamWindow s n
  let pixels := spanBytes (slotAddr w f.slot + 32 + w.winStart) (w.winStop - w.winStart) bursts
  let s1 := passReady n (fun k d => decide (k = f.slot) && d.stamp == some f.stamp) s
  seedLoad (spanFirst w) pixels (modStream n (fun r => { r with
    state := .running, entryStamp := some f.stamp, runningSince := s.enc.e, seed := none }) s1)

end Sys2Proof.Machine
end

