-- ==== Sys2Proof/Machine/TallyOps.lean ====
section
/-! DEFINITION. Closing a shift: the report record (R169, R170, R193), the act of closing (R168) and the end of a report write (R171). -/

namespace Sys2Proof.Machine

/-- The four grades. -/
def gradeList : List Nat := [1, 2, 3, 4]

/-- The prime yield in per mille (R170). -/
def primeYield (t : TallyUnit) : Nat :=
  let graded := (gradeList.map (fun g => tallyOf t (.areaByGrade g))).sum
  if graded = 0 then 0 else 1000 * tallyOf t (.areaByGrade 1) / graded

/-- The labels of a shift's report, in ascending order: those of which a SALE piece retired (R166, R169). -/
def reportLabels (t : TallyUnit) : List Nat :=
  (List.range 15).filterMap (fun i =>
    if gradeList.any (fun g => decide (0 < tallyOf t (.lanePieces (i + 1) g))) then some (i + 1) else none)

/-- A lane section, 48 bytes (R193). -/
def laneSection (t : TallyUnit) (label : Nat) : List Byte :=
  leBytes 1 label ++ zeros 7 ++ (gradeList.map (fun g => leBytes 2 (tallyOf t (.lanePieces label g)))).flatten
    ++ (gradeList.map (fun g => leBytes 8 (tallyOf t (.laneArea label g)))).flatten

/-- The record length in 32-byte units with `n` lane sections (R169). -/
def reportUnits (n : Nat) : Nat := (160 + 48 * n + 31) / 32

/-- A 2-byte field for each of some tallies. -/
def tallyWords (t : TallyUnit) (ks : List TallyKey) : List Byte := (ks.map (fun k => leBytes 2 (tallyOf t k))).flatten

/-- The kinds of a decided plate, in the order of the report header (R193). -/
def plateKinds : List PlateKind := [.nominal, .requested, .short, .cullet, .late]

/-- The end states of a retired plate, in the order of the report header (R193). -/
def endStates : List PlateState := [.cut, .skipped, .missed, .sealFailed]

/-- The report record header, 160 bytes (R193). -/
def reportHeader (t : TallyUnit) (next line sections : Nat) : List Byte :=
  leBytes 4 t.shiftId ++ leBytes 4 next ++ leBytes 6 t.shiftStart ++ leBytes 6 line
    ++ leBytes 4 (t.firstPlate.getD 0) ++ leBytes 4 (t.lastPlate.getD 0)
    ++ leBytes 1 (reportUnits sections) ++ leBytes 1 sections ++ leBytes 1 (flagAt t.saturated 0) ++ zeros 1
    ++ leBytes 2 (primeYield t)
    ++ leBytes 6 (tallyOf t .decidedLength) ++ leBytes 6 (tallyOf t .unplannedLength) ++ leBytes 6 (tallyOf t .sAdvance)
    ++ tallyWords t (plateKinds.map .decided) ++ tallyWords t [.forced] ++ tallyWords t (endStates.map .retired)
    ++ tallyWords t [.abandoned] ++ tallyWords t ((List.range 10).map .flaw) ++ tallyWords t [.specks]
    ++ tallyWords t [.captureTaken, .captureRejected, .nullServed, .recordsLost]
    ++ ((List.range 8).map (fun n => tallyWords t [.overrun n, .held n, .missing n])).flatten
    ++ ((List.range 8).map (fun n => leBytes 1 (tallyOf t (.expiries n)))).flatten

/-- The report record, written at its full length in units (R169). -/
def reportRecord (t : TallyUnit) (next line : Nat) : List Byte :=
  let labels := reportLabels t
  let units := reportUnits labels.length
  (reportHeader t next line labels.length ++ (labels.map (laneSection t)).flatten ++ zeros 32).take (32 * units)

/-- The address of the report slot of a closing id (R167). -/
def reportAddr (s : State) (closing : Nat) : Nat :=
  s.window.report.base + 1024 * (closing % s.window.report.count)

/-- The tallies of a new shift (R168). -/
def TallyUnit.nextShift (t : TallyUnit) (next line : Nat) (record : List Byte) : TallyUnit :=
  { counts := List.replicate tallyPlaces 0, firstPlate := none, lastPlate := none, saturated := false, shiftId := next,
    shiftStart := line, report := .writing t.shiftId, buffer := record }

/-- The act of closing a shift (R168) with the report write's bursts (R171). -/
def closeShift (next : Nat) (s : State) : State :=
  let record := reportRecord s.tally next s.asm.a
  (splitWrites record.length (reportAddr s s.tally.shiftId) record).foldl
    (fun s b => issueOwn .report b.1 (.write b.2) s) { s with tally := s.tally.nextShift next s.asm.a record }

/-- A SHIFT CLOSE in the Tally Unit is taken, no report being in flight (R168). -/
def takeShiftClose (next : Nat) (s : State) : State :=
  if s.window.report.valid then complete .done (closeShift next s) else complete .tableBad s

/-- The report write state becomes IDLE and a waiting SHIFT CLOSE is taken (R171). -/
def endReport (s : State) : State :=
  let s1 := { s with tally := { s.tally with report := .idle, buffer := [] } }
  match s1.orders.phase with
  | .shiftWait next => takeShiftClose next s1
  | _ => s1

end Sys2Proof.Machine
end

