-- ==== Sys2Proof/Machine/WindowOps.lean ====
section
/-! DEFINITION. The window table: its parts (R180, R191), their validity (R1, R123, R155, R167, R180), which parts are in use, and the
replacement of parts by REFRESH with its consequences (R99, R125, R180, R182). -/

namespace Sys2Proof.Machine

/-! ## Addresses -/

/-- The window table's address: bits 39 to 6 of the TABLE_PTR latch (R174, R187). -/
def tablePtr (s : State) : Nat := s.anchor.tablePtr.toNat % Config.addressEnd / 64 * 64

/-- Bytes of the window table. -/
def tableBytes : Nat := 832

/-- The offset of a part in the table. Part 12 is the header. Chapter 11.4 gives 64 bytes to the header and to each of the twelve
entries, and no rule gives their offsets: that the header stands first and entry `k` at 64 + 64 k is the model's choice
(DESIGN CHOICE, log entry 63). -/
def partOffset (k : Nat) : Nat := if k = 12 then 0 else 64 + 64 * k

/-- The selector of REFRESH ALL (R191). -/
def selectAll : Nat := 13

/-- What a REFRESH reads: an address and a length (R180). -/
def refreshSpan (s : State) (selector : Nat) : Nat × Nat :=
  if selector = selectAll then (tablePtr s, tableBytes) else (tablePtr s + partOffset selector, 64)

/-- The bytes of part `k` in what a REFRESH read. -/
def partBytes (selector k : Nat) (table : List Byte) : List Byte :=
  if selector = selectAll then (table.drop (partOffset k)).take 64 else table

/-! ## Parts as fetched, each with the validity it has by itself -/

/-- A range shares a byte with the anchor page. -/
def meetsAnchor (s : State) (a len : Nat) : Bool := overlaps a len (anchorBase s) 4096

/-- The policy a stream entry names (R191). -/
def policyOf : Nat → Option Policy
  | 0 => some .hold
  | 1 => some .skip
  | _ => none

/-- The geometry of a stream entry meets its ranges (R1, chapter 1.1). -/
def StreamWindow.fits (w : StreamWindow) : Bool :=
  decide (w.base % 64 = 0) && decide (64 ≤ w.slotSize) && decide (w.slotSize ≤ 8192) && decide (w.slotSize % 64 = 0)
    && decide (4 ≤ w.slotCount) && decide (w.slotCount ≤ 1024) && decide (w.colBase ≤ 16383)
    && decide (w.winStop ≤ 4096) && decide (w.winStart % 8 = 0) && decide (w.winStop % 8 = 0)
    && decide (w.winStart < w.winStop) && decide (w.stagger ≤ 63) && decide (1 ≤ w.holdLimit)
    && decide (1 ≤ w.lineTimeout) && decide (32 + w.winStop ≤ w.slotSize) && inAddressSpace w.base (ringBytes w)

/-- A stream entry (R191). A policy or a RECOVER byte that is neither 0 nor 1 makes it invalid (R187; log entry 6). -/
def parseStream (bytes : List Byte) : StreamWindow :=
  let w : StreamWindow :=
    { valid := false, base := fieldAt bytes 0 8, slotSize := fieldAt bytes 0x08 2, slotCount := fieldAt bytes 0x0A 2,
      colBase := fieldAt bytes 0x0C 2, winStart := fieldAt bytes 0x0E 2, winStop := fieldAt bytes 0x10 2,
      stagger := fieldAt bytes 0x12 1, policy := (policyOf (fieldAt bytes 0x13 1)).getD .hold,
      holdLimit := fieldAt bytes 0x14 1, lineTimeout := fieldAt bytes 0x15 1,
      recover := decide (fieldAt bytes 0x16 1 = 1), tag := fieldAt bytes 0x18 4 }
  { w with valid := w.fits && (policyOf (fieldAt bytes 0x13 1)).isSome && decide (fieldAt bytes 0x16 1 ≤ 1) }

/-- A limit of the header lies in its range (R180). -/
def limitFits (v : Nat) : Bool := decide (16 ≤ v) && decide (v ≤ 4095)

/-- The table's header (R180, R191). -/
def parseHeaderPart (bytes : List Byte) : HeaderWindow :=
  let silence := fieldAt bytes 0 2
  let timeout := fieldAt bytes 2 2
  { valid := limitFits silence && limitFits timeout, silence := silence, timeout := timeout }

/-- Entry 8, but for the stream rings (R123). -/
def parseTicket (s : State) (bytes : List Byte) : TicketWindow :=
  let base := fieldAt bytes 0 8
  let count := fieldAt bytes 0x08 2
  { valid := [32, 64, 128, 256].contains count && decide (base % 64 = 0) && inAddressSpace base (64 * count)
      && !meetsAnchor s base (64 * count),
    base := base, count := count, tag := fieldAt bytes 0x18 4 }

/-- Entry 9 (R180). -/
def parseLog (s : State) (bytes : List Byte) : LogWindow :=
  let base := fieldAt bytes 0 8
  let code := fieldAt bytes 0x08 1
  { valid := decide (base % 64 = 0) && decide (code ≤ 10) && inAddressSpace base (64 * 2 ^ (code + 6))
      && !meetsAnchor s base (64 * 2 ^ (code + 6)),
    base := base, code := code }

/-- Entry 10 (R155). -/
def parseCapture (s : State) (bytes : List Byte) : CaptureWindow :=
  let base := fieldAt bytes 0 8
  let size := 4 * Config.captureSlotBytes
  { valid := decide (base % 256 = 0) && inAddressSpace base size && !meetsAnchor s base size, base := base }

/-- Entry 11 (R167). -/
def parseReport (s : State) (bytes : List Byte) : ReportWindow :=
  let base := fieldAt bytes 0 8
  let count := fieldAt bytes 0x08 1
  { valid := decide (base % 1024 = 0) && decide (1 ≤ count) && decide (count ≤ 64)
      && inAddressSpace base (1024 * count) && !meetsAnchor s base (1024 * count),
    base := base, count := count }

/-! ## Replacement -/

/-- A part is in use (R180). -/
def partInUse (s : State) (k : Nat) : Bool :=
  if k < 8 then (stream s k).state != .off
  else if k = 8 then !s.sched.queue.isEmpty
  else if k = 10 then s.cap.slots.any (fun c => c != .free)
  else if k = 11 then s.tally.report != .idle
  else if k = 12 then s.streams.any (fun r => r.state != .off)
  else false

/-- A REFRESH replaces a part (R180). -/
def replaces (s : State) (selector k : Nat) : Bool := (selector = selectAll || selector = k) && !partInUse s k

/-- A stream entry's ring meets entry 8's ring. -/
def ringsMeet (w : StreamWindow) (t : TicketWindow) : Bool := overlaps w.base (ringBytes w) t.base (64 * t.count)

/-- Stream entry `n` of a REFRESH, the cached one being `x`: as read, with the validity it has by itself, where it is replaced
(R180, R1). -/
def fetchedStream (s : State) (selector : Nat) (table : List Byte) (n : Nat) (x : StreamWindow) : StreamWindow :=
  if replaces s selector n then parseStream (partBytes selector n table) else x

/-- Entry 8 of a REFRESH: as read, with the validity it has but for the stream rings, where it is replaced (R180, R123). -/
def fetchedTicket (s : State) (selector : Nat) (table : List Byte) : TicketWindow :=
  if replaces s selector 8 then parseTicket s (partBytes selector 8 table) else s.window.ticket

/-- Stream entry `n` and entry 8 have overlapping rings, and the overlap tells against the one of them that is replaced: the
other is replaced too, whether or not it is valid by itself, or stands in the cache and is valid (R180, R123). The ring of an
entry that is out of range by itself is that of its fields as read (log entry 41). -/
def ringsClash (s : State) (selector n : Nat) (x : StreamWindow) (t : TicketWindow) (otherValid : Bool) : Bool :=
  ringsMeet x t && (replaces s selector n && replaces s selector 8 || otherValid)

/-- The window cache after a REFRESH (R180). A replaced part whose ring clashes with another's is invalid, so that a stream
entry and entry 8 replaced by one REFRESH ALL with overlapping rings are both invalid. -/
def refreshedWindow (s : State) (selector : Nat) (table : List Byte) : Window :=
  let w := s.window
  let part := fun k => partBytes selector k table
  let streams := w.streams.mapIdx (fetchedStream s selector table)
  let ticket := fetchedTicket s selector table
  { header := if replaces s selector 12 then parseHeaderPart (part 12) else w.header
    streams := streams.mapIdx (fun n x =>
      if replaces s selector n && ringsClash s selector n x ticket ticket.valid then { x with valid := false } else x)
    ticket :=
      if replaces s selector 8 && (streams.mapIdx (fun n x => ringsClash s selector n x ticket x.valid)).any id then
        { ticket with valid := false }
      else ticket
    log := if replaces s selector 9 then parseLog s (part 9) else w.log
    capture := if replaces s selector 10 then parseCapture s (part 10) else w.capture
    report := if replaces s selector 11 then parseReport s (part 11) else w.report }

/-- A part of the window cache is valid. -/
def partValid (w : Window) (k : Nat) : Bool :=
  if k < 8 then (w.streams.getD k StreamWindow.blank).valid
  else if k = 8 then w.ticket.valid
  else if k = 9 then w.log.valid
  else if k = 10 then w.capture.valid
  else if k = 11 then w.report.valid
  else w.header.valid

/-- The purposes of the Ticket Unit's writes. -/
def Purpose.isTicket : Purpose → Bool
  | .sealWrite _ _ _ _ | .nullWrite _ _ _ _ => true
  | _ => false

/-- Entry 8 has been replaced: fresh slot records, and writes to the old ring concern none of them (R125): an error response
to one issues no event (DESIGN CHOICE, log entry 48). A FENCE still waits for them, and the enabled state still reads
DRAINING while one of R138 is among them (R176, R179). -/
def resetTickets (s : State) : State :=
  disown Purpose.isTicket
    { s with tickets := if s.window.ticket.valid then List.replicate s.window.ticket.count SlotRec.blank else [] }

/-- Entry 9 has been replaced: indexes and LOG_READ at 0, overflow clear, and a LOG_LOST if records were lost (R182). -/
def restartLog (s : State) : State :=
  let s1 := { s with
    writer := { s.writer with writeIndex := 0, readIndex := 0, overflow := false }
    anchor := { s.anchor with logRead := 0 } }
  if 0 < s1.writer.lost then formLogLost s1 else pumpLog s1

/-- WINDOW_BAD for each part a REFRESH made invalid (R180), in ascending part number (DESIGN CHOICE, log entry 59). -/
def windowEvents (replaced : List Nat) (s : State) : State :=
  replaced.foldl (fun s k => if partValid s.window k then s else issueEvent .windowBad [k] s) s

/-- The scheduler follows entry 8 (R99). -/
def followTicket (s : State) : State :=
  if s.window.ticket.valid then activate s else if s.sched.active then deactivate s else s

/-- The parts a REFRESH replaces, in ascending order. -/
def replacedParts (s : State) (selector : Nat) : List Nat := (List.range 13).filter (replaces s selector)

/-- The mask of the parts REFRESH ALL refused as in use (R180). -/
def refusedMask (s : State) : Nat := ((List.range 13).map (fun k => flagAt (partInUse s k) k)).sum

/-- The replacement of the parts in one act, with its consequences (R180, R125, R99, R182). -/
def replaceParts (selector : Nat) (table : List Byte) (s : State) : State :=
  let replaced := replacedParts s selector
  let s1 := { s with window := refreshedWindow s selector table }
  let s2 := if replaced.contains 9 then restartLog s1 else s1
  let s3 := if replaced.contains 8 then resetTickets s2 else s2
  let s4 := windowEvents replaced s3
  if replaced.contains 8 then followTicket s4 else s4

/-- A REFRESH whose table has been read is taken (R180). -/
def takeRefresh (selector : Nat) (table : List Byte) (s : State) : State :=
  if selector = selectAll then
    completeMasked .done (refusedMask s) (replaceParts selector table s)
  else if partInUse s selector then complete .inUse s
  else
    let s1 := replaceParts selector table s
    complete (if partValid s1.window selector then .done else .tableBad) s1

/-- A REFRESH whose fetch has ended well: it waits while it replaces entry 9 and a record group's writes are in flight
(R180). -/
def startRefresh (selector : Nat) (table : List Byte) (s : State) : State :=
  if (selector = selectAll || selector = 9) && s.writer.inFlight.isSome then
    { s with orders := { s.orders with phase := .refreshWait selector table } }
  else takeRefresh selector table s

/-- A REFRESH whose fetch failed (R180). -/
def failRefresh (selector : Nat) (s : State) : State :=
  if selector ≠ selectAll ∧ partInUse s selector = true then complete .inUse s else complete .tableBad s

end Sys2Proof.Machine
end

