-- ==== Sys2Proof/Machine/OrderOps.lean ====
section
/-! DEFINITION. The Order Unit (R177 to R179) and what the owning blocks do with an order: PLAN SET (R97), STREAM START (R19), TABLE
LOAD (R142), CUT REQUEST (R117), RESTART (R118), SHIFT CLOSE (R168). -/

namespace Sys2Proof.Machine

/-! ## The ring -/

/-- The address of order 0: bits 39 to 6 of the ORDER_BASE latch (R177, R187). -/
def orderBase (s : State) : Nat := s.anchor.orderBase.toNat % Config.addressEnd / 64 * 64

/-- The tail latch. -/
def orderTail (s : State) : Nat := s.anchor.orderTail.toNat

/-- Sets the Order Unit's phase. -/
def setPhase (p : OrderPhase) (s : State) : State := { s with orders := { s.orders with phase := p } }

/-- The Order Unit may fetch the order at head (R178). -/
def fetchDue (s : State) : Bool := enabled s && s.orders.phase == .idle && s.orders.head != orderTail s

/-- Issues the fetch of the order at head, at ORDER_BASE + 64 × head (R177, R178). The sum is not reduced to 40 bits, nor the fetch
refused, where the ring reaches past the address space (DESIGN CHOICE, log entry 64). -/
def fetchOrder (s : State) : State :=
  let addr := orderBase s + 64 * s.orders.head
  issueOwn .orderFetch addr (.read 64) { s with orders := { s.orders with orderAddr := addr, phase := .fetching } }

/-- An order fetched is to be executed, or waits for its not-before line (R178). -/
def orderFetched (order : List Byte) (s : State) : State := testNotBefore (setPhase (.waiting order) s)

/-- A fetch of an order failed (R178). -/
def orderFetchFailed (s : State) : State :=
  issueEvent .orderFetchError [s.orders.head, s.orders.orderAddr] (setPhase .fetchFailed s)

/-- The completion write has been answered: head advances (R178). -/
def headAdvance (okay : Bool) (code : Nat) (s : State) : State :=
  let s1 := if okay then s else issueEvent .completionFailed [s.orders.head, code] s
  { s1 with orders := { s1.orders with head := (s1.orders.head + 1) % ringSize s1, phase := .idle } }

/-- The current order is abandoned, at a disable or when the ring is set (R176, R177): a wait ends without its change, a
fetch is discarded, a FENCE write is carried through without a notice, and without FENCE_FAILED if it gets an error
response (DESIGN CHOICE, log entry 48); a completion write is carried through. -/
def abandonOrder (s : State) : State :=
  match s.orders.phase with
  | .completing _ => s
  | .fetching => disown (· == .orderFetch) (setPhase .idle s)
  | .tableFetch => disown (· == .tableLoadFetch) (setPhase .idle s)
  | .refreshFetch _ => disown (· == .tableFetch) (setPhase .idle s)
  | .fenceWriting _ _ => disown (· == .fence) (setPhase .idle s)
  | .idle | .fetchFailed | .waiting _ | .ready _ | .laneWait _ | .refreshWait _ _ | .shiftWait _ | .fenceWait _ _ _ _ =>
    setPhase .idle s

/-- The order ready to be executed, if it is of a kind (R178). -/
def readyOrder (kind : Nat) (s : State) : Option (List Byte) :=
  match s.orders.phase with
  | .ready o => if orderKind o = kind then some o else none
  | _ => none

/-! ## PLAN SET (R97) -/

/-- A mode, a gap policy and a miss action by their codes (R191). -/
def planModeOf : Nat → Option PlanMode
  | 1 => some .avoid
  | 2 => some .fixed
  | _ => none

def gapPolicyOf : Nat → Option GapPolicy
  | 1 => some .avoid
  | 2 => some .grade
  | _ => none

def missActionOf : Nat → Option MissAction
  | 1 => some .retire
  | 2 => some .keep
  | _ => none

/-- The ranges and the relations of R97. -/
def Plan.fits (p : Plan) : Bool :=
  decide (4000 ≤ p.nominal) && decide (p.nominal ≤ 65535) && decide (1024 ≤ p.pitch) && decide (p.pitch ≤ 16383)
    && decide (p.guard ≤ 1023) && decide (8192 ≤ p.distance) && decide (p.distance ≤ 262143)
    && decide (256 ≤ p.margin) && decide (p.margin ≤ 8191) && decide (64 ≤ p.slack) && decide (p.slack ≤ 4095)
    && decide (64 ≤ p.missWindow) && decide (p.missWindow ≤ 4095) && decide (p.tolerance ≤ 255)
    && decide (p.pitch ≤ p.minPlate) && decide (p.minPlate ≤ p.nominal)
    && decide (p.pitch ≤ p.strip) && decide (p.strip ≤ p.nominal)
    && decide (p.margin + p.nominal + p.slack < p.distance)

/-- The plan an order carries, if it passes R97 (R191). -/
def parsePlan (o : List Byte) : Option Plan :=
  match planModeOf (fieldAt o 0x25 1), gapPolicyOf (fieldAt o 0x26 1), missActionOf (fieldAt o 0x27 1) with
  | some mode, some gap, some miss =>
    let p : Plan :=
      { nominal := fieldAt o 0x10 2, minPlate := fieldAt o 0x12 2, pitch := fieldAt o 0x14 2, guard := fieldAt o 0x16 2,
        strip := fieldAt o 0x18 2, distance := fieldAt o 0x1A 4, margin := fieldAt o 0x1E 2, slack := fieldAt o 0x20 2,
        missWindow := fieldAt o 0x22 2, tolerance := fieldAt o 0x24 1, mode := mode, gapPolicy := gap,
        missAction := miss }
    if p.fits then some p else none
  | _, _, _ => none

/-- PLAN SET (R97, R98, R99, R101). -/
def takePlanSet (o : List Byte) (s : State) : State :=
  match parsePlan o with
  | none => complete .planBad s
  | some p =>
    let s1 := complete .done { s with sched := { s.sched with plan := some p } }
    if s1.sched.active then plateChanged (evaluate s1) else activate s1

/-- CUT REQUEST (R117). -/
def takeCutRequest (o : List Byte) (s : State) : State :=
  match s.sched.request with
  | some _ => complete .busy s
  | none =>
    plateChanged (evaluate (complete .done { s with sched := { s.sched with request := some (fieldAt o 0x10 6) } }))

/-- RESTART's act (R118, R119). -/
def takeRestart (s : State) : State :=
  match s.sched.active, s.sched.plan with
  | true, some p => complete .done (restartPlates p s)
  | _, _ => complete .done { s with sched := { s.sched with request := none } }

/-- After RESTART the active scheduler evaluates the decision at the new S (R119). -/
def decideAfterRestart (s : State) : State :=
  if s.sched.active && s.sched.plan.isSome then refreshStatus s (plateChanged (evaluate s)) else s

/-! ## STREAM START and STREAM STOP (R19, R20) -/

/-- A check of STREAM START against every other stream that is not OFF. -/
def clashes (s : State) (n : Nat) (test : StreamWindow → StreamWindow → Bool) : Bool :=
  (List.range 8).any (fun m => m != n && (stream s m).state != .off && test (streamWindow s n) (streamWindow s m))

/-- Two streams share a column. -/
def columnsMeet (a b : StreamWindow) : Bool := decide (spanFirst a ≤ spanLast b) && decide (spanFirst b ≤ spanLast a)

/-- Two rings share a byte. -/
def streamRingsMeet (a b : StreamWindow) : Bool := overlaps a.base (ringBytes a) b.base (ringBytes b)

/-- The code of the first check of STREAM START that fails, or DONE (R19). -/
def startCheck (s : State) (n : Nat) : Completion :=
  let w := streamWindow s n
  if 7 < n then .range
  else if (stream s n).state != .off then .busy
  else if !w.valid || !s.window.header.valid then .tableBad
  else if Config.columnCount ≤ spanLast w then .range
  else if clashes s n columnsMeet then .overlap
  else if clashes s n streamRingsMeet || meetsAnchor s w.base (ringBytes w) then .overlap
  else if clashes s n (fun a b => a.tag == b.tag) then .overlap
  else .done

/-- A stream goes to SEEDING with a fresh directory (R3, R19, R28). -/
def startStream (n : Nat) (s : State) : State :=
  modStream n (fun _ => { StreamRec.off with
    state := .seeding, dir := List.replicate (streamWindow s n).slotCount DirEntry.blank }) s

/-- STREAM START (R19). -/
def takeStreamStart (o : List Byte) (s : State) : State :=
  let n := fieldAt o 0x10 1
  match startCheck s n with
  | .done => complete .done (startStream n s)
  | c => complete c s

/-- STREAM STOP (R20). -/
def takeStreamStop (o : List Byte) (s : State) : State :=
  let n := fieldAt o 0x10 1
  if 7 < n then complete .range s else complete .done (stopStream n s)

/-! ## TABLE LOAD (R142) -/

/-- The address of a TABLE LOAD's block, if it is in range (R142, R187). -/
def tableAddress (o : List Byte) : Option Nat :=
  match addressField o 0x10 with
  | some a => if a % 16 = 0 ∧ inAddressSpace a 512 = true then some a else none
  | none => none

/-- TABLE LOAD, up to its fetch (R142). -/
def takeTableLoad (o : List Byte) (s : State) : State :=
  match tableAddress o with
  | some a => issueOwn .tableLoadFetch a (.read 512) (setPhase .tableFetch s)
  | none => complete .range s

/-- The polarity of a classification rule (R191). -/
def rulePolarityOf : Nat → Option RulePolarity
  | 1 => some .dark
  | 2 => some .bright
  | 3 => some .any
  | _ => none

/-- Rule `i` of a table block (R191). -/
def parseRule (block : List Byte) (i : Nat) : Option ClassRule :=
  let o := 16 * i
  (rulePolarityOf (fieldAt block o 1)).map (fun p =>
    { polarity := p, elongMin := fieldAt block (o + 1) 1, elongMax := fieldAt block (o + 2) 1,
      minPeak := fieldAt block (o + 3) 1, areaMin := fieldAt block (o + 4) 4, areaMax := fieldAt block (o + 8) 4 })

/-- Class `k` of a table block (R191). -/
def parseClass (block : List Byte) (k : Nat) : ClassGrade :=
  let o := 0x80 + 8 * k
  let bit := fun i => (fieldAt block o 1).testBit i
  { avoid := bit 0, capture := bit 1, kill1 := bit 2, kill2 := bit 3, kill3 := bit 4, core := fieldAt block (o + 1) 1,
    edge := fieldAt block (o + 2) 1 }

/-- The grade table of a block (R191). -/
def parseGrades (block : List Byte) : GradeTable :=
  { classes := (List.range 8).map (parseClass block)
    denseCore := fieldAt block 0xC0 1, denseEdge := fieldAt block 0xC1 1, gapCore := fieldAt block 0xC2 1,
    gapEdge := fieldAt block 0xC3 1, prime := fieldAt block 0xC4 2, standard := fieldAt block 0xC6 2,
    second := fieldAt block 0xC8 2, bandColumns := fieldAt block 0xCA 1, bandLines := fieldAt block 0xCC 2,
    cap := fieldAt block 0xCE 1, loaded := true }

/-- The grade table passes the checks of R142. -/
def GradeTable.fits (g : GradeTable) : Bool :=
  decide (g.prime < g.standard) && decide (g.standard < g.second) && decide (1 ≤ g.cap) && decide (g.cap ≤ 4)
    && decide (g.bandLines ≤ 1023)

/-- TABLE LOAD with its block fetched: both tables are replaced in one act, or neither (R142). -/
def loadTables (block : List Byte) (s : State) : State :=
  let g := parseGrades block
  let rules := (List.range 7).map (parseRule block)
  if g.fits && rules.all Option.isSome then
    complete .done { s with grades := g, blobs := { s.blobs with rules := rules.filterMap id } }
  else complete .tableBad s

/-! ## REFRESH (R180) -/

/-- REFRESH, up to its fetch. -/
def takeRefreshOrder (o : List Byte) (s : State) : State :=
  let selector := fieldAt o 0x10 1
  if selectAll < selector ∨ inAddressSpace (tablePtr s) tableBytes = false then complete .range s
  else
    let span := refreshSpan s selector
    issueOwn .tableFetch span.1 (.read span.2) (setPhase (.refreshFetch selector) s)

/-! ## FENCE (R179) -/

/-- The mark of a write of the Ticket Unit that the current FENCE waits for. -/
def Purpose.marked : Purpose → Purpose
  | .sealWrite j p q _ => .sealWrite j p q true
  | .nullWrite j q noted _ => .nullWrite j q noted true
  | p => p

/-- The current FENCE waits for a transaction. -/
def Purpose.isFenced : Purpose → Bool
  | .sealWrite _ _ _ fenced | .nullWrite _ _ _ fenced => fenced
  | _ => false

/-- A DECIDED plate's seal write is due (R179). -/
def Plate.marked (p : Plate) : Plate := if p.state == .decided then { p with fenced := true } else p

/-- A pending null rewrite is due (R179). -/
def SlotRec.marked (r : SlotRec) : SlotRec := if r.nullPending.isSome then { r with nullFenced := true } else r

/-- Marks what a FENCE must wait for as it is taken: the record groups handed over so far, the seal writes and null rewrites
in flight, whatever ring they go to, and those due (R179). -/
def markFenced (s : State) : State :=
  let mark := fun g : LogGroup => { g with fenced := true }
  let own := fun t : OwnTxn => { t with purpose := t.purpose.marked }
  { s with
    writer := { s.writer with buffer := s.writer.buffer.map mark, inFlight := s.writer.inFlight.map mark }
    arb := { s.arb with ownWaiting := s.arb.ownWaiting.map own, ownOut := s.arb.ownOut.map own }
    sched := { s.sched with queue := s.sched.queue.map Plate.marked }
    tickets := s.tickets.map SlotRec.marked }

/-- The status block writes a FENCE must wait for: the one in flight and the one pending (R179). -/
def statusWritesDue (s : State) : Nat :=
  (if s.writer.statusOut then 1 else 0) + (if s.writer.statusPending then 1 else 0)

/-- A marked record group has been neither written nor lost. -/
def groupsFenced (s : State) : Bool :=
  s.writer.buffer.any (·.fenced) || (match s.writer.inFlight with
    | some g => g.fenced
    | none => false)

/-- A marked seal write or null rewrite is in flight or still due. -/
def ticketsFenced (s : State) : Bool :=
  (s.arb.ownWaiting ++ s.arb.ownOut).any (·.purpose.isFenced)
    || s.sched.queue.any (fun p => p.state == .decided && p.fenced)
    || s.tickets.any (fun r => r.nullPending.isSome && r.nullFenced)

/-- Every noted write has returned its response or been lost (R179). -/
def fenceClear (s : State) (status : Nat) : Bool := !groupsFenced s && !ticketsFenced s && decide (status = 0)

/-- FENCE is taken (R179). -/
def takeFence (o : List Byte) (s : State) : State :=
  match addressField o 0x10 with
  | some a =>
    if a % 4 = 0 then
      markFenced (setPhase (.fenceWait a (fieldAt o 0x18 4) (decide (fieldAt o 0x1C 1 = 1)) (statusWritesDue s)) s)
    else complete .range s
  | none => complete .range s

/-- The FENCE's value is written (R179). -/
def writeFence (addr value : Nat) (mark : Bool) (s : State) : State :=
  issueOwn .fence addr (.write (leBytes 4 value)) (setPhase (.fenceWriting addr mark) s)

/-- The FENCE write is answered (R179). -/
def endFence (addr : Nat) (mark okay : Bool) (s : State) : State :=
  if okay then complete .done (if mark then setNotices (fun n => { n with fence := true }) s else s)
  else complete .done (issueEvent .fenceFailed [addr] s)

/-- A status block write has been answered: a waiting FENCE counts it (R179). -/
def countStatus (s : State) : State :=
  match s.orders.phase with
  | .fenceWait a v m n => setPhase (.fenceWait a v m (n - 1)) s
  | _ => s

/-! ## SHIFT CLOSE and the lane orders -/

/-- SHIFT CLOSE is handed to the Tally Unit (R168). -/
def takeShiftOrder (o : List Byte) (s : State) : State :=
  let next := fieldAt o 0x10 4
  if s.tally.report == .idle then takeShiftClose next s else setPhase (.shiftWait next) s

/-- A lane order or PROFILE LOAD is handed to the Lane Map (R86). -/
def handLaneOrder (o : List Byte) (s : State) : State :=
  if s.asm.analysing then setPhase (.laneWait o) s else takeLaneOrder o s

end Sys2Proof.Machine
end

