-- ==== Sys2Proof/Machine/ClassOps.lean ====
section
/-! DEFINITION. The Traffic Classifier: guards (R131, R175), holds (R9, R10), tracking (R2), the anchor page's latches and their actions
(R174), enable and disable (R176), status writes (R132 to R134), ticket reads (R128, R129), responses, and what a command
leaves to be done when slots stop being busy (R11). -/

namespace Sys2Proof.Machine

/-! ## Enable and disable (R176) -/

/-- ENABLE has gone from 0 to 1: A is set to E, an order whose fetch failed may be fetched again, and the scheduler becomes
active if R99 allows (R28, R99, R176, R178). -/
def enablePart (s : State) : State :=
  let s1 := { s with asm := { a := s.enc.e, record := none, analysing := false } }
  activate (if s1.orders.phase = .fetchFailed then setPhase .idle s1 else s1)

/-- Disable sets the blob table FREE, the dense zone and the gap zones CLOSED (R63, R72, R74). -/
def clearBlobs (b : BlobTracker) : BlobTracker :=
  { b with table := b.table.map (fun _ => .free), dense := none, mark := none, gaps := b.gaps.map (fun _ => none) }

/-- The line in assembly is abandoned, its fetches are left to end, and the run buffer is emptied (R28, R44). -/
def abandonLine (s : State) : State :=
  disown Purpose.isPixel
    { s with asm := { s.asm with record := none, analysing := false }, det := { s.det with runs := [] } }

/-- ENABLE has gone from 1 to 0: each block acts as its own rule states (R176). The streams are stopped from the highest number
down: what a hold lets go comes first, so the writes that holds keep back go on in ascending stream number, each stream's in
queue order (DESIGN CHOICE, log entry 52). -/
def disablePart (s : State) : State :=
  let s1 := (List.range 8).foldr stopStream (dropCopy s)
  let s2 := abandonLine s1
  abandonOrder (disableScheduler { s2 with blobs := clearBlobs s2.blobs })

/-! ## The anchor page's control fields (R174) -/

/-- The value a write leaves in a field of the control page, if a strobed byte of it falls in the field (R174). -/
def fieldWritten (s : State) (w : UpWrite) (off size old : Nat) : Option Nat :=
  if strobedIn w (anchorBase s + off) size then some (latched w (anchorBase s + off) size old) else none

/-- CONTROL: an edge of ENABLE (R176), and LOG_CLEAR, which acts while the overflow flag is set (R182). One write that does
both takes the edge first (DESIGN CHOICE, log entry 13). -/
def writeControl (v : Nat) (s : State) : State :=
  let before := enabled s
  let s1 := { s with anchor := { s.anchor with control := BitVec.ofNat 32 v } }
  let s2 := if !before && enabled s1 then enablePart s1 else if before && !enabled s1 then disablePart s1 else s1
  if v.testBit 1 && s2.writer.overflow then formLogLost s2 else s2

/-- ORDER_BASE or ORDER_SIZE has been set: head and tail are 0 and the current order is abandoned (R177). -/
def ringSet (s : State) : State :=
  abandonOrder { s with orders := { s.orders with head := 0 }, anchor := { s.anchor with orderTail := 0 } }

def writeOrderBase (v : Nat) (s : State) : State :=
  ringSet { s with anchor := { s.anchor with orderBase := BitVec.ofNat 64 v } }

/-- ORDER_SIZE: a code above 6 is refused with ANCHOR_BAD (R174). -/
def writeOrderSize (v : Nat) (s : State) : State :=
  if 6 < v then issueEvent .anchorBad [0x10, v] s
  else ringSet { s with anchor := { s.anchor with orderSize := BitVec.ofNat 8 v } }

/-- ORDER_TAIL: refused with TAIL_BAD at or above the ring size, or equal to head while there is a current order (R174,
R177); a latched one lets an order whose fetch failed be fetched again (R178). -/
def writeOrderTail (v : Nat) (s : State) : State :=
  if ringSize s ≤ v ∨ (s.orders.phase ≠ .idle ∧ v = s.orders.head) then issueEvent .tailBad [v, ringSize s] s
  else
    let s1 := { s with anchor := { s.anchor with orderTail := BitVec.ofNat 32 v } }
    if s1.orders.phase = .fetchFailed then setPhase .idle s1 else s1

def writeTablePtr (v : Nat) (s : State) : State :=
  { s with anchor := { s.anchor with tablePtr := BitVec.ofNat 64 v } }

/-- LOG_READ: accepted when at most the log size behind the write index, and refused with ANCHOR_BAD otherwise (R183). -/
def writeLogRead (v : Nat) (s : State) : State :=
  if (s.writer.writeIndex + Config.wordModulus - v) % Config.wordModulus ≤ logSize s then
    { s with anchor := { s.anchor with logRead := BitVec.ofNat 32 v }, writer := { s.writer with readIndex := v } }
  else issueEvent .anchorBad [0x20, v] s

def writeHighWater (v : Nat) (s : State) : State :=
  { s with anchor := { s.anchor with logHighWater := BitVec.ofNat 32 v } }

def writeNoticeEnable (v : Nat) (s : State) : State :=
  { s with anchor := { s.anchor with noticeEnable := BitVec.ofNat 8 v } }

/-- NOTICE_ACK clears each flag written as one (R185). -/
def writeNoticeAck (v : Nat) (s : State) : State :=
  setNotices (fun n => n.acknowledged (BitVec.ofNat 8 v)) { s with anchor := { s.anchor with noticeAck := BitVec.ofNat 8 v } }

/-- CAPTURE_RELEASE (R162). -/
def writeCaptureRelease (v : Nat) (s : State) : State :=
  releaseCaptures (BitVec.ofNat 8 v) { s with anchor := { s.anchor with captureRelease := BitVec.ofNat 8 v } }

/-- Takes a field's action if the write touched the field. -/
def actOn (v : Option Nat) (act : Nat → State → State) (s : State) : State :=
  match v with
  | some v => act v s
  | none => s

/-- A write's strobed bytes are laid into the latches of the control fields, and each touched field's action is taken once,
in ascending offset (R174; log entry 13). -/
def latchAnchor (w : UpWrite) (s : State) : State :=
  let a := s.anchor
  let field := fun off size old => fieldWritten s w off size old
  actOn (field 0x30 1 a.captureRelease.toNat) writeCaptureRelease
    (actOn (field 0x2C 1 a.noticeAck.toNat) writeNoticeAck
      (actOn (field 0x28 1 a.noticeEnable.toNat) writeNoticeEnable
        (actOn (field 0x24 4 a.logHighWater.toNat) writeHighWater
          (actOn (field 0x20 4 a.logRead.toNat) writeLogRead
            (actOn (field 0x18 8 a.tablePtr.toNat) writeTablePtr
              (actOn (field 0x14 4 a.orderTail.toNat) writeOrderTail
                (actOn (field 0x10 1 a.orderSize.toNat) writeOrderSize
                  (actOn (field 0x08 8 a.orderBase.toNat) writeOrderBase
                    (actOn (field 0x00 4 a.control.toNat) writeControl s)))))))))

/-! ## Status writes (R132 to R134) -/

/-- The measured position of a cut is compared with the cut point (R134). -/
def testDeviation (p : Plate) (measured : Nat) (s : State) : State :=
  let point := cutPoint p
  if point + p.tolerance < measured ∨ measured + p.tolerance < point then
    issueEvent .cutDeviation [p.num, p.cut, point, measured] (modPlate p.num (fun q => { q with deviation := true }) s)
  else s

/-- A status write settles its plate: DONE makes it CUT, SKIPPED makes it SKIPPED (R133, R134); it is examined for
retirement at once. -/
def settlePlate (p : Plate) (code measured : Nat) (s : State) : State :=
  let late := p.state == .missed
  let s1 := modPlate p.num (fun q => { q with
    state := if code = 1 then .cut else .skipped, lateConfirmed := q.lateConfirmed || late }) s
  plateChanged (if code = 1 then testDeviation p measured s1 else s1)

/-- The echo of a status write is not that of an occupant that takes it: it names the slot's retired sequence, or nothing
known (R133, last two rows). -/
def confirmOther (j code echo measured : Nat) (s : State) : State :=
  if (slotRec s j).retired = some echo then issueEvent .lateConfirm [4, echo, code, measured] s
  else issueEvent .confirmUnknown [j, echo, code] s

/-- A well-formed status write is matched against the record of its slot (R133). -/
def confirmPlate (j code echo measured : Nat) (s : State) : State :=
  match occupant s j with
  | none => confirmOther j code echo measured s
  | some p =>
    if p.seq ≠ echo then confirmOther j code echo measured s
    else match p.state with
      | .sealed | .taken => settlePlate p code measured s
      | .missed =>
        if p.missAction == .keep then settlePlate p code measured s
        else issueEvent .lateConfirm [1, echo, code, measured] s
      | .cut | .skipped => issueEvent .lateConfirm [2, echo, code, measured] s
      | .sealFailed => issueEvent .lateConfirm [3, echo, code, measured] s
      | .decided | .sealing => confirmOther j code echo measured s

/-- A status write is decoded (R132). -/
def decodeStatus (j : Nat) (w : UpWrite) (s : State) : State :=
  let bytes := w.data.map (fun b => b.getD 0)
  let code := fieldAt bytes 0 1
  if w.data.length = 16 ∧ w.data.all Option.isSome = true ∧ (code = 1 ∨ code = 2) then
    confirmPlate j code (fieldAt bytes 4 4) (fieldAt bytes 8 6) s
  else issueEvent .statusBad [j, w.addr, w.data.length] s

/-- A write with the cutter's tag wholly within one slot's status field is a status write (R132). -/
def takeStatus (w : UpWrite) (s : State) : State :=
  if ticketsGuarded s && w.tag == s.window.ticket.tag then
    match statusSlot s w.addr w.data.length with
    | some j => decodeStatus j w s
    | none => s
  else s

/-! ## Writes -/

/-- A write is refused because its span includes a ticket slot's body byte (R131). -/
def bodyRefused (s : State) (w : UpWrite) : Bool := ticketsGuarded s && touchesBody s w.addr w.data.length

/-- A write is refused because its span includes a byte of the status block (R175). -/
def statusRefused (s : State) (w : UpWrite) : Bool :=
  enabled s && overlaps w.addr w.data.length (anchorBase s + 0x800) 0x100

/-- A write is refused whole, with an error response (R131, R175). One that both guards refuse is reported by the ticket guard
first (DESIGN CHOICE, log entry 59). -/
def refuseWrite (w : UpWrite) (s : State) : State :=
  let fields := [w.addr, w.data.length, w.tag]
  let s1 := if bodyRefused s w then issueEvent .guardTicket fields s else s
  let s2 := if statusRefused s w then issueEvent .guardStatus fields s1 else s1
  { s2 with answers := s2.answers ++ [.write w.tag false] }

/-- Forwards a transaction to the Memory arbiter (R186). -/
def forwardPass (t : PassTxn) (s : State) : State := { s with arb := { s.arb with passWaiting := s.arb.passWaiting ++ [t] } }

/-- A write is taken: tracked (unless it goes untracked), forwarded, decoded as a status write, and latched (R2, R9, R132,
R174). -/
def passWrite (w : UpWrite) (tracked : Bool) (s : State) : State :=
  let t : Taking := match tracked, streamOf s w with
    | true, some n => takeStreamWrite n w s
    | _, _ => { notes := [], state := s }
  latchAnchor w (takeStatus w (forwardPass (.write w t.notes) t.state))

/-- A write joins a stream's hold queue, which has sixteen places with the held write; when they are taken the Classifier
does not accept the write, and it waits on the bus (R10). -/
def queueWrite (n : Nat) (w : UpWrite) (s : State) : State :=
  match (stream s n).hold with
  | some h =>
    if h.queue.length + 1 < Config.holdPlaces then
      modStream n (fun r => { r with hold := some { h with queue := h.queue ++ [w] } }) s
    else s
  | none => s

/-- A header write for a busy slot of a HOLD stream is held (R10); if the stream holds one already, it joins the queue. -/
def holdWrite (n : Nat) (w : UpWrite) (s : State) : State :=
  if (stream s n).hold.isSome then queueWrite n w s
  else tallyAdd (.held n) 1 (modStream n (fun r => { r with hold := some { start := s.enc.e, held := w, queue := [] } }) s)

/-- The stream whose hold queue a write joins: one that holds a write, and whose source tag the write bears (R10). -/
def holderOf (s : State) (tag : Nat) : Option Nat :=
  (List.range 8).find? (fun n => (stream s n).hold.isSome && (streamWindow s n).tag == tag)

/-- A write meets a busy slot of a stream that holds such writes (R9, R10). -/
def heldBy (s : State) (w : UpWrite) : Option Nat :=
  match streamOf s w with
  | some n => if (streamWindow s n).policy == .hold && (busyHeader s n w).isSome then some n else none
  | none => none

/-- The Classifier takes a write that no hold keeps back by its tag: it is refused, held, or passed (R131, R175, R9). -/
def judgeWrite (w : UpWrite) (mode : TakeMode) (s : State) : State :=
  if bodyRefused s w || statusRefused s w then refuseWrite w s
  else match mode with
    | .untracked => passWrite w false s
    | .forced => passWrite w true s
    | .arrive =>
      match heldBy s w with
      | some n => holdWrite n w s
      | none => passWrite w true s

/-- The Classifier takes an upstream write that has been let in. -/
def takeWrite (w : UpWrite) (mode : TakeMode) (s : State) : State :=
  match mode, holderOf s w.tag with
  | .arrive, some n => queueWrite n w s
  | mode, _ => judgeWrite w mode s

/-! ## Writes let go by a hold (R11, R12) -/

/-- A stream holds a write, and its hold queue has no place left (R10). -/
def queueFull (s : State) (n : Nat) : Bool :=
  match (stream s n).hold with
  | some h => decide (Config.holdPlaces ≤ h.queue.length + 1)
  | none => false

/-- The stream whose hold would keep back a write that arrives (R9, R10). -/
def keeperOf (s : State) (w : UpWrite) : Option Nat :=
  match holderOf s w.tag with
  | some n => some n
  | none => if bodyRefused s w || statusRefused s w then none else heldBy s w

/-- The stream whose hold keeps back a write that a hold lets go: its own, if that stream holds a write again, since the
writes behind a new hold stay queued (R11). -/
def letGoKeeper (s : State) (x : LetGo) : Option Nat :=
  if (stream s x.stream).hold.isSome then some x.stream else keeperOf s x.write

/-- A write let go can be taken: unless it is taken as if it had just arrived, and the hold queue it would join has no place
(R10, R11). -/
def takeable (s : State) (x : LetGo) : Bool :=
  x.mode != .arrive || !(letGoKeeper s x).any (queueFull s)

/-- A write let go is taken: it stays queued behind a new hold of its stream, or it is taken as its mode says (R11, R12). -/
def takeLetGo (x : LetGo) (s : State) : State :=
  if x.mode == .arrive && (stream s x.stream).hold.isSome then queueWrite x.stream x.write s
  else takeWrite x.write x.mode s

/-- The first write let go that can be taken, and the others: a write that cannot be taken waits, and those that the same
stream let go stay behind it (R11; log entry 56). `stuck` are the streams passed over. -/
def nextLetGo (s : State) : List Nat → List LetGo → Option (LetGo × List LetGo)
  | _, [] => none
  | stuck, x :: xs =>
    if stuck.contains x.stream || !takeable s x then
      (nextLetGo s (x.stream :: stuck) xs).map (fun y => (y.1, x :: y.2))
    else some (x, xs)

/-- Writes of a stream that a hold let go have still to be taken: a write with its tag, or for a busy slot of its ring, comes
behind them, and so does a write with the tag of one of them (R10, R11; log entry 56). -/
def waitsBehind (s : State) (w : UpWrite) : Bool :=
  s.toTake.any (fun x => (streamWindow s x.stream).tag == w.tag || heldBy s w == some x.stream || x.write.tag == w.tag)

/-- An upstream write arrives: it waits on the bus while writes let go are ahead of it (R10, R11; log entries 10 and 56), and
is taken otherwise. -/
def arriveWrite (w : UpWrite) (s : State) : State := if waitsBehind s w then s else takeWrite w .arrive s

/-! ## Reads (R128, R129) -/

/-- The part answers a read itself: every portion is null-answered and no byte lies outside the ring (R123, R128). -/
def answeredLocally (s : State) (r : UpRead) (qs : List ReadPortion) : Bool :=
  !qs.isEmpty && qs.all (fun q => !q.fromMemory) && decide (s.window.ticket.base ≤ r.addr)
    && decide (r.addr + r.len ≤ s.window.ticket.base + ticketBytesTotal s)

/-- The Classifier takes an upstream read (R123, R128, R129). -/
def takeRead (r : UpRead) (s : State) : State :=
  let qs := readPortions s r
  let cutter := r.tag == s.window.ticket.tag
  let s1 := if cutter && qs.any (fun q => !q.fromMemory) then tallyAdd .nullServed 1 s else s
  let s2 := if cutter then qs.foldl (fun s q => takeTicket q s) s1 else s1
  if answeredLocally s r qs then { s2 with answers := s2.answers ++ [.read r.tag true (zeros r.len)] }
  else forwardPass (.read r ((qs.filter (fun q => !q.fromMemory)).map (fun q => (q.offset, q.len)))) s2

/-! ## Responses -/

/-- A granted write of a source tag. -/
def PassTxn.isWrite (tag : Nat) : PassTxn → Bool
  | .write w _ => w.tag == tag
  | .read _ _ => false

/-- A granted read of a source tag. -/
def PassTxn.isRead (tag : Nat) : PassTxn → Bool
  | .write _ _ => false
  | .read r _ => r.tag == tag

/-- Takes a granted pass-through transaction off the port. -/
def takeOut (rest : List PassTxn) (s : State) : State := { s with arb := { s.arb with passOut := rest } }

/-- Memory's response to the oldest granted write of a source tag: returned unchanged, and watched for the fills the write
belongs to (R7). A response nobody awaits changes nothing. Of the fills of one split write, the one at the lower address is
resolved first (DESIGN CHOICE, log entry 62). -/
def writeAnswered (tag : Nat) (okay : Bool) (s : State) : State :=
  match takeFirst (PassTxn.isWrite tag) s.arb.passOut with
  | some (.write _ notes, rest) =>
    let s1 := takeOut rest s
    notes.foldl (resolveNote okay) { s1 with answers := s1.answers ++ [.write tag okay] }
  | _ => s

/-- A read's data with its null-answered ranges replaced (R128). -/
def maskNulls (nulls : List (Nat × Nat)) (data : List Byte) : List Byte :=
  data.mapIdx (fun i b => if nulls.any (fun r => decide (r.1 ≤ i) && decide (i < r.1 + r.2)) then 0 else b)

/-- Memory's response to the oldest granted read of a source tag (R128). -/
def readAnswered (tag : Nat) (b : ReadResult) (s : State) : State :=
  match takeFirst (PassTxn.isRead tag) s.arb.passOut with
  | some (.read r nulls, rest) =>
    if b.okay && b.data.length != r.len then s
    else
      let s1 := takeOut rest s
      { s1 with answers := s1.answers ++ [.read tag b.okay (maskNulls nulls b.data)] }
  | _ => s

/-! ## What a command leaves to be done -/

/-- Takes the writes that holds have let go, one by one in order, as far as they can be taken (R11, R12, R184). -/
def drain : Nat → State → State
  | 0, s => s
  | fuel + 1, s =>
    match nextLetGo s [] s.toTake with
    | none => s
    | some (x, rest) => drain fuel (refreshStatus s (takeLetGo x { s with toTake := rest }))

/-- A stream's hold is to be released: its held write meets no busy slot (R9, R11). -/
def releasable (s : State) (n : Nat) : Bool :=
  match (stream s n).hold with
  | some h => (busyHeader s n h.held).isNone
  | none => false

/-- R160's cases are tested for the state the command has left, the writes let go are taken, the Capture Engine goes on, and
holds whose slots are no longer busy are released (R11, R159, R160); of several streams due for release in one act the
lowest goes first (DESIGN CHOICE, log entry 52). The fuel is more than the writes eight hold queues can bring. -/
def settleHolds : Nat → State → State
  | 0, s => s
  | fuel + 1, s =>
    let s1 := advanceCapture (drain 1024 (testSegments s))
    match (List.range 8).find? (releasable s1) with
    | some n => settleHolds fuel (endHold n .forced .arrive s1)
    | none => s1

/-- The end of a command that may change slots, pins or lines: a changed status field prompts a status block write, and what
the command lets go is taken (R11, R184). -/
def finish (before s : State) : State := settleHolds 256 (refreshStatus before s)

end Sys2Proof.Machine
end

