-- ==== Sys2Proof/Machine/Anchor.lean ====
section
/-! DEFINITION. The anchor page's commands (R174 to R177, R182, R183, R185, R162), PASS_THROUGH and ARBITER_GRANT (R186). A write is
taken as the Classifier judges it, whatever the row's name (log entry 9). -/

namespace Sys2Proof.Machine

/-- STATUS_BLOCK_GUARD (R175). -/
def execStatusBlockGuard (w : UpWrite) (s : State) : Host.Outcome State Fault Refusal :=
  .next (finish s (arriveWrite w s))

/-- What PASS_THROUGH carries is taken: a write or a read that arrives, or memory's response to one (R2, R7, R128). -/
def takePassEvent (e : PassEvent) (s : State) : State :=
  match e with
  | .write w => arriveWrite w s
  | .read r => takeRead r s
  | .writeResponse tag okay => writeAnswered tag okay s
  | .readResponse tag b => readAnswered tag b s

/-- PASS_THROUGH (R2, R186). -/
def execPassThrough (e : PassEvent) (s : State) : Host.Outcome State Fault Refusal := .next (finish s (takePassEvent e s))

/-- ARBITER_GRANT (R186). -/
def execArbiterGrant (s : State) : Host.Outcome State Fault Refusal := .next (grant s)

/-- ENABLE (R176). -/
def execEnable (w : UpWrite) (s : State) : Host.Outcome State Fault Refusal := .next (finish s (arriveWrite w s))

/-- DISABLE (R176). -/
def execDisable (w : UpWrite) (s : State) : Host.Outcome State Fault Refusal := .next (finish s (arriveWrite w s))

/-- LOG_CLEAR (R182). -/
def execLogClear (w : UpWrite) (s : State) : Host.Outcome State Fault Refusal := .next (finish s (arriveWrite w s))

/-- ORDER_RING_SET (R177). -/
def execOrderRingSet (w : UpWrite) (s : State) : Host.Outcome State Fault Refusal :=
  .next (finish s (arriveWrite w s))

/-- ORDER_TAIL (R174, R177). -/
def execOrderTail (w : UpWrite) (s : State) : Host.Outcome State Fault Refusal := .next (finish s (arriveWrite w s))

/-- LOG_READ (R183). -/
def execLogRead (w : UpWrite) (s : State) : Host.Outcome State Fault Refusal := .next (finish s (arriveWrite w s))

/-- NOTICE_ENABLE (R185). -/
def execNoticeEnable (w : UpWrite) (s : State) : Host.Outcome State Fault Refusal :=
  .next (finish s (arriveWrite w s))

/-- NOTICE_ACK (R185). -/
def execNoticeAck (w : UpWrite) (s : State) : Host.Outcome State Fault Refusal := .next (finish s (arriveWrite w s))

/-- CAPTURE_RELEASE (R162). -/
def execCaptureRelease (w : UpWrite) (s : State) : Host.Outcome State Fault Refusal :=
  .next (finish s (arriveWrite w s))

/-- ANCHOR_WRITE (R174). -/
def execAnchorWrite (w : UpWrite) (s : State) : Host.Outcome State Fault Refusal :=
  .next (finish s (arriveWrite w s))

end Sys2Proof.Machine
end

