-- ==== Sys2Proof/Machine/Cuts.lean ====
section
/-! DEFINITION. The Plate Scheduler's own commands: FORCING_REACHED, STARVED and SEAL_FAILED_CUT_POINT (R108, R110, R114). -/

namespace Sys2Proof.Machine

/-- E has reached the forcing position of the active scheduler's S (R108). -/
def forcingDue (s : State) : Bool :=
  match s.sched.plan with
  | some p => s.sched.active && forced s p
  | none => false

/-- FORCING_REACHED: a forced decision is evaluated (R108), and the head is examined if it brought a plate (R140). -/
def execForcingReached (s : State) : Host.Outcome State Fault Refusal :=
  .next (if forcingDue s then refreshStatus s (examineIfChanged s (evaluate s)) else s)

/-- The queue is full at the forcing position (R110). -/
def starvedDue (s : State) : Bool := forcingDue s && decide (Config.queuePlaces ≤ s.sched.queue.length)

/-- STARVED: S moves by the nominal length without a plate (R110); the full queue stays as it is. -/
def execStarved (s : State) : Host.Outcome State Fault Refusal :=
  .next (if starvedDue s then refreshStatus s (evaluate s) else s)

/-- The head of the queue is SEAL_FAILED and E has reached its cut point (R114). -/
def cutPointDue (s : State) : Bool :=
  match s.sched.queue.head? with
  | some p => p.state == .sealFailed && decide (cutPoint p ≤ s.enc.e)
  | none => false

/-- SEAL_FAILED_CUT_POINT: the head is examined for retirement (R114). -/
def execSealFailedCutPoint (s : State) : Host.Outcome State Fault Refusal :=
  .next (if cutPointDue s then refreshStatus s (plateChanged s) else s)

end Sys2Proof.Machine
end

