-- ==== Sys2Proof/Machine/Encoder.lean ====
section
/-! DEFINITION. PIN_RESET and the Encoder Counter's commands: FORWARD_COUNT, REVERSE_COUNT, INVALID_TRANSITION (R23 to R26). -/

namespace Sys2Proof.Machine

/-- The quadrature state after a forward count: phase 1 leads phase 2 (R23). -/
def phaseForward : Bool → Bool → Bool × Bool
  | false, false => (true, false)
  | true, false => (true, true)
  | true, true => (false, true)
  | false, true => (false, false)

/-- The quadrature state after a reverse count: phase 2 leads phase 1 (R23). -/
def phaseReverse : Bool → Bool → Bool × Bool
  | false, false => (false, true)
  | false, true => (true, true)
  | true, true => (true, false)
  | true, false => (false, false)

/-- Sets the decoder's current state. -/
def Encoder.atPhase (c : Encoder) (p : Bool × Bool) : Encoder := { c with phase1 := p.1, phase2 := p.2 }

/-- A forward count: it pays off backlash, or increases E unless E is at its top; a later invalid transition is reported
again (R23, R24). -/
def Encoder.forward (c : Encoder) : Encoder :=
  let c1 := { c.atPhase (phaseForward c.phase1 c.phase2) with invalidReported := false }
  if 0 < c.backlash then { c1 with backlash := c.backlash - 1 }
  else if c.e < Config.encoderTop then { c1 with e := c.e + 1 }
  else c1

/-- A reverse count: the backlash count rises, up to 64 (R25). -/
def Encoder.reverse (c : Encoder) : Encoder :=
  let c1 := c.atPhase (phaseReverse c.phase1 c.phase2)
  if c.backlash < Config.backlashTop then { c1 with backlash := c.backlash + 1 } else c1

/-- An invalid transition: both phases change and no count is made; while the part is enabled its report is used up
(R23, R26). -/
def Encoder.invalid (c : Encoder) (isEnabled : Bool) : Encoder :=
  { c.atPhase (!c.phase1, !c.phase2) with invalidReported := c.invalidReported || isEnabled }

/-- FORWARD_COUNT (R24): an increase of E evaluates the decision at S (R101), after which the head is examined if a plate
came of it (R140), and then takes the misses that it reaches (R135; log entry 14). -/
def execForwardCount (s : State) : Host.Outcome State Fault Refusal :=
  let s1 := { s with enc := s.enc.forward }
  .next (refreshStatus s (if s.enc.e < s1.enc.e then takeMisses (examineIfChanged s1 (evaluate s1)) else s1))

/-- REVERSE_COUNT (R25, R26): ENCODER_BACKLASH when the count comes to 64 while the part is enabled. -/
def execReverseCount (s : State) : Host.Outcome State Fault Refusal :=
  let s1 := { s with enc := s.enc.reverse }
  .next (refreshStatus s
    (if enabled s && s.enc.backlash != Config.backlashTop && s1.enc.backlash == Config.backlashTop then
      issueEvent .encoderBacklash [] s1
    else s1))

/-- INVALID_TRANSITION (R23, R26): ENCODER_INVALID once until a forward count, while the part is enabled. -/
def execInvalidTransition (s : State) : Host.Outcome State Fault Refusal :=
  let s1 := { s with enc := s.enc.invalid (enabled s) }
  .next (refreshStatus s (if enabled s && !s.enc.invalidReported then issueEvent .encoderInvalid [] s1 else s1))

/-- The writes that holds keep back, in stream and queue order, and behind them those that holds have let go and that still
wait, as pin reset forwards them: untracked (R21). No guard judges them and no field of the anchor page latches them, since
every block is reset in the same act (log entry 12). -/
def heldWrites (s : State) : List PassTxn :=
  (s.streams.map (fun r => match r.hold with
    | some h => (h.held :: h.queue).map (fun w => PassTxn.write w [])
    | none => [])).flatten ++ s.toTake.map (fun x => .write x.write [])

/-- A pass-through transaction of which no block watches the response any more (R138, R186; log entry 16). -/
def PassTxn.unwatched : PassTxn → PassTxn
  | .write w _ => .write w []
  | .read r _ => .read r []

/-- An own transaction granted before a pin reset: it ends, and concerns nothing any more, no FENCE and no DRAINING (R138,
R186). A status block write alone still counts: it is the one write in flight (R184). -/
def OwnTxn.orphaned (t : OwnTxn) : OwnTxn :=
  { t with live := t.live && t.purpose == .status, purpose := match t.purpose with
      | .sealWrite j p q _ => .sealWrite j p q false
      | .nullWrite j q _ _ => .nullWrite j q false false
      | p => p }

/-- A status block write has been granted and its response is outstanding: it completes through a pin reset (R184, R186). -/
def statusGranted (s : State) : Bool := s.arb.ownOut.any (fun t => t.live && t.purpose == .status)

/-- The Record Writer after pin reset: with a status block write in flight the write of the reset image is the pending one,
and its image is formed when that response returns (R184; DEDUCED, log entry 60). -/
def resetWriter (s : State) : RecordWriter := { State.reset.writer with statusPending := statusGranted s }

/-- The arbiter after pin reset: pass-through transactions stay, own requests not yet granted are discarded, and those
granted end, unheeded but for a status block write; unless one is in flight the reset image is to be written (R184,
R186). -/
def resetArbiter (s : State) : Arbiter :=
  { passWaiting := s.arb.passWaiting.map PassTxn.unwatched ++ heldWrites s
    ownWaiting := if statusGranted s then [] else [resetStatusWrite (anchorBase s)]
    count := 0
    passOut := s.arb.passOut.map PassTxn.unwatched
    ownOut := s.arb.ownOut.map OwnTxn.orphaned }

/-- PIN_RESET (R21, R23, R26, R28, R44, R99, R125, R141, R155, R172, R174, R177, R181, R184, R185, R186): every block is as after
reset; the strap pins and the state of the quadrature input stay what they are. -/
def execPinReset (s : State) : Host.Outcome State Fault Refusal :=
  .next { State.reset with
    straps := s.straps
    enc := { State.reset.enc with phase1 := s.enc.phase1, phase2 := s.enc.phase2 }
    writer := resetWriter s
    arb := resetArbiter s
    answers := s.answers
    pending := s.pending }

end Sys2Proof.Machine
end

