-- ==== Sys2Proof/Machine/Lines.lean ====
section
/-! DEFINITION. The Line Assembler's commands: LINE_ASSEMBLY, ASSEMBLY_TIMEOUT and PIXEL_FETCH_DONE (chapters 2 to 4). -/

namespace Sys2Proof.Machine

/-- LINE_ASSEMBLY (R29, R31). -/
def execLineAssembly (s : State) : Host.Outcome State Fault Refusal :=
  .next (if arrivalDue s then refreshStatus s (assembleLine s) else s)

/-- ASSEMBLY_TIMEOUT (R32, R33). -/
def execAssemblyTimeout (s : State) : Host.Outcome State Fault Refusal :=
  .next (if timeoutDue s then refreshStatus s (assembleLine s) else s)

/-- PIXEL_FETCH_DONE (R36, R40, R41, R47, R64): with the bursts of the line's fetch answered, the line is analysed and
completed. A line without bursts is handed over by it too. -/
def execPixelFetchDone (results : PixelResults) (s : State) : Host.Outcome State Fault Refusal :=
  .next (finish s (match s.asm.record with
    | some record =>
      burstsAnswered Purpose.isPixel results.bursts (fun ts => analyseLine results.early record ts results.bursts) s
    | none => clearOut Purpose.isPixel s))

end Sys2Proof.Machine
end

