-- ==== Sys2Proof/Machine/Orders.lean ====
section
/-! DEFINITION. The Order Unit's commands: the fetch of an order, its execution by kind, its table fetches, and the completion write
(chapter 11.3). An order's execution is due when the Order Unit holds it ready and it is of the command's kind;
otherwise the command changes nothing (log entry 8). -/

namespace Sys2Proof.Machine

/-- ORDER_FETCH (R178). -/
def execOrderFetch (s : State) : Host.Outcome State Fault Refusal :=
  .next (if fetchDue s then refreshStatus s (fetchOrder s) else s)

/-- The fetch of an order has been answered (R178). -/
def orderAnswered (r : ReadResult) (s : State) : State :=
  match s.orders.phase with
  | .fetching => if r.okay then orderFetched r.data s else orderFetchFailed s
  | _ => s

/-- ORDER_FETCH_DONE (R178). -/
def execOrderFetchDone (r : ReadResult) (s : State) : Host.Outcome State Fault Refusal :=
  .next (refreshStatus s (ownAnswered (· == .orderFetch) (OwnTxn.fitsRead r) (fun _ => orderAnswered r) s))

/-- The order ready to be executed, if it is of a kind, is taken. -/
def withOrder (kind : Nat) (act : List Byte → State → State) (s : State) : State :=
  match readyOrder kind s with
  | some o => act o s
  | none => s

/-- NOP completes DONE at once (R178). -/
def execNop (s : State) : Host.Outcome State Fault Refusal :=
  .next (refreshStatus s (withOrder kindNop (fun _ => complete .done) s))

/-- The order ready to be executed is of an unknown kind (R178). -/
def badOrderReady (s : State) : Bool :=
  match s.orders.phase with
  | .ready o => decide (kindShiftClose < orderKind o)
  | _ => false

/-- BAD_ORDER: an unknown kind (R178). -/
def execBadOrder (s : State) : Host.Outcome State Fault Refusal :=
  .next (refreshStatus s (if badOrderReady s then complete .badOrder s else s))

/-- FENCE (R179). -/
def execFence (s : State) : Host.Outcome State Fault Refusal := .next (refreshStatus s (withOrder kindFence takeFence s))

/-- A FENCE whose noted writes have all ended is written (R179). -/
def takeFenceWrite (s : State) : State :=
  match s.orders.phase with
  | .fenceWait addr value mark status => if fenceClear s status then writeFence addr value mark s else s
  | _ => s

/-- FENCE_WRITE (R179). -/
def execFenceWrite (s : State) : Host.Outcome State Fault Refusal := .next (refreshStatus s (takeFenceWrite s))

/-- The FENCE write has been answered (R179). -/
def fenceAnswered (okay : Bool) (s : State) : State :=
  match s.orders.phase with
  | .fenceWriting addr mark => endFence addr mark okay s
  | _ => s

/-- FENCE_WRITE_RESPONSE (R179, R185). -/
def execFenceWriteResponse (okay : Bool) (s : State) : Host.Outcome State Fault Refusal :=
  .next (refreshStatus s (ownAnswered (· == .fence) (fun _ => true) (fun _ => fenceAnswered okay) s))

/-- REFRESH (R180). -/
def execRefresh (s : State) : Host.Outcome State Fault Refusal :=
  .next (refreshStatus s (withOrder kindRefresh takeRefreshOrder s))

/-- The fetch of a REFRESH has been answered (R180). -/
def refreshAnswered (r : ReadResult) (s : State) : State :=
  match s.orders.phase with
  | .refreshFetch selector => if r.okay then startRefresh selector r.data s else failRefresh selector s
  | _ => s

/-- REFRESH_FETCH_DONE (R180). -/
def execRefreshFetchDone (r : ReadResult) (s : State) : Host.Outcome State Fault Refusal :=
  .next (refreshStatus s (ownAnswered (· == .tableFetch) (OwnTxn.fitsRead r) (fun _ => refreshAnswered r) s))

/-- STREAM_START (R19). -/
def execStreamStart (s : State) : Host.Outcome State Fault Refusal :=
  .next (refreshStatus s (withOrder kindStreamStart takeStreamStart s))

/-- STREAM_STOP (R20). -/
def execStreamStop (s : State) : Host.Outcome State Fault Refusal :=
  .next (finish s (withOrder kindStreamStop takeStreamStop s))

/-- PROFILE_LOAD (R86, R93). -/
def execProfileLoad (s : State) : Host.Outcome State Fault Refusal :=
  .next (refreshStatus s (withOrder kindProfileLoad handLaneOrder s))

/-- LANE_ASSIGN (R86 to R88). -/
def execLaneAssign (s : State) : Host.Outcome State Fault Refusal :=
  .next (refreshStatus s (withOrder kindLaneAssign handLaneOrder s))

/-- LANE_RELEASE (R86, R89). -/
def execLaneRelease (s : State) : Host.Outcome State Fault Refusal :=
  .next (refreshStatus s (withOrder kindLaneRelease handLaneOrder s))

/-- TABLE_LOAD (R142). -/
def execTableLoad (s : State) : Host.Outcome State Fault Refusal :=
  .next (refreshStatus s (withOrder kindTableLoad takeTableLoad s))

/-- The fetch of a TABLE LOAD's block has been answered (R142). -/
def tableAnswered (r : ReadResult) (s : State) : State :=
  match s.orders.phase with
  | .tableFetch => if r.okay then loadTables r.data s else complete .tableBad s
  | _ => s

/-- TABLE_LOAD_FETCH_DONE (R142, R143). -/
def execTableLoadFetchDone (r : ReadResult) (s : State) : Host.Outcome State Fault Refusal :=
  .next (refreshStatus s (ownAnswered (· == .tableLoadFetch) (OwnTxn.fitsRead r) (fun _ => tableAnswered r) s))

/-- PLAN_SET (R97). -/
def execPlanSet (s : State) : Host.Outcome State Fault Refusal :=
  .next (refreshStatus s (withOrder kindPlanSet takePlanSet s))

/-- CUT_REQUEST (R117). -/
def execCutRequest (s : State) : Host.Outcome State Fault Refusal :=
  .next (refreshStatus s (withOrder kindCutRequest takeCutRequest s))

/-- RESTART (R118, R119): its own act, and the decision at the new S that follows it; each prompts the status block for the
fields it changes, so that plates decided again as they were do so too (R122, R184). -/
def execRestart (s : State) : Host.Outcome State Fault Refusal :=
  .next (withOrder kindRestart (fun _ s => decideAfterRestart (refreshStatus s (takeRestart s))) s)

/-- SHIFT_CLOSE (R168). -/
def execShiftClose (s : State) : Host.Outcome State Fault Refusal :=
  .next (refreshStatus s (withOrder kindShiftClose takeShiftOrder s))

/-- The completion write has been answered (R178). -/
def completionAnswered (okay : Bool) (s : State) : State :=
  match s.orders.phase with
  | .completing code => headAdvance okay code s
  | _ => s

/-- COMPLETION_WRITE_RESPONSE (R178). -/
def execCompletionWriteResponse (okay : Bool) (s : State) : Host.Outcome State Fault Refusal :=
  .next (refreshStatus s (ownAnswered (· == .completion) (fun _ => true) (fun _ => completionAnswered okay) s))

end Sys2Proof.Machine
end

