-- ==== Sys2Proof/Machine/Records.lean ====
section
/-! DEFINITION. The answers to the part's writes of reports, captures, records and the status block: REPORT_WRITE_RESPONSE (R171),
CAPTURE_SEGMENT_READ_DONE, CAPTURE_ROW_WRITE_DONE, CAPTURE_HEADER_WRITE_DONE (R159 to R161), LOG_WRITE_RESPONSE (R181 to
R183) and STATUS_BLOCK_WRITE_RESPONSE (R184). -/

namespace Sys2Proof.Machine

/-! ## The report write -/

/-- The granted transactions of a purpose that were not abandoned, oldest first: those whose responses the report's and the
log's commands bring (log entry 61). -/
def liveOut (p : Purpose) (s : State) : List OwnTxn := s.arb.ownOut.filter (fun t => t.live && t.purpose == p)

/-- A live transaction of a purpose still waits for its grant. -/
def stillWaiting (p : Purpose) (s : State) : Bool := s.arb.ownWaiting.any (fun t => t.live && t.purpose == p)

/-- Every burst of the report write has ended: it is complete, with the notice, or it has failed (R171). -/
def reportEnded (s : State) : State :=
  if stillWaiting .report s || !(liveOut .report s).isEmpty then s
  else match s.tally.report with
    | .idle => s
    | .writing _ => endReport (setNotices (fun n => { n with report := true }) (clearOut (· == .report) s))
    | .failing closing addr => endReport (issueEvent .reportFailed [closing, addr] (clearOut (· == .report) s))

/-- A burst of the report write got an error response: no further burst is issued, those in flight are left to end, and the
address is kept for REPORT_FAILED (R171). -/
def failReport (addr : Nat) (s : State) : State :=
  match s.tally.report with
  | .writing closing => recallOwn (· == .report) { s with tally := { s.tally with report := .failing closing addr } }
  | .failing _ _ | .idle => s

/-- The response of the oldest granted burst of the report write returns (R171): the bursts are answered in the order granted
(DESIGN CHOICE, log entry 49), and after a failure what the others bring is disregarded. Bursts granted before a pin reset are
passed over, so that a response is the present report's (DESIGN CHOICE, log entry 61). -/
def reportBurst (s : State) (okay : Bool) : State :=
  match takeFirst (fun t => t.live && t.purpose == .report) s.arb.ownOut with
  | none => s
  | some (t, rest) =>
    let s1 := { s with arb := { s.arb with ownOut := rest } }
    reportEnded (if okay then s1 else failReport t.addr s1)

/-- REPORT_WRITE_RESPONSE (R171): one response or several, each for the oldest burst granted and not yet answered. -/
def execReportWriteResponse (okays : List Bool) (s : State) : Host.Outcome State Fault Refusal :=
  .next (refreshStatus s (if s.tally.report = .idle then clearOut (· == .report) s else okays.foldl reportBurst s))

/-! ## The capture copy -/

/-- A segment's bytes, those at or beyond the slot's pixel count being zero (R157). -/
def segmentBytes (cs : CapStream) (pixels : Nat) (data : List Byte) : List Byte :=
  data.mapIdx (fun i b => if cs.winStart + (cs.first - cs.colBase) + i < pixels then b else 0)

/-- Clears the pin of the slot that holds a stamp (R158). -/
def unpinStamp (n stamp : Nat) (s : State) : State :=
  modStream n (fun r => { r with dir := r.dir.map (fun e => if e.stamp = some stamp then { e with pin := false } else e) }) s

/-- The bytes of a capture stream's segment that its read returned. The segment's place in its first beat does not depend
on the slot, since rings and slot sizes are multiples of 64 (R1). -/
def segmentData (s : State) (cs : CapStream) (bursts : List ReadResult) : List Byte :=
  spanBytes (segmentAddr s cs 0) (cs.last + 1 - cs.first) bursts

/-- A capture stream's read of its present segment has returned: the pin is cleared, and the segment is kept, or is
unavailable if a burst failed (R159). -/
def segmentAnswered (c : Copy) (cs : CapStream) (pixels : Nat) (bursts : List ReadResult) (s : State) : State :=
  let s1 := unpinStamp cs.stream ((c.yw + cs.next).toNat + cs.stagger) s
  if bursts.all (·.okay) then
    modCapStream cs.stream (fun x => { x with
      segments := x.segments ++ [(cs.next, segmentBytes cs pixels (segmentData s cs bursts))]
      next := cs.next + 1, reading := none }) s1
  else missSegment cs s1

/-- The capture stream whose segment read is in flight. -/
def readingStream (s : State) (n : Nat) : Option (Copy × CapStream × Nat) :=
  match s.cap.copy with
  | none => none
  | some c =>
    match c.streams.find? (fun cs => cs.stream == n) with
    | none => none
    | some cs => cs.reading.map (fun pixels => (c, cs, pixels))

/-- CAPTURE_SEGMENT_READ_DONE (R158, R159). -/
def execCaptureSegmentReadDone (n : Fin 8) (bursts : List ReadResult) (s : State) : Host.Outcome State Fault Refusal :=
  .next (finish s (match readingStream s n with
    | some (c, cs, pixels) =>
      burstsAnswered (· == .captureRead n) bursts (fun _ => segmentAnswered c cs pixels bursts) s
    | none => clearOut (· == .captureRead n) s))

/-- The capture fails at an address (R161). -/
def failCapture (addr : Nat) (s : State) : State :=
  match s.cap.copy with
  | some c => issueEvent .captureFailed [c.slot, c.flaw, addr] (dropCopy s)
  | none => s

/-- A capture row write has been answered (R161). -/
def rowAnswered (okay : Bool) (t : OwnTxn) (s : State) : State :=
  if okay then modCopy (fun c => { c with rowsOut := c.rowsOut - 1 }) s else failCapture t.addr s

/-- CAPTURE_ROW_WRITE_DONE (R161). -/
def execCaptureRowWriteDone (okay : Bool) (s : State) : Host.Outcome State Fault Refusal :=
  .next (finish s (ownAnswered (· == .captureRow) (fun _ => true) (rowAnswered okay) s))

/-- The capture is complete (R161). -/
def endCapture (c : Copy) (s : State) : State :=
  let s1 := unpinAll { s with cap := { slots := s.cap.slots.set c.slot .locked, copy := none } }
  let s2 := tallyAdd .captureTaken 1 (setNotices (fun n => { n with capture := true }) s1)
  if 0 < missingCount c then issueEvent .capturePartial [c.slot, c.flaw, missingCount c] s2 else s2

/-- The capture header write has been answered (R161). -/
def headerAnswered (okay : Bool) (t : OwnTxn) (s : State) : State :=
  match s.cap.copy with
  | some c => if okay then endCapture c s else failCapture t.addr s
  | none => s

/-- CAPTURE_HEADER_WRITE_DONE (R161). -/
def execCaptureHeaderWriteDone (okay : Bool) (s : State) : Host.Outcome State Fault Refusal :=
  .next (finish s (ownAnswered (· == .captureHeader) (fun _ => true) (headerAnswered okay) s))

/-! ## The record log -/

/-- The unread count has come to LOG_HIGH_WATER, or the mark is 0 (R183). -/
def highWaterMet (s : State) (before after : Nat) : Bool :=
  let mark := s.anchor.logHighWater.toNat
  decide (mark = 0) || (decide (before < mark) && decide (mark ≤ after))

/-- A group has been written whole: the write index advances, the LOG notice may be set, and a LOG_LOST's count leaves the
lost count, or, being greater than it, leaves a free value (R181 to R183; log entry 46). -/
def groupWritten (g : LogGroup) (s : State) : State :=
  let w := { s.writer with
    writeIndex := (s.writer.writeIndex + g.records.length) % Config.wordModulus
    lost := lostLess s.writer.lost (g.lostCount.getD 0) }
  let s1 := { s with writer := w }
  if highWaterMet s (unread s.writer) (unread w) then setNotices (fun n => { n with log := true }) s1 else s1

/-- A REFRESH that waited for the group is taken (R180). -/
def takeWaitingRefresh (s : State) : State :=
  match s.orders.phase with
  | .refreshWait selector table => takeRefresh selector table s
  | _ => s

/-- Every write of the group in flight has been answered (R181). -/
def groupAnswered (g : LogGroup) (okays : List Bool) (s : State) : State :=
  let s1 := clearOut (· == .log) { s with writer := { s.writer with inFlight := none } }
  pumpLog (takeWaitingRefresh (if okays.all id then groupWritten g s1 else loseRecords g.records.length s1))

/-- The responses of the record writes of the group in flight, one for each record (R181). -/
def logAnswered (okays : List Bool) (s : State) : State :=
  match s.writer.inFlight with
  | none => clearOut (· == .log) s
  | some g =>
    if stillWaiting .log s || (liveOut .log s).length != okays.length then s else groupAnswered g okays s

/-- LOG_WRITE_RESPONSE (R181 to R183). -/
def execLogWriteResponse (okays : List Bool) (s : State) : Host.Outcome State Fault Refusal :=
  .next (refreshStatus s (logAnswered okays s))

/-! ## The status block -/

/-- The status block write in flight has been answered: a pending one is issued with the image as it stands (R184). -/
def statusAnswered (s : State) : State :=
  let s1 := countStatus { s with writer := { s.writer with statusOut := false } }
  if s1.writer.statusPending then issueStatus { s1 with writer := { s1.writer with statusPending := false } } else s1

/-- STATUS_BLOCK_WRITE_RESPONSE (R184): an error response is not acted upon. -/
def execStatusBlockWriteResponse (_okay : Bool) (s : State) : Host.Outcome State Fault Refusal :=
  .next (refreshStatus s (ownAnswered (· == .status) (fun _ => true) (fun _ => statusAnswered) s))

end Sys2Proof.Machine
end

