-- ==== Sys2Proof/Machine/Rings.lean ====
section
/-! DEFINITION. The Ring Tracker's commands: HEADER_WRITE, CONTINUATION_WRITE, COMPLETING_WRITE_RESPONSE, HOLD_EXPIRED, LINE_TIMEOUT,
STREAM_LAPSED and SEED_FETCH_DONE (chapter 1). A write is taken as the Classifier judges it, whatever the row's name
(log entry 9); an event that is not due changes nothing (log entry 8). -/

namespace Sys2Proof.Machine

/-- HEADER_WRITE (R4, R9, R10, R13). -/
def execHeaderWrite (w : UpWrite) (s : State) : Host.Outcome State Fault Refusal := .next (finish s (arriveWrite w s))

/-- CONTINUATION_WRITE (R6). -/
def execContinuationWrite (w : UpWrite) (s : State) : Host.Outcome State Fault Refusal :=
  .next (finish s (arriveWrite w s))

/-- COMPLETING_WRITE_RESPONSE (R7, R8, R11, R16, R17). -/
def execCompletingWriteResponse (tag : Nat) (okay : Bool) (s : State) : Host.Outcome State Fault Refusal :=
  .next (finish s (writeAnswered tag okay s))

/-- A hold ends by expiry (R12): the held write is taken whatever the slot's state, the expiry is reported, and the queued
writes are let go. -/
def expireHold (n : Nat) (s : State) : State :=
  match (stream s n).hold with
  | none => s
  | some h =>
    let s1 := takeWrite h.held .forced (modStream n (fun r => { r with hold := none }) s)
    let s2 := tallyAdd (.expiries n) 1 (issueEvent .holdExpired [n, headerSlot s n h.held] s1)
    { s2 with toTake := h.queue.map (fun w => { stream := n, write := w, mode := .arrive }) ++ s2.toTake }

/-- HOLD_EXPIRED (R12). -/
def execHoldExpired (n : Fin 8) (s : State) : Host.Outcome State Fault Refusal :=
  .next (if holdDue s n then finish s (expireHold n s) else s)

/-- A fill in progress ends by its line timeout (R15). -/
def timeOutFill (n : Nat) (s : State) : State :=
  match (stream s n).fill with
  | none => s
  | some f =>
    let s1 := issueEvent .lineTimeout [n, f.slot, stampOf s n f.slot] (loseSlot n f.slot (setFill n none s))
    if (streamWindow s n).recover then s1 else faultStream n s1

/-- LINE_TIMEOUT (R15, R17). -/
def execLineTimeout (n : Fin 8) (s : State) : Host.Outcome State Fault Refusal :=
  .next (if lineTimeoutDue s n then finish s (timeOutFill n s) else s)

/-- A RUNNING stream goes to LAPSED (R17); its episode ends (R33). -/
def lapseStream (n : Nat) (s : State) : State :=
  issueEvent .streamLapsed [n] (modStream n (fun r => { r with state := .lapsed, episode := false }) s)

/-- STREAM_LAPSED (R17). -/
def execStreamLapsed (n : Fin 8) (s : State) : Host.Outcome State Fault Refusal :=
  .next (if lapseDue s n then finish s (lapseStream n s) else s)

/-- The seed fetch of a stream ends (R16, R39): it completed if every burst returned OKAY. -/
def endSeed (n : Nat) (f : SeedFetch) (bursts : List ReadResult) (s : State) : State :=
  if bursts.all (·.okay) then seedDone n f bursts s else seedFailed n f.slot s

/-- SEED_FETCH_DONE (R16, R39, R45). -/
def execSeedFetchDone (n : Fin 8) (bursts : List ReadResult) (s : State) : Host.Outcome State Fault Refusal :=
  .next (finish s (match (stream s n).seed with
    | some f => burstsAnswered (· == .seed n) bursts (fun _ => endSeed n f bursts) s
    | none => clearOut (· == .seed n) s))

end Sys2Proof.Machine
end

