-- ==== Sys2Proof/Machine/Tickets.lean ====
section
/-! DEFINITION. The Ticket Unit's commands: SEAL_WRITE_RESPONSE, NULL_WRITE_RESPONSE, TICKET_READ, GUARD_WRITE, STATUS_WRITE and
CUT_MISSED (chapter 7). -/

namespace Sys2Proof.Machine

/-- The seal write of a slot, whatever its plate. -/
def Purpose.seals (slot : Nat) : Purpose → Bool
  | .sealWrite j _ _ _ => j == slot
  | _ => false

/-- The null rewrite of a slot. -/
def Purpose.nulls (slot : Nat) : Purpose → Bool
  | .nullWrite j _ _ _ => j == slot
  | _ => false

/-- The plate of a seal response is still SEALING: OKAY makes it SEALED, and MISSED at once if E is at its miss point
already; an error makes it SEAL_FAILED (R127, R135). -/
def sealPlate (slot : Nat) (okay : Bool) (p : Plate) (s : State) : State :=
  if okay then
    let s1 := modPlate p.num (fun q => { q with state := .sealed }) s
    if missPoint p ≤ s.enc.e then markMissed { p with state := .sealed } s1 else s1
  else issueEvent .sealFailed [p.num, p.seq, slot] (modPlate p.num (fun q => { q with state := .sealFailed }) s)

/-- The response of the seal write of a plate, with its sequence, to a slot (R127). -/
def sealAnswered (slot plate seq : Nat) (okay : Bool) (s : State) : State :=
  let s1 := modSlot slot (fun r => { r with write := .none }) s
  plateChanged (pumpSeals (match (slotRec s1 slot).nullPending with
    | some q =>
      let s2 := issueNull slot q s1
      if okay then s2 else issueEvent .sealFailed [plate, seq, slot] s2
    | none =>
      match plateNumbered s1 plate with
      | some p => if p.state == .sealing && p.seq == seq then sealPlate slot okay p s1 else s1
      | none => s1))

/-- What follows the answer to an own write of the Ticket Unit that its purpose names (R127, R137, R138); a plate that becomes
SEALING has the head examined (R140). -/
def ticketAnswered (okay : Bool) (t : OwnTxn) (s : State) : State :=
  match t.purpose with
  | .sealWrite slot plate seq _ => sealAnswered slot plate seq okay s
  | .nullWrite slot seq _ _ =>
    let s1 := modSlot slot (fun r => { r with write := .none, noted := r.noted && r.nullPending.isSome }) s
    let s2 := if okay then s1 else issueEvent .nullWriteFailed [slot, seq] s1
    let s3 := match (slotRec s2 slot).nullPending with
      | some q => issueNull slot q s2
      | none => s2
    examineIfChanged s3 (pumpSeals s3)
  | _ => s

/-- The response to the part's own write to a ticket slot (R127, R137, R138). Of a write to a replaced ring and one to the
slot of the same number in the new ring, both granted, it answers the oldest granted (DESIGN CHOICE, log entry 58). -/
def ownTicketAnswered (p : Purpose → Bool) (okay : Bool) (s : State) : State :=
  match answerOwn p s with
  | some (t, s1) => if t.live then ticketAnswered okay t s1 else s1
  | none => s

/-- SEAL_WRITE_RESPONSE (R127). -/
def execSealWriteResponse (slot : Nat) (okay : Bool) (s : State) : Host.Outcome State Fault Refusal :=
  .next (refreshStatus s (ownTicketAnswered (Purpose.seals slot) okay s))

/-- NULL_WRITE_RESPONSE (R126, R137, R138). -/
def execNullWriteResponse (slot : Nat) (okay : Bool) (s : State) : Host.Outcome State Fault Refusal :=
  .next (refreshStatus s (ownTicketAnswered (Purpose.nulls slot) okay s))

/-- TICKET_READ (R123, R128, R129). -/
def execTicketRead (r : UpRead) (s : State) : Host.Outcome State Fault Refusal := .next (refreshStatus s (takeRead r s))

/-- GUARD_WRITE (R131). -/
def execGuardWrite (w : UpWrite) (s : State) : Host.Outcome State Fault Refusal := .next (finish s (arriveWrite w s))

/-- STATUS_WRITE (R132 to R134). -/
def execStatusWrite (w : UpWrite) (s : State) : Host.Outcome State Fault Refusal := .next (finish s (arriveWrite w s))

/-- CUT_MISSED (R135). -/
def execCutMissed (plate : Nat) (s : State) : Host.Outcome State Fault Refusal := .next (refreshStatus s (missPlate s plate))

end Sys2Proof.Machine
end

