-- ==== Sys2Proof/Machine/Dispatch.lean ====
section
/-! DEFINITION. What each command does: one arm for each row of spec/opcode_table.json. -/

namespace Sys2Proof.Machine

/-- The effect of a command on everything but the queue of commands. -/
def exec (i : Instr) (s : State) : Host.Outcome State Fault Refusal :=
  match i with
  | .pinReset => Sys2Proof.Machine.execPinReset s
  | .forwardCount => Sys2Proof.Machine.execForwardCount s
  | .reverseCount => Sys2Proof.Machine.execReverseCount s
  | .invalidTransition => Sys2Proof.Machine.execInvalidTransition s
  | .headerWrite w => Sys2Proof.Machine.execHeaderWrite w s
  | .continuationWrite w => Sys2Proof.Machine.execContinuationWrite w s
  | .completingWriteResponse tag okay => Sys2Proof.Machine.execCompletingWriteResponse tag okay s
  | .holdExpired stream => Sys2Proof.Machine.execHoldExpired stream s
  | .lineTimeout stream => Sys2Proof.Machine.execLineTimeout stream s
  | .streamLapsed stream => Sys2Proof.Machine.execStreamLapsed stream s
  | .seedFetchDone stream bursts => Sys2Proof.Machine.execSeedFetchDone stream bursts s
  | .lineAssembly => Sys2Proof.Machine.execLineAssembly s
  | .assemblyTimeout => Sys2Proof.Machine.execAssemblyTimeout s
  | .pixelFetchDone results => Sys2Proof.Machine.execPixelFetchDone results s
  | .forcingReached => Sys2Proof.Machine.execForcingReached s
  | .starved => Sys2Proof.Machine.execStarved s
  | .sealFailedCutPoint => Sys2Proof.Machine.execSealFailedCutPoint s
  | .sealWriteResponse slot okay => Sys2Proof.Machine.execSealWriteResponse slot okay s
  | .nullWriteResponse slot okay => Sys2Proof.Machine.execNullWriteResponse slot okay s
  | .ticketRead r => Sys2Proof.Machine.execTicketRead r s
  | .guardWrite w => Sys2Proof.Machine.execGuardWrite w s
  | .statusWrite w => Sys2Proof.Machine.execStatusWrite w s
  | .cutMissed plate => Sys2Proof.Machine.execCutMissed plate s
  | .statusBlockGuard w => Sys2Proof.Machine.execStatusBlockGuard w s
  | .passThrough e => Sys2Proof.Machine.execPassThrough e s
  | .arbiterGrant => Sys2Proof.Machine.execArbiterGrant s
  | .enable w => Sys2Proof.Machine.execEnable w s
  | .disable w => Sys2Proof.Machine.execDisable w s
  | .logClear w => Sys2Proof.Machine.execLogClear w s
  | .orderRingSet w => Sys2Proof.Machine.execOrderRingSet w s
  | .orderTail w => Sys2Proof.Machine.execOrderTail w s
  | .logRead w => Sys2Proof.Machine.execLogRead w s
  | .noticeEnable w => Sys2Proof.Machine.execNoticeEnable w s
  | .noticeAck w => Sys2Proof.Machine.execNoticeAck w s
  | .captureRelease w => Sys2Proof.Machine.execCaptureRelease w s
  | .anchorWrite w => Sys2Proof.Machine.execAnchorWrite w s
  | .orderFetch => Sys2Proof.Machine.execOrderFetch s
  | .orderFetchDone result => Sys2Proof.Machine.execOrderFetchDone result s
  | .nop => Sys2Proof.Machine.execNop s
  | .badOrder => Sys2Proof.Machine.execBadOrder s
  | .fence => Sys2Proof.Machine.execFence s
  | .fenceWrite => Sys2Proof.Machine.execFenceWrite s
  | .fenceWriteResponse okay => Sys2Proof.Machine.execFenceWriteResponse okay s
  | .refresh => Sys2Proof.Machine.execRefresh s
  | .refreshFetchDone result => Sys2Proof.Machine.execRefreshFetchDone result s
  | .streamStart => Sys2Proof.Machine.execStreamStart s
  | .streamStop => Sys2Proof.Machine.execStreamStop s
  | .profileLoad => Sys2Proof.Machine.execProfileLoad s
  | .laneAssign => Sys2Proof.Machine.execLaneAssign s
  | .laneRelease => Sys2Proof.Machine.execLaneRelease s
  | .tableLoad => Sys2Proof.Machine.execTableLoad s
  | .tableLoadFetchDone result => Sys2Proof.Machine.execTableLoadFetchDone result s
  | .planSet => Sys2Proof.Machine.execPlanSet s
  | .cutRequest => Sys2Proof.Machine.execCutRequest s
  | .restart => Sys2Proof.Machine.execRestart s
  | .shiftClose => Sys2Proof.Machine.execShiftClose s
  | .completionWriteResponse okay => Sys2Proof.Machine.execCompletionWriteResponse okay s
  | .reportWriteResponse okays => Sys2Proof.Machine.execReportWriteResponse okays s
  | .captureSegmentReadDone stream bursts => Sys2Proof.Machine.execCaptureSegmentReadDone stream bursts s
  | .captureRowWriteDone okay => Sys2Proof.Machine.execCaptureRowWriteDone okay s
  | .captureHeaderWriteDone okay => Sys2Proof.Machine.execCaptureHeaderWriteDone okay s
  | .logWriteResponse okays => Sys2Proof.Machine.execLogWriteResponse okays s
  | .statusBlockWriteResponse okay => Sys2Proof.Machine.execStatusBlockWriteResponse okay s

end Sys2Proof.Machine
end

