-- ==== Sys2Proof/Safety.lean ====
section
/-! DEFINITION. What the statements speak of: invariants of every run (chapters 2, 3, 6, 9, 11), and the shapes of states and writes
under which a command's effect stands alone. -/

namespace Sys2Proof.Machine

/-! ## Invariants -/

/-- The positions of the encoder and of the analysis line: E and the backlash count keep their ranges (R24, R25), and A
never exceeds E, nor does a line whose assembly has begun (R29). -/
def PositionsInv (s : State) : Prop :=
  s.enc.e ≤ Config.encoderTop ∧ s.enc.backlash ≤ Config.backlashTop ∧ s.asm.a ≤ s.enc.e ∧
    (s.asm.record.isSome = true → s.asm.a + 1 ≤ s.enc.e)

/-- The values of a column keep their ranges (R44, R50). -/
def ColumnInv (c : Column) : Prop := c.ref ≤ 65280 ∧ c.age ≤ 4095 ∧ c.clearRun ≤ 64

/-- Every column keeps its ranges, and the run buffer holds at most 256 runs (R44, R50, R59). -/
def ColumnsInv (s : State) : Prop := (∀ c ∈ s.det.columns, ColumnInv c) ∧ s.det.runs.length ≤ Config.runPlaces

/-- A hold queue holds at most sixteen writes, the held one included (R10). -/
def HoldInv (r : StreamRec) : Prop := ∀ h, r.hold = some h → h.queue.length + 1 ≤ Config.holdPlaces

/-- The part's queues keep their sizes: the plate queue (R116), the flaw list (R80), the pending buffer (R181), the arbiter's
count (R186) and the hold queues (R10). -/
def CapacityInv (s : State) : Prop :=
  s.sched.queue.length ≤ Config.queuePlaces ∧ s.sched.flaws.length ≤ Config.flawPlaces ∧
    bufferedRecords s.writer ≤ Config.recordPlaces ∧ s.arb.count ≤ Config.arbiterLimit ∧ ∀ r ∈ s.streams, HoldInv r

/-- At most one capture slot is FILLING, and it is the slot of the active copy (R155, R156). -/
def CaptureInv (s : State) : Prop :=
  match s.cap.copy with
  | some c => s.cap.slots[c.slot]? = some .filling ∧ s.cap.slots.count .filling = 1
  | none => s.cap.slots.count .filling = 0

/-- Every label's groups form one contiguous run (R87), the labels and the profiles keep their ranges (R84, R92). -/
def LaneMapInv (s : State) : Prop :=
  s.lanes.groups.length = Config.groupCount ∧
    (∀ i j k l, i < j → j < k → groupLabel s.lanes i = some l → groupLabel s.lanes k = some l →
      groupLabel s.lanes j = some l) ∧
    (∀ l, some l ∈ s.lanes.groups → 1 ≤ l ∧ l ≤ 15) ∧
    ∀ p ∈ s.lanes.profiles, 1 ≤ p.dark ∧ p.dark ≤ 255 ∧ 1 ≤ p.bright ∧ p.bright ≤ 255 ∧ 1 ≤ p.minRun ∧ p.minRun ≤ 16 ∧
      4 ≤ p.shift ∧ p.shift ≤ 10 ∧ 64 ≤ p.streakLimit ∧ p.streakLimit ≤ 4095 ∧ p.gap ≤ 7 ∧ 1 ≤ p.minArea ∧
      p.minArea ≤ 4095

/-- The flaw list is ordered by y0, and it and the overflow zone hold nothing that ends before the plan start; an inactive
scheduler holds neither (R80, R82, R120). -/
def FlawListInv (s : State) : Prop :=
  s.sched.flaws.Pairwise (fun f g => f.y0 ≤ g.y0) ∧ (∀ f ∈ s.sched.flaws, s.sched.start ≤ f.y1) ∧
    (∀ z ∈ s.sched.zone, s.sched.start ≤ z.y1) ∧
    (s.sched.active = false → s.sched.flaws = [] ∧ s.sched.zone = none)

/-- Every OPEN blob has y0 ≤ last ≤ A and a length below 4096 lines, the open dense zone likewise, and the blob table has
64 entries (R63, R70, R73). -/
def BlobsInv (s : State) : Prop :=
  s.blobs.table.length = Config.blobPlaces ∧
    (∀ b, BlobEntry.opened b ∈ s.blobs.table →
      b.y0 ≤ b.last ∧ b.last ≤ s.asm.a ∧ b.last + 1 < b.y0 + Config.lengthLimit) ∧
    ∀ d ∈ s.blobs.dense, d.y0 ≤ d.y1 ∧ d.y1 ≤ s.asm.a ∧ d.y1 + 1 < d.y0 + Config.lengthLimit

/-! ## Shapes of states -/

/-- Nothing is held, no capture copy is active and no write is let go: a command leaves nothing further to be done. -/
def Quiet (s : State) : Prop := (∀ n, (stream s n).hold = none) ∧ s.cap.copy = none ∧ s.toTake = []

/-- The control fields of the anchor page: offset and size (R194). -/
def controlFields : List (Nat × Nat) :=
  [(0x00, 4), (0x08, 8), (0x10, 1), (0x14, 4), (0x18, 8), (0x20, 4), (0x24, 4), (0x28, 1), (0x2C, 1), (0x30, 1)]

/-- A write is neither refused nor a status write, and it touches no control field (R131, R132, R174, R175). -/
def PlainWrite (s : State) (w : UpWrite) : Prop :=
  bodyRefused s w = false ∧ statusRefused s w = false ∧
    (ticketsGuarded s = false ∨ w.tag ≠ s.window.ticket.tag) ∧
    ∀ f ∈ controlFields, strobedIn w (anchorBase s + f.1) f.2 = false

/-- A write touches the control field at `off` alone, is not refused, is tracked into no stream and is no status write
(R174). -/
def FieldWrite (s : State) (w : UpWrite) (off : Nat) : Prop :=
  bodyRefused s w = false ∧ statusRefused s w = false ∧ streamOf s w = none ∧
    (ticketsGuarded s = false ∨ w.tag ≠ s.window.ticket.tag) ∧
    ∀ f ∈ controlFields, strobedIn w (anchorBase s + f.1) f.2 = decide (f.1 = off)

/-! ## Ring writes -/

/-- A write to the start of slot `k` of stream `n`'s ring, within the slot and otherwise plain (R2, R4). -/
def HeaderWriteFor (s : State) (w : UpWrite) (n k : Nat) : Prop :=
  PlainWrite s w ∧ streamOf s w = some n ∧ k < (stream s n).dir.length ∧ w.addr = slotAddr (streamWindow s n) k ∧
    0 < w.data.length ∧ w.data.length ≤ (streamWindow s n).slotSize

/-- The data begin with a good slot header for slots of so many bytes, which carries this stamp and pixel count: 32 strobed
bytes, the check, and a pixel count in its range (R4, R190). -/
def GoodHeader (slotSize : Nat) (data : List (Option Byte)) (stamp count : Nat) : Prop :=
  ∃ bytes : List Byte, bytes.length = 32 ∧ data.take 32 = bytes.map some ∧ fieldAt bytes 0 6 = stamp ∧
    fieldAt bytes 6 2 = count ∧ fieldAt bytes 0x1E 2 = ((bytes.take 30).map BitVec.toNat).sum % 65536 ∧
    0 < count ∧ count ≤ 4096 ∧ count + 32 ≤ slotSize

/-- A stamp is accepted: above the last accepted stamp, and at most four lines ahead of E (R5). -/
def StampFits (s : State) (n stamp : Nat) : Prop :=
  (∀ l ∈ (stream s n).lastStamp, l < stamp) ∧ stamp ≤ s.enc.e + (streamWindow s n).stagger + 4

/-- A fill of `count` pixels has begun in slot `k` with a header write of `len` bytes: the stamps passed over are missing
lines, and the slot, the last accepted stamp and the fill in progress are set (R5, R6, R18). -/
def fillBegun (n k stamp count len : Nat) (s : State) : State :=
  modDir n k (fun _ =>
      { stamp := some stamp, pixels := count, state := .filling, pin := false, awaiting := decide (count + 32 ≤ len),
        failed := false })
    (modStream n (fun r => { r with
        lastStamp := some stamp
        fill := if count + 32 ≤ len then none
                else some { slot := k, remaining := count - (len - 32), next := len, start := s.enc.e } })
      (match (stream s n).lastStamp with
       | some l => if l + 1 < stamp then tallyAdd (.missing n) (stamp - l - 1) s else s
       | none => s))

/-- The fill that a header write of `len` bytes belongs to, as its response concerns it (R7). -/
def headerNote (n k count len : Nat) : FillNote := { stream := n, slot := k, completing := decide (count + 32 ≤ len) }

/-- A READY line that was given up to a forwarded header write: OVERRUN, one overrun line, and no longer pinned (R14). -/
def lineGivenUp (n k : Nat) (s : State) : State :=
  modDir n k (fun e => { e with pin := false, awaiting := false })
    (issueEvent .overrun [n, k, stampOf s n k] (tallyAdd (.overrun n) 1 (withdrawNotes n k s)))

/-! ## Blobs -/

/-- Blob `b` merged into blob `a`, which survives (R67). -/
def mergedBlob (a b : Blob) : Blob :=
  { a with
    y0 := min a.y0 b.y0, last := max a.last b.last, c0 := min a.c0 b.c0, c1 := max a.c1 b.c1
    prev := hullJoin a.prev b.prev, cur := hullJoin a.cur b.cur, area := min (a.area + b.area) 16777215
    sum := min (a.sum + b.sum) (2 ^ 32 - 1), peak := max a.peak b.peak, gap := max a.gap b.gap
    continuation := a.continuation || b.continuation }

/-! ## Withdrawn tickets -/

/-- What an abandoned plate leaves in the record of its ticket slot, by the plate's state: no occupant; for a SEALED one the
null rewrite in flight, or pending behind another write; for a SEALING one the null rewrite pending; a disable notes those
two (R137, R138). -/
def withdrawnSlot (atDisable : Bool) (p : Plate) (r : SlotRec) : SlotRec :=
  let vacant := { r with occupant := none, noted := r.noted || (atDisable && decide (p.state = .sealed ∨ p.state = .sealing)) }
  if p.state = .sealed ∧ r.write = .none then { vacant with write := .nulling, nullPending := none, nullFenced := false }
  else if p.state = .sealed ∨ p.state = .sealing then { vacant with nullPending := some p.seq, nullFenced := false }
  else vacant

/-- The null rewrites that are issued at once for abandoned plates, in their order: 64 zero bytes to the slot of each that is
SEALED and whose slot has no write in flight (R137, R138). -/
def nullRewrites (atDisable : Bool) (s : State) (gone : List Plate) : List OwnTxn :=
  (gone.filter (fun p => decide (p.state = .sealed ∧ (slotRec s (slotOf s p.seq)).write = .none))).map (fun p =>
    let r := slotRec s (slotOf s p.seq)
    { purpose := .nullWrite (slotOf s p.seq) p.seq (r.noted || atDisable) r.nullFenced, live := true
      addr := s.window.ticket.base + 64 * slotOf s p.seq, body := .write (List.replicate 64 0) })

/-- The plates have ticket slots of the ring, each its own, as queued plates do (R124). -/
def SlotsApart (s : State) (gone : List Plate) : Prop :=
  (gone.map (fun p => slotOf s p.seq)).Nodup ∧ ∀ p ∈ gone, slotOf s p.seq < s.tickets.length

/-! ## Responses -/

/-- The oldest granted own transaction that `p` accepts is `x`, still wanted; `left` is what else is granted. -/
def Awaited (s : State) (p : Purpose → Bool) (x : OwnTxn) (left : List OwnTxn) : Prop :=
  ∃ pre post, s.arb.ownOut = pre ++ x :: post ∧ left = pre ++ post ∧ (∀ y ∈ pre, p y.purpose = false) ∧
    p x.purpose = true ∧ x.live = true

/-- The state with these own transactions granted and unanswered. -/
def withOut (left : List OwnTxn) (s : State) : State := { s with arb := { s.arb with ownOut := left } }

/-- The pixel reads of a coverage record, in ascending stream number (R35, R36). -/
def pixelReads (s : State) (r : List CovEntry) : List OwnTxn :=
  (r.map (fun e =>
    let w := streamWindow s e.stream
    if e.standing = .present then
      (bursts (fetchAddr w e) (fetchLength w e)).map (fun b =>
        { purpose := .pixel e.stream, live := true, addr := b.1, body := .read b.2 })
    else [])).flatten

/-- The Order Unit holds this order of this kind ready to be executed (R178). -/
def OrderReady (s : State) (kind : Nat) (o : List Byte) : Prop := s.orders.phase = .ready o ∧ orderKind o = kind

end Sys2Proof.Machine
end

