-- ==== Sys2Proof/Certificates/Slice0/Obligations.lean ====
section
/-! DEFINITION. The statements for the provers. Each is about every state that meets its hypotheses; where a clause gives the next
state as an equation, what the equation does not name is unchanged. `refreshStatus s t` is `t`, with a status block
write prompted if a field of the status block differs from `s` (`StatusBlockKept` says so); `issueEvent` hands one EVENT
record over (`EventHanded`); `forwardPass` and `issueOwn` put a transaction behind those that wait at the arbiter. -/

open Sys2Proof Sys2Proof.Machine

/-! ## The machine -/

/-- The command at the front of the queue is run on the state with the queue's rest; on an empty queue the part idles
(the model's queue, log entry 1). -/
def Obligations.StepRunsFrontCommand : Prop :=
  (∀ (c : Instr) (rest : List Instr) (s : State),
    step { s with pending := c :: rest } = exec c { s with pending := rest }) ∧
  ∀ s : State, s.pending = [] → step s = .next s

/-- Every command takes a next state in every state, and leaves the strap pins and the queue of commands alone: the manual
describes no condition that stops the part (R173; log entries 1 and 8). -/
def Obligations.EveryCommandCompletes : Prop :=
  ∀ (c : Instr) (s : State), ∃ t, exec c s = .next t ∧ t.straps = s.straps ∧ t.pending = s.pending

/-- PIN_RESET: E, the backlash count, A, the latches, the plan, the tallies and the notices are at their reset values; the
write of the reset image is due, or, with a status block write already granted, is the pending one; held writes are forwarded
untracked behind the pass-through transactions that wait; the pass-through transactions waiting or granted stay, and other own
transactions already granted concern nothing any more (R21, R26, R28, R99, R112, R124, R172, R174, R184, R185, R186). The
model's own: the inputs, and the values of the reset state that the manual does not give (log entries 3, 4, 5, 17 and 18); held
writes are not judged (log entry 12); nobody watches the responses of the pass-through transactions kept (log entry 16); R184's
one write in flight, read together with R186 (log entry 60). -/
def Obligations.PinReset : Prop :=
  ∀ s : State,
    let granted := ∃ x ∈ s.arb.ownOut, x.live = true ∧ x.purpose = .status
    ∃ t, exec .pinReset s = .next t ∧
    t = { State.reset with
          writer := t.writer
          straps := s.straps, answers := s.answers, pending := s.pending, arb := t.arb
          enc := { e := 0, backlash := 0, phase1 := s.enc.phase1, phase2 := s.enc.phase2, invalidReported := false } } ∧
    t.asm.a = 0 ∧ t.asm.record = none ∧ t.sched.plan = none ∧ t.sched.active = false ∧ t.sched.nextPlate = 1 ∧
    t.sched.nextSeq = 1 ∧ t.blobs.nextFlaw = 1 ∧ t.tally.shiftId = 0 ∧ t.tally.shiftStart = 0 ∧ t.orders.head = 0 ∧
    (∀ n, (stream t n).state = .off ∧ (stream t n).dir = [] ∧ (stream t n).hold = none) ∧
    (∀ k, partValid t.window k = false) ∧ enabled t = false ∧ irq t = false ∧
    (∀ k, tallyOf t.tally k = 0) ∧
    t.writer = { State.reset.writer with statusPending := t.writer.statusPending } ∧ t.writer.statusOut = true ∧
    (¬ granted → t.writer.statusPending = false ∧ t.arb.ownWaiting =
      [{ purpose := .status, live := true, addr := anchorBase s + 0x800, body := .write (statusImage (statusFields t)) }]) ∧
    (granted → t.writer.statusPending = true ∧ t.arb.ownWaiting = []) ∧ t.arb.count = 0 ∧
    t.arb.ownOut.filter (·.live) = s.arb.ownOut.filter (fun x => x.live && x.purpose == .status) ∧
    t.arb.ownOut.length = s.arb.ownOut.length ∧
    t.arb.passWaiting = s.arb.passWaiting.map PassTxn.unwatched ++ heldWrites s ∧
    t.arb.passOut = s.arb.passOut.map PassTxn.unwatched

/-! ## Encoder Counter -/

/-- FORWARD_COUNT: one off the backlash count, or one onto E below its top; nothing else but what the decision at S, the
misses, the records and the status block bring about. With the scheduler inactive and no miss point reached, or E
unchanged, nothing else at all. An increase of E that reaches the miss point of a SEALED or TAKEN plate makes it MISSED in
the same act (R24, R26, R101, R135). The decision is taken before the misses, and what else falls due with E (holds, line
timeouts, lapses, assembly timeouts, cut points) comes as commands of its own: the model's reading (log entry 14;
95_what_each_step_holds). -/
def Obligations.ForwardCount : Prop :=
  ∀ s : State, s.enc.e ≤ Config.encoderTop → ∃ t, exec .forwardCount s = .next t ∧
    t.enc = { e := if s.enc.backlash = 0 then min (s.enc.e + 1) (2 ^ 48 - 1) else s.enc.e
              backlash := s.enc.backlash - 1
              phase1 := (phaseForward s.enc.phase1 s.enc.phase2).1
              phase2 := (phaseForward s.enc.phase1 s.enc.phase2).2
              invalidReported := false } ∧
    t = { s with enc := t.enc, streams := t.streams, blobs := t.blobs, sched := t.sched, tickets := t.tickets
                 cap := t.cap, tally := t.tally, writer := t.writer, arb := t.arb } ∧
    ((s.sched.active = false ∧ ∀ p ∈ s.sched.queue, missDue t p = false) ∨ t.enc.e = s.enc.e →
      t = refreshStatus s { s with enc := t.enc }) ∧
    ∀ p, s.sched.queue = [p] → p.state = .sealed ∨ p.state = .taken → s.enc.backlash = 0 → s.enc.e < Config.encoderTop →
      p.cut + p.distance + p.missWindow ≤ s.enc.e + 1 →
      evaluate { s with enc := t.enc } = { s with enc := t.enc } →
      t = refreshStatus s (plateChanged (issueEvent .cutMissed [p.num, p.seq, p.cut, if p.state = .sealed then 5 else 6]
        (modPlate p.num (fun q => { q with state := .missed }) { s with enc := t.enc })))

/-- REVERSE_COUNT: one onto the backlash count, up to 64, with ENCODER_BACKLASH at the step from 63 to 64 while the part is
enabled. INVALID_TRANSITION: no count; ENCODER_INVALID while the part is enabled and none was issued since the last
forward count (R23, R25, R26). -/
def Obligations.ReverseCountAndInvalidTransition : Prop :=
  ∀ s : State, s.enc.backlash ≤ Config.backlashTop →
    exec .reverseCount s = .next (refreshStatus s
      (let s1 := { s with enc := { s.enc with
          backlash := min (s.enc.backlash + 1) 64
          phase1 := (phaseReverse s.enc.phase1 s.enc.phase2).1
          phase2 := (phaseReverse s.enc.phase1 s.enc.phase2).2 } }
       if enabled s = true ∧ s.enc.backlash = 63 then issueEvent .encoderBacklash [] s1 else s1)) ∧
    exec .invalidTransition s = .next (refreshStatus s
      (let s1 := { s with enc := { s.enc with
          phase1 := !s.enc.phase1, phase2 := !s.enc.phase2
          invalidReported := s.enc.invalidReported || enabled s } }
       if enabled s = true ∧ s.enc.invalidReported = false then issueEvent .encoderInvalid [] s1 else s1))

/-- No command but pin reset lowers E, and none but FORWARD_COUNT raises it, by one and with no backlash to pay off (R24,
R25, R26). -/
def Obligations.OnlyForwardCountMovesE : Prop :=
  ∀ (c : Instr) (s t : State), exec c s = .next t →
    c = .pinReset ∨ t.enc.e = s.enc.e ∨ (c = .forwardCount ∧ s.enc.backlash = 0 ∧ t.enc.e = s.enc.e + 1)

/-! ## Ring Tracker -/

/-- HEADER_WRITE to a slot that is not busy, no fill being in progress: a good header with an accepted stamp begins a fill;
a bad header, or a rejected stamp, makes the slot LOST with no stamp and is reported; that no missing line is tallied for
it is the model's reading (log entry 45). The write goes on to memory (R2, R4, R5, R6, R9). A header write that ends a fill
in progress, and a write over two slots: `BusyHeaderWrite` and `ContinuationWrite`. -/
def Obligations.HeaderWriteTaken : Prop :=
  ∀ (s : State) (w : UpWrite) (n k : Nat),
    Quiet s → HeaderWriteFor s w n k → (dirEntry s n k).busy = false → (stream s n).fill = none →
    (∀ stamp count, GoodHeader (streamWindow s n).slotSize w.data stamp count → StampFits s n stamp →
      exec (.headerWrite w) s = .next (forwardPass (.write w [headerNote n k count w.data.length])
        (fillBegun n k stamp count w.data.length s))) ∧
    (∀ stamp count, GoodHeader (streamWindow s n).slotSize w.data stamp count → ¬ StampFits s n stamp →
      exec (.headerWrite w) s = .next (refreshStatus s (forwardPass (.write w [])
        (issueEvent .stampBad [n, k, stamp] (rejectSlot n k s))))) ∧
    ((∀ stamp count, ¬ GoodHeader (streamWindow s n).slotSize w.data stamp count) →
      exec (.headerWrite w) s = .next (refreshStatus s (forwardPass (.write w [])
        (issueEvent .headerBad [n, k] (rejectSlot n k s)))))

/-- HEADER_WRITE to a busy slot. Under HOLD the write is held: the timer starts at E, one held write is tallied, nothing is
forwarded or answered. Under SKIP the slot is given up and the header is taken: a READY line, and a filled one whose
completion is outstanding, with OVERRUN; a DONE slot pinned by a capture without. While a stream holds a write, a write with
its tag, whatever its address, joins the queue of sixteen places; with all of them taken it is not accepted and nothing
changes (the last is the model's form of a bus that stalls, log entry 10). A header write to a slot that is not busy, while a
fill is in progress, ends that fill first: its slot is LOST and SEQ_BREAK is issued (R4, R9, R10, R13, R14, R158). -/
def Obligations.BusyHeaderWrite : Prop :=
  (∀ (s : State) (w : UpWrite) (n k : Nat),
    Quiet s → HeaderWriteFor s w n k → (dirEntry s n k).busy = true → (streamWindow s n).policy = .hold →
    exec (.headerWrite w) s = .next (tallyAdd (.held n) 1
      (modStream n (fun r => { r with hold := some { start := s.enc.e, held := w, queue := [] } }) s))) ∧
  (∀ (s : State) (w : UpWrite) (n k stamp count : Nat),
    Quiet s → HeaderWriteFor s w n k →
    (dirEntry s n k).state = .ready ∨ ((dirEntry s n k).state = .filling ∧ (dirEntry s n k).awaiting = true) →
    (stream s n).fill = none → (streamWindow s n).policy = .skip →
    GoodHeader (streamWindow s n).slotSize w.data stamp count → StampFits s n stamp →
    exec (.headerWrite w) s = .next (refreshStatus s (forwardPass (.write w [headerNote n k count w.data.length])
      (fillBegun n k stamp count w.data.length (lineGivenUp n k s))))) ∧
  (∀ (s : State) (w : UpWrite) (n k stamp count : Nat),
    (∀ m, (stream s m).hold = none) → s.toTake = [] → HeaderWriteFor s w n k →
    (dirEntry s n k).state = .done → (dirEntry s n k).pin = true →
    (stream s n).fill = none → (streamWindow s n).policy = .skip →
    GoodHeader (streamWindow s n).slotSize w.data stamp count → StampFits s n stamp →
    exec (.headerWrite w) s = .next (finish s (forwardPass (.write w [headerNote n k count w.data.length])
      (pinAccepted n k stamp (fillBegun n k stamp count w.data.length s))))) ∧
  (∀ (s : State) (w : UpWrite) (n k stamp count : Nat) (f : Fill),
    Quiet s → HeaderWriteFor s w n k → (dirEntry s n k).busy = false → (stream s n).fill = some f →
    GoodHeader (streamWindow s n).slotSize w.data stamp count → StampFits s n stamp →
    exec (.headerWrite w) s = .next (refreshStatus s (forwardPass (.write w [headerNote n k count w.data.length])
      (fillBegun n k stamp count w.data.length (issueEvent .seqBreak [n, f.slot, stampOf s n f.slot]
        (loseSlot n f.slot (modStream n (fun r => { r with fill := none }) s))))))) ∧
  ∀ (s : State) (w : UpWrite) (n : Nat) (h : Hold),
    s.cap.copy = none → s.toTake = [] → (∀ m, releasable s m = false) →
    holderOf s w.tag = some n → (stream s n).hold = some h →
    exec (.passThrough (.write w)) s = .next
      (if h.queue.length + 1 < 16 then
        modStream n (fun r => { r with hold := some { h with queue := h.queue ++ [w] } }) s
      else s)

/-- HOLD_EXPIRED: with E at the hold's start plus the hold limit, the held write is forwarded although its slot is busy;
a READY line is given up, a DONE slot pinned by a capture loses its pin, the fill begins, the expiry is reported and
tallied, and the hold is over (R12, R14, R158). Before that position nothing changes (log entry 8). A queued header write for
another busy slot starts a new hold with a fresh timer, and the writes behind it stay queued (R11), whatever tag they bear
(log entry 11). A write let go that another stream's hold keeps back, with no place left in that hold's queue, waits, and so
does a write of its tag that arrives: the model's form of R10's Classifier that accepts no further write (log entries 10
and 56). -/
def Obligations.HoldExpired : Prop :=
  (∀ (s : State) (n : Fin 8) (k stamp count start : Nat) (w : UpWrite),
    s.cap.copy = none → s.toTake = [] → (∀ m, m ≠ n.val → (stream s m).hold = none) →
    (stream s n).hold = some { start := start, held := w, queue := [] } →
    start + (streamWindow s n).holdLimit ≤ s.enc.e →
    HeaderWriteFor s w n k → (dirEntry s n k).state = .ready → (stream s n).fill = none →
    GoodHeader (streamWindow s n).slotSize w.data stamp count → StampFits s n stamp →
    exec (.holdExpired n) s = .next (refreshStatus s (tallyAdd (.expiries n) 1 (issueEvent .holdExpired [n, k]
      (forwardPass (.write w [headerNote n k count w.data.length]) (fillBegun n k stamp count w.data.length
        (lineGivenUp n k (modStream n (fun r => { r with hold := none }) s)))))))) ∧
  (∀ (s : State) (n : Fin 8) (k stamp count start : Nat) (w : UpWrite),
    s.toTake = [] → (∀ m, m ≠ n.val → (stream s m).hold = none) →
    (stream s n).hold = some { start := start, held := w, queue := [] } →
    start + (streamWindow s n).holdLimit ≤ s.enc.e →
    HeaderWriteFor s w n k → (dirEntry s n k).state = .done → (dirEntry s n k).pin = true → (stream s n).fill = none →
    GoodHeader (streamWindow s n).slotSize w.data stamp count → StampFits s n stamp →
    exec (.holdExpired n) s = .next (finish s (tallyAdd (.expiries n) 1 (issueEvent .holdExpired [n, k]
      (forwardPass (.write w [headerNote n k count w.data.length]) (pinAccepted n k stamp
        (fillBegun n k stamp count w.data.length (modStream n (fun r => { r with hold := none }) s)))))))) ∧
  (∀ (s : State) (n : Fin 8) (h : Hold),
    (stream s n).hold = some h → s.enc.e < h.start + (streamWindow s n).holdLimit → exec (.holdExpired n) s = .next s) ∧
  (∀ (s : State) (n : Fin 8) (k j stamp count start : Nat) (w v : UpWrite) (behind : List UpWrite),
    s.cap.copy = none → s.toTake = [] → (∀ m, m ≠ n.val → (stream s m).hold = none) →
    (stream s n).hold = some { start := start, held := w, queue := v :: behind } → behind.length < 15 →
    start + (streamWindow s n).holdLimit ≤ s.enc.e →
    HeaderWriteFor s w n k → (dirEntry s n k).state = .ready → (stream s n).fill = none →
    GoodHeader (streamWindow s n).slotSize w.data stamp count → StampFits s n stamp →
    HeaderWriteFor s v n j → j ≠ k → (dirEntry s n j).busy = true → (streamWindow s n).policy = .hold →
    exec (.holdExpired n) s = .next (tallyAdd (.held n) 1
      (modStream n (fun r => { r with hold := some { start := s.enc.e, held := v, queue := behind } })
        (refreshStatus s (tallyAdd (.expiries n) 1 (issueEvent .holdExpired [n, k]
          (forwardPass (.write w [headerNote n k count w.data.length]) (fillBegun n k stamp count w.data.length
            (lineGivenUp n k (modStream n (fun r => { r with hold := none }) s)))))))))) ∧
  ∀ (s : State) (x : LetGo) (m : Nat) (h : Hold) (w : UpWrite),
    s.cap.copy = none → (∀ i, releasable s i = false) → s.toTake = [x] → x.mode = .arrive →
    (stream s x.stream).hold = none → holderOf s x.write.tag = some m → (stream s m).hold = some h →
    16 ≤ h.queue.length + 1 → w.tag = x.write.tag → exec (.passThrough (.write w)) s = .next s

/-- CONTINUATION_WRITE: a write at the next expected offset of the filled slot takes its bytes off the remaining count, and
with the count at zero the slot awaits the write's response; a write elsewhere in the ring that is no header breaks the
fill: the slot is LOST, SEQ_BREAK is issued and the write passes untracked. A write that runs on into the next slot is two
writes: here the first portion ends the fill and the second, a header, begins the next, and the response of the one write
concerns both. With no fill in progress a write that is no header passes untracked, with no event and no slot changed (R2, R5,
R6, R7; log entry 42). -/
def Obligations.ContinuationWrite : Prop :=
  (∀ (s : State) (w : UpWrite) (n k off : Nat),
    Quiet s → PlainWrite s w → streamOf s w = some n → (stream s n).fill = none →
    w.addr = slotAddr (streamWindow s n) k + off → 0 < off → off + w.data.length ≤ (streamWindow s n).slotSize →
    exec (.continuationWrite w) s = .next (forwardPass (.write w []) s)) ∧
  (∀ (s : State) (w : UpWrite) (n k off : Nat) (f : Fill),
    Quiet s → PlainWrite s w → streamOf s w = some n → (stream s n).fill = some f →
    f.slot < (stream s n).dir.length → (dirEntry s n f.slot).state = .filling →
    w.addr = slotAddr (streamWindow s n) k + off → 0 < off → 0 < w.data.length →
    off + w.data.length ≤ (streamWindow s n).slotSize →
    (k = f.slot → off = f.next → w.data.length < f.remaining →
      exec (.continuationWrite w) s = .next (forwardPass (.write w [{ stream := n, slot := k, completing := false }])
        (modStream n (fun r => { r with
          fill := some { f with remaining := f.remaining - w.data.length, next := off + w.data.length } }) s))) ∧
    (k = f.slot → off = f.next → f.remaining ≤ w.data.length →
      exec (.continuationWrite w) s = .next (forwardPass (.write w [{ stream := n, slot := k, completing := true }])
        (modDir n k (fun e => { e with awaiting := true }) (modStream n (fun r => { r with fill := none }) s)))) ∧
    (¬ (k = f.slot ∧ off = f.next) →
      exec (.continuationWrite w) s = .next (refreshStatus s (forwardPass (.write w [])
        (issueEvent .seqBreak [n, f.slot, stampOf s n f.slot]
          (loseSlot n f.slot (modStream n (fun r => { r with fill := none }) s))))))) ∧
  ∀ (s : State) (w : UpWrite) (n stamp count : Nat) (f : Fill),
    let slotSize := (streamWindow s n).slotSize
    let len := w.data.length - (slotSize - f.next)
    Quiet s → PlainWrite s w → streamOf s w = some n → (stream s n).fill = some f →
    f.slot + 1 < (stream s n).dir.length → f.slot + 1 < (streamWindow s n).slotCount →
    (dirEntry s n f.slot).state = .filling → (dirEntry s n (f.slot + 1)).busy = false →
    w.addr = slotAddr (streamWindow s n) f.slot + f.next → 0 < f.next → f.next < slotSize → f.remaining ≤ slotSize - f.next →
    0 < len → len ≤ slotSize →
    GoodHeader slotSize (w.data.drop (slotSize - f.next)) stamp count → StampFits s n stamp →
    exec (.continuationWrite w) s = .next (forwardPass
      (.write w [{ stream := n, slot := f.slot, completing := true }, headerNote n (f.slot + 1) count len])
      (fillBegun n (f.slot + 1) stamp count len
        (modDir n f.slot (fun e => { e with awaiting := true }) (modStream n (fun r => { r with fill := none }) s))))

/-- COMPLETING_WRITE_RESPONSE: the oldest granted write of the tag is answered upstream unchanged. With OKAY for every write
of the fill the slot becomes READY. On a RUNNING stream it stays so while its line lies ahead of A, and is DONE at once
otherwise; a LAPSED stream goes to RUNNING first, with RESUMED; on a SEEDING one without a seed fetch it is the seed slot:
its span is read, or, being short, it and every READY slot is DONE; with a seed fetch in flight it stays READY. With an
error for any write of the fill it becomes LOST, one missing line, and WRITE_FAILED is issued. The response of a write that
is not the last of its fill changes no slot's state (R7, R8, R16, R17, R18, R36, R39). That the completing write's response
decides, should another write of the fill, with another source tag, be unanswered, is the model's choice (log entry 57). -/
def Obligations.CompletingWriteResponse : Prop :=
  (∀ (s : State) (tag n k : Nat) (w : UpWrite) (pre post : List PassTxn),
    Quiet s → s.arb.passOut = pre ++ .write w [{ stream := n, slot := k, completing := true }] :: post → w.tag = tag →
    (∀ x ∈ pre, x.isWrite tag = false) → k < (stream s n).dir.length →
    let wind := streamWindow s n
    let ok := { s with arb := { s.arb with passOut := pre ++ post }, answers := s.answers ++ [.write tag true] }
    let readied := modDir n k (fun e => { e with state := .ready, awaiting := false, failed := false })
      (modStream n (fun r => { r with lastReady := s.enc.e }) ok)
    let resumed := issueEvent .resumed [n, k, stampOf s n k]
      (modStream n (fun r => { r with state := .running, runningSince := s.enc.e }) readied)
    let passed := modDir n k (fun e => { e with state := .done })
    ((dirEntry s n k).failed = false → (stream s n).state = .running →
      (s.asm.a + wind.stagger < stampOf s n k → exec (.completingWriteResponse tag true) s = .next readied) ∧
      (stampOf s n k ≤ s.asm.a + wind.stagger →
        exec (.completingWriteResponse tag true) s = .next (passed readied))) ∧
    ((dirEntry s n k).failed = false → (stream s n).state = .lapsed →
      (s.asm.a + wind.stagger < stampOf s n k →
        exec (.completingWriteResponse tag true) s = .next (refreshStatus s resumed)) ∧
      (stampOf s n k ≤ s.asm.a + wind.stagger →
        exec (.completingWriteResponse tag true) s = .next (refreshStatus s (passed resumed)))) ∧
    ((dirEntry s n k).failed = false → (stream s n).state = .seeding →
      ((stream s n).seed.isSome = true → exec (.completingWriteResponse tag true) s = .next readied) ∧
      ((stream s n).seed = none → wind.winStop ≤ (dirEntry s n k).pixels →
        exec (.completingWriteResponse tag true) s = .next
          { modStream n (fun r => { r with seed := some { slot := k, stamp := stampOf s n k } }) readied with
            arb := { ok.arb with ownWaiting := s.arb.ownWaiting ++
              (bursts (slotAddr wind k + 32 + wind.winStart) (wind.winStop - wind.winStart)).map (fun b =>
                { purpose := .seed n, live := true, addr := b.1, body := .read b.2 }) } }) ∧
      ((stream s n).seed = none → (dirEntry s n k).pixels < wind.winStop →
        exec (.completingWriteResponse tag true) s = .next (modStream n (fun r => { r with
          dir := r.dir.map (fun e => if e.state = .ready then { e with state := .done } else e) }) readied))) ∧
    ((dirEntry s n k).failed = true → exec (.completingWriteResponse tag true) s = .next (refreshStatus s
      (issueEvent .writeFailed [n, k, stampOf s n k] (loseSlot n k ok)))) ∧
    exec (.completingWriteResponse tag false) s = .next (refreshStatus s
      (issueEvent .writeFailed [n, k, stampOf s n k] (loseSlot n k
        (modDir n k (fun e => { e with failed := true })
          { s with arb := { s.arb with passOut := pre ++ post }, answers := s.answers ++ [.write tag false] }))))) ∧
  ∀ (s : State) (tag n k : Nat) (w : UpWrite) (pre post : List PassTxn) (okay : Bool),
    Quiet s → s.arb.passOut = pre ++ .write w [{ stream := n, slot := k, completing := false }] :: post → w.tag = tag →
    (∀ x ∈ pre, x.isWrite tag = false) →
    let answered := { s with arb := { s.arb with passOut := pre ++ post }, answers := s.answers ++ [.write tag okay] }
    exec (.completingWriteResponse tag okay) s =
      .next (if okay then answered else modDir n k (fun e => { e with failed := true }) answered)

/-- LINE_TIMEOUT: with E at the fill's start plus the line timeout the filled slot is LOST, one missing line, and
LINE_TIMEOUT is issued; under RECOVER that is all, otherwise the stream then goes to FAULTED with STREAM_FAULTED: each READY
slot is DONE, each slot whose completion is outstanding is LOST, one missing line each, every pin is cleared as a FAULTED
stream's segments are unavailable, and the other streams are as they were. That a seed fetch in flight then concerns nothing
any more is the model's choice (log entry 26): R20 and R39 say it of STREAM STOP. STREAM_LAPSED: a RUNNING stream that has
been silent for the silence limit goes to LAPSED (R15, R17, R18, R33, R39, R160). -/
def Obligations.LineTimeoutAndLapse : Prop :=
  (∀ (s : State) (n : Fin 8) (f : Fill),
    Quiet s → (stream s n).fill = some f → f.start + (streamWindow s n).lineTimeout ≤ s.enc.e →
    ((streamWindow s n).recover = true →
      exec (.lineTimeout n) s = .next (refreshStatus s (issueEvent .lineTimeout [n, f.slot, stampOf s n f.slot]
        (loseSlot n f.slot (modStream n (fun r => { r with fill := none }) s))))) ∧
    ((streamWindow s n).recover = false →
      let timedOut := issueEvent .lineTimeout [n, f.slot, stampOf s n f.slot]
        (loseSlot n f.slot (modStream n (fun r => { r with fill := none }) s))
      let awaited := fun j => (dirEntry s n j).state = .filling ∧ (dirEntry s n j).awaiting = true
      ∃ u, exec (.lineTimeout n) s = .next (refreshStatus s (issueEvent .streamFaulted [n] u)) ∧
        u = { timedOut with streams := u.streams, tally := u.tally, arb := u.arb } ∧
        (∃ dir, stream u n = { stream s n with
          state := .faulted, fill := none, hold := none, seed := none, episode := false, dir := dir }) ∧
        (stream u n).dir.length = (stream s n).dir.length ∧
        (∀ j < (stream s n).dir.length,
          ((j = f.slot ∨ awaited j) → dirEntry u n j = { dirEntry s n j with
            state := .lost, pin := false, awaiting := false, failed := false }) ∧
          (j ≠ f.slot → ¬ awaited j → (dirEntry s n j).state = .ready →
            dirEntry u n j = { dirEntry s n j with state := .done, pin := false }) ∧
          (j ≠ f.slot → ¬ awaited j → (dirEntry s n j).state ≠ .ready →
            dirEntry u n j = { dirEntry s n j with pin := false })) ∧
        (∀ m, m ≠ n.val → stream u m = stream s m) ∧
        (s.tally.counts.length = tallyPlaces → tallyOf u.tally (.missing n) = min (tallyOf s.tally (.missing n) + 1 +
          ((List.range (stream s n).dir.length).filter (fun j => decide (j ≠ f.slot ∧ awaited j))).length) 65535) ∧
        ∀ x ∈ u.arb.ownWaiting ++ u.arb.ownOut, x.purpose = .seed n → x.live = false)) ∧
  ∀ (s : State) (n : Fin 8),
    Quiet s → (stream s n).state = .running →
    max (stream s n).runningSince (stream s n).lastReady + s.window.header.silence ≤ s.enc.e →
    exec (.streamLapsed n) s = .next (refreshStatus s (issueEvent .streamLapsed [n]
      (modStream n (fun r => { r with state := .lapsed, episode := false }) s)))

/-- SEED_FETCH_DONE: with every burst OKAY the stream goes to RUNNING, the seed stamp becomes its entry stamp, the seed slot
is DONE, and each column of its span is loaded from its seed pixel; with an error the stream stays as it is, with no
READY slot, and no column changes (R16, R39, R45). That the responses are those of the present fetch, abandoned reads of the
stream's earlier seed fetches being passed over, is the model's choice (log entry 61). -/
def Obligations.SeedFetchDone : Prop :=
  ∀ (s : State) (n : Fin 8) (f : SeedFetch) (results : List ReadResult) (txns : List OwnTxn),
    Quiet s → (stream s n).seed = some f → allGranted (· == .seed n) s = some txns → resultsFit txns results = true →
    (results.all (·.okay) = true → ∃ t, exec (.seedFetchDone n results) s = .next t ∧
      (stream t n).state = .running ∧ (stream t n).entryStamp = some f.stamp ∧ (stream t n).runningSince = s.enc.e ∧
      (stream t n).seed = none ∧
      ((dirEntry s n f.slot).stamp = some f.stamp → (dirEntry s n f.slot).state = .ready →
        (dirEntry t n f.slot).state = .done) ∧
      (∀ m, m ≠ n.val → stream t m = stream s m) ∧
      (∀ (c : Nat) (x : Column), s.det.columns[c]? = some x →
        t.det.columns[c]? = some (if spanFirst (streamWindow s n) ≤ c then
          match (spanBytes (slotAddr (streamWindow s n) f.slot + 32 + (streamWindow s n).winStart)
              ((streamWindow s n).winStop - (streamWindow s n).winStart) results)[c - spanFirst (streamWindow s n)]? with
          | some p => { ref := 256 * p.toNat, age := 0, streak := false, clearRun := 0 }
          | none => x
        else x)) ∧
      t = { s with streams := t.streams, det := t.det, tally := t.tally, writer := t.writer, arb := t.arb }) ∧
    (results.all (·.okay) = false → ∃ t, exec (.seedFetchDone n results) s = .next t ∧
      (stream t n).state = (stream s n).state ∧ (stream t n).seed = none ∧
      (∀ e ∈ (stream t n).dir, e.state ≠ .ready) ∧ (∀ m, m ≠ n.val → stream t m = stream s m) ∧
      t = { s with streams := t.streams, arb := t.arb })

/-! ## Line Assembler -/

/-- LINE_ASSEMBLY: line P = A + 1 is assembled when P ≤ E, a stream is RUNNING and none stands WAITING: its coverage record
is formed, its pixel reads wait at the arbiter in ascending stream number, and every stream in service is out of its
episode. ASSEMBLY_TIMEOUT: with E at P + 63 + T the line is assembled whoever waits; the streams that stand WAITING are in
their episode from then on, and one that was not in it before sets FAULT; the record's pixel reads then wait at the arbiter
behind what the events bring to the log. A stream's standing is that of the first row of R30 that fits; the record has one entry
for each stream that is not OFF, in ascending order; a PRESENT entry's fetch span is its window pixels up to the pixel count, and
its bursts read that span in whole beats of 16 bytes, in ascending order, each of at most 256 bytes and within 4 KiB (R29 to
R36). -/
def Obligations.LineAssembled : Prop :=
  (∀ (s : State) (n l : Nat),
    let r := stream s n
    let needed := l + (streamWindow s n).stagger
    let holds := fun (e : DirEntry) (st : SlotState) => e.stamp = some needed ∧ e.state = st
    (r.state ≠ .running → standing s n l = (.uncovered, 0)) ∧
    (∀ x, r.state = .running → r.entryStamp = some x → needed ≤ x → standing s n l = (.seeded, 0)) ∧
    (r.state = .running → (∀ x, r.entryStamp = some x → x < needed) →
      (∀ pre e post, r.dir = pre ++ e :: post → holds e .ready → (∀ y ∈ pre, ¬ holds y .ready) →
        standing s n l = (.present, pre.length)) ∧
      ((∀ e ∈ r.dir, ¬ holds e .ready) →
        ((∃ e ∈ r.dir, holds e .filling) ∨ (∀ x, r.lastStamp = some x → x < needed) → standing s n l = (.waiting, 0)) ∧
        (∀ x, (∀ e ∈ r.dir, ¬ holds e .filling) → r.lastStamp = some x → needed ≤ x →
          standing s n l = (.missing, 0))))) ∧
  (∀ (s : State) (l : Nat),
    (∀ e, e ∈ coverageRecord s l ↔ ∃ n < 8, (stream s n).state ≠ .off ∧ e =
      (let w := streamWindow s n
       { stream := n, first := w.colBase, last := w.colBase + (w.winStop - w.winStart) - 1
         standing := (standing s n l).1, slot := (standing s n l).2, stamp := l + w.stagger
         pixels := (dirEntry s n (standing s n l).2).pixels, stopped := false })) ∧
    ((coverageRecord s l).map (·.stream)).Pairwise (· < ·)) ∧
  (∀ (w : StreamWindow) (e : CovEntry),
    fetchAddr w e = w.base + e.slot * w.slotSize + 32 + w.winStart ∧
    fetchLength w e = min e.pixels w.winStop - w.winStart) ∧
  (∀ addr len : Nat, bursts addr 0 = [] ∧
    (0 < len → ((bursts addr len).map (fun b => List.range' b.1 b.2)).flatten =
      List.range' (addr / 16 * 16) ((addr + len + 15) / 16 * 16 - addr / 16 * 16)) ∧
    ∀ b ∈ bursts addr len, b.1 % 16 = 0 ∧ b.2 % 16 = 0 ∧ 0 < b.2 ∧ b.2 ≤ 256 ∧ b.1 / 4096 = (b.1 + b.2 - 1) / 4096) ∧
  ∀ s : State, enabled s = true → s.asm.record = none →
    ((∃ n < 8, (stream s n).state = .running) → s.asm.a + 1 ≤ s.enc.e →
      (∀ e ∈ coverageRecord s (s.asm.a + 1), e.standing ≠ .waiting) →
      ∃ t, exec .lineAssembly s = .next t ∧
        t = { s with
              asm := { s.asm with record := some (coverageRecord s (s.asm.a + 1)) }
              streams := t.streams
              arb := { s.arb with ownWaiting := s.arb.ownWaiting ++ pixelReads s (coverageRecord s (s.asm.a + 1)) } } ∧
        ∀ n < 8, stream t n =
          if (stream s n).state = .off then stream s n else { stream s n with episode := false }) ∧
    (s.asm.a + 1 + 63 + assemblyTimeout s ≤ s.enc.e →
      ∃ t logs, exec .assemblyTimeout s = .next (refreshStatus s t) ∧
        t = { s with
              asm := { s.asm with record := some (coverageRecord s (s.asm.a + 1)) }
              streams := t.streams, tally := t.tally, writer := t.writer
              arb := { s.arb with
                ownWaiting := s.arb.ownWaiting ++ logs ++ pixelReads s (coverageRecord s (s.asm.a + 1)) } } ∧
        (∀ x ∈ logs, x.purpose = .log) ∧
        (∀ n < 8, stream t n =
          if (stream s n).state = .off then stream s n
          else { stream s n with episode := decide ((standing s n (s.asm.a + 1)).1 = .waiting) }) ∧
        ((∃ n < 8, (stream s n).state ≠ .off ∧ (standing s n (s.asm.a + 1)).1 = .waiting ∧
          (stream s n).episode = false) → t.writer.notices.fault = true))

/-- PIXEL_FETCH_DONE: with every burst of the line's fetch answered, FETCH_ERROR is issued for each failed fetch but that of a
stream stopped before it failed; the line is handed over, the Detection Unit takes its pass under the live lane map, the
Blob Tracker its act, and the line is completed: A is P and no line is in assembly, a slot that the line used is DONE, and so
is every READY slot of a RUNNING stream behind it. The lane map, the grade table, the window cache, the latches and the
encoder are as before. Each column handed over is outside every entry's span, or covered by the pixel of its entry, or
uncovered: an entry that does not stand PRESENT, was stopped, or had a burst fail has no pixels (R8, R35 to R38, R40, R41, R46,
R47, R64). That a fetch failed before its stream was stopped is an
operand of the command (log entry 50), and a LAPSED stream's slots behind the line are DONE too (log entry 51). That all this
is one act, and the order of its parts, is the model's reading (log entries 23, 24 and 25). The order of several FETCH_ERRORs is
the model's choice (log entry 59), and so is the clause that takes the abandoned pixel reads still granted off the arbiter, the
responses being those of the line's own fetch alone (log entry 61). -/
def Obligations.PixelFetchDone : Prop :=
  (∀ (s : State) (r : List CovEntry) (results : List ReadResult) (early : List (Fin 8)) (txns : List OwnTxn),
    Quiet s → s.asm.record = some r → allGranted Purpose.isPixel s = some txns → resultsFit txns results = true →
    (∀ o, s.orders.phase ≠ .laneWait o) →
    let l := s.asm.a + 1
    let pass := linePass s.lanes ((List.range s.det.columns.length).map
      (lineColumn (r.map (fun e => (e, entryPixels s txns results e))))) s.det
    let handed := r.foldl (fun s e => if fetchReported early txns results e = true
        then issueEvent .fetchError [e.stream, e.slot, e.stamp, l] s else s)
      { clearOut Purpose.isPixel s with asm := { s.asm with analysing := true } }
    ∃ t, exec (.pixelFetchDone { bursts := results, early := early }) s = .next t ∧
      t = finish s (completeLine l r (blobAct l pass.runs pass.overflow pass.uncovered (takePass l pass handed))) ∧
      t.asm = { a := l, record := none, analysing := false } ∧
      t.det = { columns := pass.columns, streakCounts := pass.counts, runs := pass.runs } ∧
      (∀ e ∈ r, e.standing = .present → e.stopped = false → (dirEntry s e.stream e.slot).state = .ready →
        (dirEntry s e.stream e.slot).stamp = some e.stamp → (dirEntry t e.stream e.slot).state = .done) ∧
      (∀ n < 8, (stream s n).state = .running ∨ (stream s n).state = .lapsed → ∀ k x,
        (dirEntry s n k).state = .ready → (dirEntry s n k).stamp = some x → x < l + (streamWindow s n).stagger →
        (dirEntry t n k).state = .done) ∧
      t.enc = s.enc ∧ t.lanes = s.lanes ∧ t.grades = s.grades ∧ t.window = s.window ∧ t.anchor = s.anchor) ∧
  (∀ (early : List (Fin 8)) (txns : List OwnTxn) (results : List ReadResult) (e : CovEntry),
    fetchReported early txns results e = true ↔
      e.standing = .present ∧ (∃ x ∈ txns.zip results, x.1.purpose = .pixel e.stream ∧ x.2.okay = false) ∧
        (e.stopped = false ∨ ∃ n ∈ early, n.val = e.stream)) ∧
  (∀ (s : State) (txns : List OwnTxn) (results : List ReadResult) (e : CovEntry),
    let w := streamWindow s e.stream
    let own := (txns.zip results).filter (fun x => x.1.purpose == .pixel e.stream)
    let usable := e.standing = .present ∧ e.stopped = false ∧ ∀ x ∈ own, x.2.okay = true
    (¬ usable → entryPixels s txns results e = []) ∧
    (usable → entryPixels s txns results e = (((own.map (fun x => x.2.data)).flatten).drop
      ((w.base + e.slot * w.slotSize + 32 + w.winStart) % 16)).take (min e.pixels w.winStop - w.winStart))) ∧
  ∀ (entries : List (CovEntry × List Byte)) (c : Nat),
    let spans := fun x : CovEntry × List Byte => x.1.first ≤ c ∧ c ≤ x.1.last
    ((∀ x ∈ entries, ¬ spans x) → lineColumn entries c = .outside) ∧
    ∀ pre x post, entries = pre ++ x :: post → (∀ y ∈ pre, ¬ spans y) → spans x →
      lineColumn entries c = match x.2[c - x.1.first]? with
        | some p => .covered p.toNat
        | none => .uncovered

/-! ## Detection Unit -/

/-- R48: the reference level. -/
def Obligations.ReferenceLevel : Prop :=
  ∀ r : Nat, r ≤ 65280 →
    refLevel r = (r + 128) / 256 ∧ 256 * refLevel r ≤ r + 128 ∧ r < 256 * refLevel r + 128 ∧ refLevel r ≤ 255 ∧
      (r ≤ 127 → refLevel r = 0) ∧
      ∀ (m : Profile) (p : Nat) (c : Column), c.ref = r → c.streak = false →
        ((stepColumn m (.covered p) c).2 = .clear ↔ pixelClass m ((p : Int) - refLevel r) = .clear)

/-- R49: the contrast of a pixel and its class, the same in NORMAL and in STREAK columns: a flagged pixel of a NORMAL column
carries its magnitude to the runs, and in a STREAK column the class drives the clear-run. -/
def Obligations.PixelClasses : Prop :=
  ∀ (m : Profile) (p : Nat) (c : Column), p ≤ 255 → c.ref ≤ 65280 → 1 ≤ m.dark → m.dark ≤ 255 → 1 ≤ m.bright →
    m.bright ≤ 255 →
    (let d := contrast c.ref p
     d = (p : Int) - refLevel c.ref ∧ -255 ≤ d ∧ d ≤ 255 ∧
      (pixelClass m d = .dark ↔ d ≤ -(m.dark : Int)) ∧ (pixelClass m d = .bright ↔ (m.bright : Int) ≤ d) ∧
      (pixelClass m d = .clear ↔ -(m.dark : Int) < d ∧ d < m.bright) ∧
      (p = refLevel c.ref → pixelClass m d = .clear) ∧
      (p = 0 → refLevel c.ref = 255 → pixelClass m d = .dark) ∧
      (p = 255 → refLevel c.ref = 0 → pixelClass m d = .bright) ∧
      (pixelClass m d = .dark → m.dark ≤ d.natAbs ∧ d.natAbs ≤ 255) ∧
      (pixelClass m d = .bright → m.bright ≤ d.natAbs ∧ d.natAbs ≤ 255) ∧
      (c.streak = false → pixelClass m d = .dark → (stepColumn m (.covered p) c).2 = .flagged .dark d.natAbs) ∧
      (c.streak = false → pixelClass m d = .bright → (stepColumn m (.covered p) c).2 = .flagged .bright d.natAbs) ∧
      (c.streak = true → (stepColumn m (.covered p) c).2 = .broken true) ∧
      (c.streak = true → pixelClass m d ≠ .clear → (stepColumn m (.covered p) c).1.clearRun = 0) ∧
      (c.streak = true → pixelClass m d = .clear → c.clearRun < 63 →
        (stepColumn m (.covered p) c).1.clearRun = c.clearRun + 1))

/-- The step of a column. A column that is not covered keeps its values. In a NORMAL column a CLEAR pixel moves the reference
and ends the flag age, and a flagged one counts the age, into STREAK at the streak limit. In a STREAK column the reference
always moves, and the 64th CLEAR line ends the streak. The reference moves by the difference over 2^k, truncated: it
stays between its old value and the pixel's, and does not move for a difference below 2^k. The pass takes this step of every
column under its profile; a group is uncovered if a column of it is, and its STREAK count stays the number of its columns in
STREAK. With the pass taken, a count that leaves zero issues STREAK_ON and one that falls to zero STREAK_OFF, in ascending
group number (R42, R44, R47, R50, R51, R53 to R55, R85). -/
def Obligations.ColumnStep : Prop :=
  (∀ (m : Profile) (p : Nat) (c : Column), p ≤ 255 → ColumnInv c → m.streakLimit ≤ 4095 →
    stepColumn m .outside c = (c, .broken false) ∧ stepColumn m .uncovered c = (c, .broken true) ∧
    (c.streak = false → pixelClass m (contrast c.ref p) = .clear →
      (stepColumn m (.covered p) c).1 = { c with ref := refStep m.shift c.ref p, age := 0 }) ∧
    (c.streak = false → pixelClass m (contrast c.ref p) ≠ .clear → c.age + 1 < m.streakLimit →
      (stepColumn m (.covered p) c).1 = { c with age := c.age + 1 }) ∧
    (c.streak = false → pixelClass m (contrast c.ref p) ≠ .clear → m.streakLimit ≤ c.age + 1 →
      (stepColumn m (.covered p) c).1 = { c with age := 0, streak := true, clearRun := 0 }) ∧
    (c.streak = true → pixelClass m (contrast c.ref p) = .clear → c.clearRun < 63 →
      (stepColumn m (.covered p) c).1 = { c with ref := refStep m.shift c.ref p, clearRun := c.clearRun + 1 }) ∧
    (c.streak = true → pixelClass m (contrast c.ref p) = .clear → 63 ≤ c.clearRun →
      (stepColumn m (.covered p) c).1 =
        { c with ref := refStep m.shift c.ref p, streak := false, clearRun := 0 }) ∧
    (c.streak = true → pixelClass m (contrast c.ref p) ≠ .clear →
      (stepColumn m (.covered p) c).1 = { c with ref := refStep m.shift c.ref p, clearRun := 0 }) ∧
    (c.ref ≤ 256 * p → refStep m.shift c.ref p = c.ref + (256 * p - c.ref) / 2 ^ m.shift) ∧
    (256 * p ≤ c.ref → refStep m.shift c.ref p = c.ref - (c.ref - 256 * p) / 2 ^ m.shift) ∧
    min c.ref (256 * p) ≤ refStep m.shift c.ref p ∧ refStep m.shift c.ref p ≤ max c.ref (256 * p)) ∧
  (∀ (lanes : LaneMap) (line : List ColIn) (d : Detection), line.length = d.columns.length →
    let pass := linePass lanes line d
    let steps := (line.zip d.columns).mapIdx (fun c x => stepColumn (profile lanes (columnProfile lanes c)) x.1 x.2)
    let streaks := fun (cs : List Column) (g : Nat) => ((cs.drop (256 * g)).take 256).countP (·.streak)
    pass.columns = steps.map (·.1) ∧ pass.uncovered.length = 64 ∧
    (∀ g < 64, pass.uncovered.getD g false = true ↔ ∃ c x, c / 256 = g ∧ steps[c]? = some x ∧ x.2 = .broken true) ∧
    pass.counts.length = d.streakCounts.length ∧
    ∀ g, d.streakCounts[g]? = some (streaks d.columns g) → pass.counts[g]? = some (streaks pass.columns g)) ∧
  (∀ (m : LaneMap) (c : Nat),
    (m.groups.getD (c / 256) none = none → columnProfile m c = 0) ∧
    ∀ label d, m.groups[c / 256]? = some (some label) → m.lanes[label - 1]? = some d → columnProfile m c = d.profile) ∧
  ∀ (l : Nat) (pass : LinePass) (s : State), s.det.streakCounts.length = 64 → pass.counts.length = 64 →
    takePass l pass s = (List.range 64).foldl (fun t g =>
      let before := s.det.streakCounts.getD g 0
      let after := pass.counts.getD g 0
      if before = 0 ∧ 0 < after then issueEvent .streakOn [g, l, after] t
      else if 0 < before ∧ after = 0 then issueEvent .streakOff [g, l, after] t
      else t) { s with det := { columns := pass.columns, streakCounts := pass.counts, runs := pass.runs } }

/-- Runs: the runs of a line are maximal sequences of adjacent columns flagged with one polarity, each flagged column lies
in a run, and a run's peak bounds the magnitudes of its pixels (R56, R57). Of a line's runs those shorter than the min run of
their first column's profile are dropped; the first 256 others are kept, and the rest overflow (R58, R59). A run taken into the blob table: which entries
qualify; with none, it opens a blob in the first FREE entry, or is dropped; it joins the OPEN blob that qualifies; two that
do are merged, the lower number surviving, and a STUB that qualifies beside an OPEN blob is freed and makes it a
continuation; a STUB alone becomes a new blob that continues it (R65 to R68, R70; log entry 44). -/
def Obligations.RunsAreMaximal : Prop :=
  (∀ marks : List Mark,
    (∀ r ∈ formRuns 0 none marks,
      r.c0 ≤ r.c1 ∧
      (∀ c, r.c0 ≤ c → c ≤ r.c1 → ∃ g, marks[c]? = some (.flagged r.polarity g) ∧ g ≤ r.peak) ∧
      (∀ g, marks[r.c1 + 1]? ≠ some (.flagged r.polarity g)) ∧
      ∀ c g, c + 1 = r.c0 → marks[c]? ≠ some (.flagged r.polarity g)) ∧
    ∀ c pol g, marks[c]? = some (.flagged pol g) →
      ∃ r ∈ formRuns 0 none marks, r.polarity = pol ∧ r.c0 ≤ c ∧ c ≤ r.c1) ∧
  (∀ (lanes : LaneMap) (line : List ColIn) (d : Detection), line.length = d.columns.length →
    let marks := (line.zip d.columns).mapIdx (fun c x => (stepColumn (profile lanes (columnProfile lanes c)) x.1 x.2).2)
    let kept := (formRuns 0 none marks).filter (fun r =>
      decide ((profile lanes (columnProfile lanes r.c0)).minRun ≤ r.c1 + 1 - r.c0))
    (linePass lanes line d).runs = kept.take 256 ∧ (linePass lanes line d).overflow = kept.drop 256) ∧
  ∀ (m : LaneMap) (l : Nat) (r : Run) (j : JoinState),
    let fresh : Blob :=
      { num := j.nextBlob, polarity := r.polarity, y0 := l, last := l - 1, c0 := r.c0, c1 := r.c1, prev := none
        cur := some (r.c0, r.c1), area := min (r.c1 + 1 - r.c0) 16777215, peak := r.peak, sum := min r.sum (2 ^ 32 - 1)
        gap := (profile m (columnProfile m r.c0)).gap, profile := columnProfile m r.c0, continuation := false }
    let others := fun es : List BlobEntry => ∀ e ∈ es, qualifies l r e = false
    (∀ e, qualifies l r e = true ↔
      (∃ b h, e = .opened b ∧ b.prev = some h ∧ b.polarity = r.polarity ∧ l ≤ b.last + b.gap + 1 ∧ h.1 ≤ r.c1 + 1 ∧
        r.c0 ≤ h.2 + 1) ∨
      ∃ t, e = .stub t ∧ t.polarity = r.polarity ∧ l ≤ t.last + t.gap + 1 ∧ t.prev.1 ≤ r.c1 + 1 ∧ r.c0 ≤ t.prev.2 + 1) ∧
    (∀ pre post, j.table = pre ++ .free :: post → .free ∉ pre → others (pre ++ post) →
      takeRun m l r j = { j with nextBlob := j.nextBlob + 1, table := pre ++ .opened fresh :: post }) ∧
    (.free ∉ j.table → others j.table → takeRun m l r j = { j with dropped := j.dropped ++ [r] }) ∧
    (∀ pre post b, j.table = pre ++ .opened b :: post → qualifies l r (.opened b) = true → others (pre ++ post) →
      takeRun m l r j = { j with table := pre ++ .opened { b with
          cur := match b.cur with
            | some h => some (min h.1 r.c0, max h.2 r.c1)
            | none => some (r.c0, r.c1)
          c0 := min b.c0 r.c0, c1 := max b.c1 r.c1, area := min (b.area + (r.c1 + 1 - r.c0)) 16777215
          sum := min (b.sum + r.sum) (2 ^ 32 - 1), peak := max b.peak r.peak } :: post }) ∧
    (∀ pre mid post a b, a.num < b.num → qualifies l r (.opened a) = true → qualifies l r (.opened b) = true →
      others (pre ++ mid ++ post) →
      let survivor := BlobEntry.opened (joinRun r (mergedBlob a b))
      (j.table = pre ++ .opened a :: (mid ++ .opened b :: post) →
        takeRun m l r j = { j with table := pre ++ survivor :: (mid ++ .free :: post) }) ∧
      (j.table = pre ++ .opened b :: (mid ++ .opened a :: post) →
        takeRun m l r j = { j with table := pre ++ .free :: (mid ++ survivor :: post) })) ∧
    (∀ pre mid post b t, qualifies l r (.opened b) = true → qualifies l r (.stub t) = true →
      others (pre ++ mid ++ post) →
      let survivor := BlobEntry.opened (joinRun r { b with continuation := true })
      (j.table = pre ++ .opened b :: (mid ++ .stub t :: post) →
        takeRun m l r j = { j with table := pre ++ survivor :: (mid ++ .free :: post) }) ∧
      (j.table = pre ++ .stub t :: (mid ++ .opened b :: post) →
        takeRun m l r j = { j with table := pre ++ .free :: (mid ++ survivor :: post) })) ∧
    ∀ pre post t, j.table = pre ++ .stub t :: post → qualifies l r (.stub t) = true → others (pre ++ post) →
      takeRun m l r j = { j with
        nextBlob := j.nextBlob + 1
        table := pre ++ .opened { fresh with last := t.last, prev := some t.prev, continuation := true } :: post }

/-! ## Lane Map -/

/-- LANE_ASSIGN at a line boundary: each listed group takes the label and the descriptor takes the kind and the profile,
unless a check of R87 fails, in which case the map stays and the order completes with the code of the first that does
(R86, R87, R88). -/
def Obligations.LaneAssign : Prop :=
  ∀ (s : State) (o : List Byte), OrderReady s kindLaneAssign o → s.asm.analysing = false → s.lanes.groups.length = 64 →
    let label := fieldAt o 0x10 1
    let kind := laneKindOf (fieldAt o 0x11 1)
    let prof := fieldAt o 0x12 1
    let count := fieldAt o 0x13 1
    let listed := (List.range count).map (fun i => fieldAt o (0x14 + i) 1)
    let inRange := 1 ≤ label ∧ label ≤ 15 ∧ kind ≠ none ∧ prof ≤ 7 ∧ 1 ≤ count ∧ count ≤ 8 ∧ ∀ g ∈ listed, g ≤ 63
    let free := ∀ g ∈ listed, groupLabel s.lanes g = none
    let held := fun g : Nat => g ∈ listed ∨ groupLabel s.lanes g = some label
    let run := ∀ i j k, i < j → j < k → held i → held k → held j
    (¬ inRange → exec .laneAssign s = .next (complete .range s)) ∧
    (inRange → ¬ free → exec .laneAssign s = .next (complete .conflict s)) ∧
    (inRange → free → ¬ run → exec .laneAssign s = .next (complete .noncontiguous s)) ∧
    (inRange → free → run → ∃ m, exec .laneAssign s = .next (complete .done { s with lanes := m }) ∧
      m.profiles = s.lanes.profiles ∧
      (∀ g, groupLabel m g = if g ∈ listed then some label else groupLabel s.lanes g) ∧
      ∀ k ∈ kind, m.lanes = s.lanes.lanes.set (label - 1) { kind := k, profile := prof })

/-- LANE_RELEASE at a line boundary: the label's groups become FREE. PROFILE_LOAD: the profile is replaced whole, each value
moved into its range; CLAMPED and PROFILE_CLAMPED if one was moved, with a mark for each value moved. A label or an index out of range, or a label not in
use, changes nothing (R86, R89, R93, R95). -/
def Obligations.LaneReleaseAndProfileLoad : Prop :=
  (∀ (s : State) (o : List Byte), OrderReady s kindLaneRelease o → s.asm.analysing = false →
    let label := fieldAt o 0x10 1
    (¬ (1 ≤ label ∧ label ≤ 15) → exec .laneRelease s = .next (complete .range s)) ∧
    (1 ≤ label → label ≤ 15 → some label ∉ s.lanes.groups → exec .laneRelease s = .next (complete .unknownLabel s)) ∧
    (1 ≤ label → label ≤ 15 → some label ∈ s.lanes.groups →
      ∃ m, exec .laneRelease s = .next (complete .done { s with lanes := m }) ∧
        m.lanes = s.lanes.lanes ∧ m.profiles = s.lanes.profiles ∧
        ∀ g, groupLabel m g = if groupLabel s.lanes g = some label then none else groupLabel s.lanes g)) ∧
  ∀ (s : State) (o : List Byte), OrderReady s kindProfileLoad o → s.asm.analysing = false →
    let index := fieldAt o 0x10 1
    let p : Profile :=
      { dark := min (max (fieldAt o 0x11 1) 1) 255, bright := min (max (fieldAt o 0x12 1) 1) 255
        minRun := min (max (fieldAt o 0x13 1) 1) 16, shift := min (max (fieldAt o 0x14 1) 4) 10
        streakLimit := min (max (fieldAt o 0x16 2) 64) 4095, gap := min (fieldAt o 0x15 1) 7
        minArea := min (max (fieldAt o 0x18 2) 1) 4095 }
    let kept := p.dark = fieldAt o 0x11 1 ∧ p.bright = fieldAt o 0x12 1 ∧ p.minRun = fieldAt o 0x13 1 ∧
      p.shift = fieldAt o 0x14 1 ∧ p.streakLimit = fieldAt o 0x16 2 ∧ p.gap = fieldAt o 0x15 1 ∧
      p.minArea = fieldAt o 0x18 2
    let s1 := { s with lanes := { s.lanes with profiles := s.lanes.profiles.set index p } }
    (7 < index → exec .profileLoad s = .next (complete .range s)) ∧
    (index ≤ 7 → kept → exec .profileLoad s = .next (complete .done s1)) ∧
    (index ≤ 7 → ¬ kept → ∃ moved < 128,
      (moved.testBit 0 = true ↔ p.dark ≠ fieldAt o 0x11 1) ∧ (moved.testBit 1 = true ↔ p.bright ≠ fieldAt o 0x12 1) ∧
      (moved.testBit 2 = true ↔ p.minRun ≠ fieldAt o 0x13 1) ∧ (moved.testBit 3 = true ↔ p.shift ≠ fieldAt o 0x14 1) ∧
      (moved.testBit 4 = true ↔ p.streakLimit ≠ fieldAt o 0x16 2) ∧ (moved.testBit 5 = true ↔ p.gap ≠ fieldAt o 0x15 1) ∧
      (moved.testBit 6 = true ↔ p.minArea ≠ fieldAt o 0x18 2) ∧
      exec .profileLoad s = .next (refreshStatus s (complete .clamped (issueEvent .profileClamped [index, moved] s1))))

/-! ## Plate Scheduler -/

/-- The provisional cut, its kind and its needed line. With no avoid flaw near they are the window end, the given kind and the
last line within the guard. Otherwise the first avoid flaw ends a SHORT plate the guard's distance before it, if that leaves the
minimum plate; if not, a strip of CULLET ends behind the chain of avoid flaws that begins with it, or at the strip limit. The
avoid set is the candidates that come within the guard of the plate and begin before the guard behind the window end, and is
empty in FIXED mode; the candidates are the listed avoid flaws, the overflow zone, and, if the decision is forced, the OPEN
blobs and the OPEN dense zone taken to A unless their columns are FREE or EDGE. The cut lies a cutter pitch to a nominal length
from the plan start (R85, R102 to R106, R116). -/
def Obligations.ChosenCut : Prop :=
  (∀ (p : Plan) (start w : Nat) (kind : PlateKind) (cs : List AvoidSpan),
    p.fits = true → start + p.pitch ≤ w → w ≤ start + p.nominal → kind ≠ .short → kind ≠ .cullet →
    let c := chooseCut p start w kind cs
    start + p.pitch ≤ c.cut ∧ c.cut ≤ start + p.nominal ∧
    (p.mode = .fixed → c = { cut := w, kind := kind, needed := w + p.guard - 1 }) ∧
    (avoidSet p start w cs = [] → c = { cut := w, kind := kind, needed := w + p.guard - 1 }) ∧
    (c.kind = .short → start + p.minPlate ≤ c.cut ∧ c.cut < w ∧ ∀ f ∈ avoidSet p start w cs, c.cut + p.guard ≤ f.y0) ∧
    (c.kind = .cullet → c.cut = start + p.strip ∨ ∃ f ∈ avoidSet p start w cs,
      (∀ g ∈ avoidSet p start w cs, f.y0 ≤ g.y0) ∧ f.y1 + p.guard ≤ c.cut)) ∧
  (∀ (p : Plan) (start w : Nat) (kind : PlateKind) (cs pre post : List AvoidSpan) (f : AvoidSpan),
    avoidSet p start w cs = pre ++ f :: post → (∀ g ∈ pre, f.y0 < g.y0) → (∀ g ∈ post, f.y0 ≤ g.y0) →
    let a := max start (f.y0 - p.guard)
    let chained := fun b => f.y1 + p.guard ≤ b ∧ ∀ g ∈ cs, ¬ (g.y0 < b + p.minPlate + p.guard ∧ b < g.y1 + p.guard)
    (start + p.minPlate ≤ a → chooseCut p start w kind cs = { cut := a, kind := .short, needed := f.y0 }) ∧
    (a < start + p.minPlate → ∃ b0, chained b0 ∧ (∀ b, chained b → b0 ≤ b) ∧
      let b := max b0 (start + p.pitch)
      chooseCut p start w kind cs = { cut := if start + p.strip < b then start + p.strip else b, kind := .cullet
                                      needed := b + p.minPlate + p.guard - 1 })) ∧
  (∀ (p : Plan) (start w : Nat) (cs : List AvoidSpan) (f : AvoidSpan), f ∈ avoidSet p start w cs ↔
    p.mode = .avoid ∧ f ∈ cs ∧ start ≤ f.y1 + p.guard ∧ f.y0 < w + p.guard) ∧
  (∀ (s : State) (isForced : Bool) (f : AvoidSpan), f ∈ candidates s isForced ↔
    (∃ x ∈ s.sched.flaws, x.avoid = true ∧ f = { y0 := x.y0, y1 := x.y1 }) ∨
    (∃ z, s.sched.zone = some z ∧ f = { y0 := z.y0, y1 := z.y1 }) ∨
    (isForced = true ∧ ((∃ b, .opened b ∈ s.blobs.table ∧ outsideSale s.lanes b.c0 b.c1 = false ∧
        f = { y0 := b.y0, y1 := s.asm.a }) ∨
      ∃ d, s.blobs.dense = some d ∧ outsideSale s.lanes d.c0 d.c1 = false ∧ f = { y0 := d.y0, y1 := s.asm.a }))) ∧
  ∀ (m : LaneMap) (c0 c1 : Nat), outsideSale m c0 c1 = true ↔ ∀ g, c0 / 256 ≤ g → g ≤ c1 / 256 →
    ∀ label, m.groups[g]? = some (some label) → ∀ d, m.lanes[label - 1]? = some d → d.kind = .edge

/-- A decision taken: the new plate is the last of the queue, with the next number and sequence, the lines from S to the cut
and the lane snapshot; the numbers advance, S is the cut, and no listed flaw ends before it. The lanes, the detection,
the encoder and the analysis line are as before. The new plate is offered the listed flaws, and the overflow zone, that
overlap it; a REPLANNED one is not offered those that an abandoned plate was offered, which is how the model reads R118 and
R153 beside R111 (log entry 47). The cut is listed for the Blob Tracker while it lies beyond the next line, and splits the
gap zones at once otherwise: each OPEN one with an earlier first line and a last uncovered line closes, CONTINUED, and goes
on from the cut. A REQUESTED plate ends the request (R75, R91, R111, R112, R116, R118, R124, R153). -/
def Obligations.DecisionTaken : Prop :=
  (∀ (p : Plan) (cut : Nat) (kind : PlateKind) (isForced unverified : Bool) (s : State),
    let t := decidePlate p cut kind isForced unverified s
    t.sched.start = cut ∧ t.sched.nextPlate = nextNumber s.sched.nextPlate ∧
    t.sched.nextSeq = nextSequence s s.sched.nextSeq ∧ t.sched.queue.length = s.sched.queue.length + 1 ∧
    (∃ q, t.sched.queue.getLast? = some q ∧ q.num = s.sched.nextPlate ∧ q.seq = s.sched.nextSeq ∧
      q.start = s.sched.start ∧ q.cut = cut ∧ q.kind = kind ∧ q.forced = isForced ∧ q.unverified = unverified ∧
      q.lanes = snapshot s.lanes ∧ q.distance = p.distance ∧ q.margin = p.margin ∧ q.missWindow = p.missWindow ∧
      q.tolerance = p.tolerance ∧ q.missAction = p.missAction ∧ q.final = false) ∧
    (∀ f ∈ t.sched.flaws, cut ≤ f.y1) ∧ t.sched.request = (if kind = .requested then none else s.sched.request) ∧
    t = { s with sched := t.sched, streams := t.streams, blobs := t.blobs, tickets := t.tickets, cap := t.cap
                 tally := t.tally, writer := t.writer, arb := t.arb }) ∧
  (∀ (s : State) (q : Plate),
    let offered := fun (y0 y1 : Nat) (spent : Bool) => decide (y0 < q.cut ∧ q.start ≤ y1) && !(spent && q.replanned)
    let flaws := (s.sched.flaws.filter (fun f => offered f.y0 f.y1 f.spent)).map ListedFlaw.offer
    let zone := match s.sched.zone with
      | some z => if offered z.y0 z.y1 z.spent then [z.offer] else []
      | none => []
    (enterPlate q s).sched.queue =
      s.sched.queue ++ [(flaws ++ zone).foldl (fun p f => applyToPlate s.grades f p) q] ∧
    (enterPlate q s).sched.flaws = s.sched.flaws) ∧
  (∀ (s : State) (cut : Nat),
    (s.asm.a + 1 < cut →
      giveCut cut s = ([], { s with blobs := { s.blobs with splits := insertCut cut s.blobs.splits } })) ∧
    (cut ≤ s.asm.a + 1 → giveCut cut s = splitGaps cut (decide (cut ≤ s.asm.a)) s)) ∧
  ∀ (s : State) (cut : Nat) (analysed : Bool), s.blobs.gaps.length = 64 →
    let r := splitGaps cut analysed s
    r.2 = { s with blobs := { s.blobs with gaps := r.2.blobs.gaps } } ∧
    (∀ g < 64, r.2.blobs.gaps.getD g none = match s.blobs.gaps.getD g none with
      | some z =>
        if z.y0 < cut ∧ z.last ≠ none then
          some { y0 := cut, last := if analysed then z.last else none, continuation := true }
        else some z
      | none => none) ∧
    ∀ f, f ∈ r.1 ↔ ∃ g < 64, ∃ z, s.blobs.gaps.getD g none = some z ∧ z.y0 < cut ∧ z.last ≠ none ∧
      f = gapFlaw s g z (cut - 1) true

/-- FORCING_REACHED with a place in the queue: S moves on, and the plan, the encoder, the analysis line and the lanes stay.
STARVED, the queue being full: S moves by whole nominal lengths until it is no longer forced, and the queue and the next
numbers stay. The forcing position is S with a nominal length and the cutting distance, less the ticket margin and the
forced slack; neither does anything before E reaches it (log entry 8). An evaluation refuses a request within a cutter pitch of
S, with REQUEST_LATE. It takes the decision while the queue has a place, and the decision is forced, or A has come to the needed
line with nothing OPEN below it; with the queue full a forced one is starved, and else it is deferred. A cut that the cutter can
no longer make becomes LATE, or the stretch is unplanned, and while S moves the decision is evaluated again (R82, R100, R101,
R102, R104, R107, R108, R109, R110, R111, R121). -/
def Obligations.ForcedAndStarved : Prop :=
  (∀ (s : State) (p : Plan), s.sched.plan = some p → p.fits = true → s.sched.active = true →
    (forced s p = true → s.sched.queue.length < 32 → ∃ t, exec .forcingReached s = .next t ∧
      s.sched.start < t.sched.start ∧ t.sched.plan = some p ∧
      t = { s with sched := t.sched, streams := t.streams, blobs := t.blobs, tickets := t.tickets, cap := t.cap
                   tally := t.tally, writer := t.writer, arb := t.arb }) ∧
    (forced s p = true → 32 ≤ s.sched.queue.length → ∃ t, exec .starved s = .next t ∧
      t.sched.queue = s.sched.queue ∧ t.sched.nextPlate = s.sched.nextPlate ∧ t.sched.nextSeq = s.sched.nextSeq ∧
      (∃ m, 0 < m ∧ t.sched.start = s.sched.start + m * p.nominal) ∧ forced t p = false ∧
      t = { s with sched := t.sched, tally := t.tally, writer := t.writer, arb := t.arb }) ∧
    (forced s p = false → exec .forcingReached s = .next s ∧ exec .starved s = .next s) ∧
    (forced s p = true ↔ s.sched.start + p.nominal + p.distance - p.margin - p.slack ≤ s.enc.e)) ∧
  (∀ (p : Plan) (s : State),
    let start := s.sched.start
    let refused := { s with sched := { s.sched with request := none } }
    let x0 := s.enc.e + p.margin + 1 - p.distance
    let jump := fun (target : Nat) (u : State) => { tallyAdd .sAdvance (target - start) (tallyAdd .unplannedLength (target - start) u) with
      sched := { u.sched with start := target, flaws := u.sched.flaws.filter (fun f => decide (target ≤ f.y1))
                              zone := u.sched.zone.filter (fun z => decide (target ≤ z.y1)) } }
    (∀ x, s.sched.request = some x → x < start + p.pitch →
      evaluateOnce p s = evaluateOnce p (issueEvent .requestLate [x, start] refused)) ∧
    ((∀ x, s.sched.request = some x → start + p.pitch ≤ x) →
      let w := match s.sched.request with
        | some x => min x (start + p.nominal)
        | none => start + p.nominal
      let kind := if s.sched.request = some w then PlateKind.requested else .nominal
      let c := chooseCut p start w kind (candidates s (forced s p))
      let ripe := c.needed ≤ s.asm.a ∧ (∀ b, .opened b ∈ s.blobs.table → c.needed ≤ b.y0) ∧
        ∀ d, s.blobs.dense = some d → c.needed ≤ d.y0
      (s.sched.queue.length < 32 → forced s p = true ∨ ripe →
        evaluateOnce p s = (true, finishDecision p c (forced s p) s)) ∧
      (s.sched.queue.length < 32 → forced s p = false → ¬ ripe → evaluateOnce p s = (false, s)) ∧
      (32 ≤ s.sched.queue.length → forced s p = false → evaluateOnce p s = (false, s)) ∧
      (32 ≤ s.sched.queue.length → forced s p = true →
        evaluateOnce p s = (true, jump (start + p.nominal) (issueEvent .starved [start] s)))) ∧
    (∀ (c : Choice) (isForced : Bool),
      let unverified := isForced && decide (s.asm.a < c.needed)
      let l := max x0 (start + p.pitch)
      (x0 ≤ c.cut → finishDecision p c isForced s = decidePlate p c.cut c.kind isForced unverified s) ∧
      (c.cut < x0 → l ≤ start + p.nominal → c.kind ≠ .requested →
        finishDecision p c isForced s = decidePlate p l .late isForced unverified s) ∧
      (∀ x, c.cut < x0 → l ≤ start + p.nominal → c.kind = .requested → s.sched.request = some x →
        finishDecision p c isForced s =
          decidePlate p l .late isForced unverified (issueEvent .requestLate [x, start] refused)) ∧
      (c.cut < x0 → start + p.nominal < l →
        finishDecision p c isForced s = jump x0 (issueEvent .unplanned [start, x0] s))) ∧
    (s.sched.active = true → s.sched.plan = some p →
      (∀ t, evaluateOnce p s = (false, t) → evaluate s = t) ∧
      ∀ t, p.fits = true → evaluateOnce p s = (true, t) → evaluate s = evaluate t)) ∧
  ∀ s : State, s.sched.active = false ∨ s.sched.plan = none → evaluate s = s

/-- SEAL_FAILED_CUT_POINT: a FINAL plate at the head whose seal failed retires once E is at its cut point: it is the last
plate retired, its end state is tallied, the slot's occupant is gone and its sequence is the retired one. Before the cut
point the command changes nothing (log entry 8). The head retires in no other state than those of R114 (R114, R115, R125,
R164). -/
def Obligations.SealFailedCutPoint : Prop :=
  (∀ (s : State) (p : Plate),
    s.sched.queue = [p] → p.state = .sealFailed → p.final = true → s.sched.active = true → slotOf s p.seq < s.tickets.length →
    (s.enc.e < cutPoint p → exec .sealFailedCutPoint s = .next s) ∧
    (cutPoint p ≤ s.enc.e → evaluate (retirePlate p s) = retirePlate p s →
      exec .sealFailedCutPoint s = .next (refreshStatus s (retirePlate p s)) ∧
      (retirePlate p s).sched.queue = [] ∧ (retirePlate p s).tally.lastPlate = some p.num ∧
      (retirePlate p s).tally.firstPlate.isSome = true ∧
      (s.tally.counts.length = tallyPlaces → tallyOf (retirePlate p s).tally (.retired .sealFailed) =
        min (tallyOf s.tally (.retired .sealFailed) + 1) 65535) ∧
      (slotRec (retirePlate p s) (slotOf s p.seq)).occupant = none ∧
      (slotRec (retirePlate p s) (slotOf s p.seq)).retired = some p.seq)) ∧
  ∀ (s : State) (p : Plate), mayRetire s p = true ↔
    p.final = true ∧ (p.state = .cut ∨ p.state = .skipped ∨ (p.state = .missed ∧ p.missAction = .retire) ∨
      (p.state = .sealFailed ∧ p.cut + p.distance ≤ s.enc.e))

/-! ## Grader -/

/-- The points grade, G1 to G4 as 1 to 4 (R149). A flaw offered to a plate that is not FINAL changes each piece it touches in one
step: the weight of its class and zone, its kill marks, the flaw count, and UNCOVERED for GAP; a FINAL plate and a piece not
touched stay (R145, R146). A plate whose inspection is closed and whose cut is settled becomes FINAL, every piece with its
grade, and no other plate changes (R147, R148, R150). -/
def Obligations.PointsGrade : Prop :=
  (∀ (g : GradeTable) (p : Piece),
    (pointsGrade g p = 1 ↔ p.points ≤ g.prime ∧ p.kill1 = false) ∧
    (pointsGrade g p = 2 ↔ ¬ (p.points ≤ g.prime ∧ p.kill1 = false) ∧ p.points ≤ g.standard ∧ p.kill2 = false) ∧
    (pointsGrade g p = 3 ↔ ¬ (p.points ≤ g.prime ∧ p.kill1 = false) ∧ ¬ (p.points ≤ g.standard ∧ p.kill2 = false) ∧
      p.points ≤ g.second ∧ p.kill3 = false) ∧
    (pointsGrade g p = 4 ↔ ¬ (p.points ≤ g.prime ∧ p.kill1 = false) ∧ ¬ (p.points ≤ g.standard ∧ p.kill2 = false) ∧
      ¬ (p.points ≤ g.second ∧ p.kill3 = false)) ∧
    (p.kill1 = true → p.kill2 = true → p.kill3 = true → pointsGrade g p = 4) ∧
    (g.prime < g.standard → g.standard < g.second → g.second < p.points → pointsGrade g p = 4) ∧
    ∀ (start cut : Nat) (f : Offer), f.source = .dense → touches start cut p f = true →
      pointsGrade g (applyToPiece g start cut f p) = 4) ∧
  (∀ (g : GradeTable) (f : Offer) (p : Plate),
    (p.final = true → applyToPlate g f p = p) ∧
    (p.final = false → applyToPlate g f p = { p with pieces := p.pieces.map (applyToPiece g p.start p.cut f) })) ∧
  (∀ (g : GradeTable) (start cut : Nat) (f : Offer) (q : Piece),
    let first := 256 * q.first
    let last := 256 * (q.first + q.count) - 1
    let c0 := max f.c0 first
    let c1 := min f.c1 last
    let y0 := max f.y0 start
    let y1 := min f.y1 (cut - 1)
    let edge := c1 < first + g.bandColumns ∨ last < c0 + g.bandColumns ∨ y1 < start + g.bandLines ∨ cut ≤ y0 + g.bandLines
    let blob := decide (f.source = .blob)
    let dense := decide (f.source = .dense)
    let k := classGrade g f.cls
    (c1 < c0 ∨ y1 < y0 → applyToPiece g start cut f q = q) ∧
    (c0 ≤ c1 → y0 ≤ y1 → applyToPiece g start cut f q = { q with
      points := min (q.points + match f.source with
        | .blob => if edge then k.edge else k.core
        | .dense => if edge then g.denseEdge else g.denseCore
        | .gap => if edge then g.gapEdge else g.gapCore) 65535
      kill1 := q.kill1 || dense || (blob && k.kill1), kill2 := q.kill2 || dense || (blob && k.kill2)
      kill3 := q.kill3 || dense || (blob && k.kill3), flaws := min (q.flaws + 1) 255
      uncovered := q.uncovered || decide (f.source = .gap) })) ∧
  ∀ s : State,
    gradeTest s = { s with sched := { s.sched with queue := (gradeTest s).sched.queue } } ∧
    (gradeTest s).sched.queue.length = s.sched.queue.length ∧
    ∀ (i : Nat) (p : Plate), s.sched.queue[i]? = some p →
      let closed := p.cut + 8 ≤ s.asm.a ∧ (∀ b, .opened b ∈ s.blobs.table → p.cut ≤ b.y0) ∧
        ∀ d, s.blobs.dense = some d → p.cut ≤ d.y0
      let settledCut := p.state = .cut ∨ p.state = .skipped ∨ p.state = .sealFailed ∨
        (p.state = .missed ∧ p.missAction = .retire)
      (p.final = true ∨ ¬ closed ∨ ¬ settledCut → (gradeTest s).sched.queue[i]? = some p) ∧
      (p.final = false → closed → settledCut → (gradeTest s).sched.queue[i]? = some { p with
        final := true
        pieces := p.pieces.map (fun q => { q with grade := some (
          if s.grades.loaded = false ∨ p.kind = .cullet ∨ p.state = .skipped then 4
          else if q.uncovered = true then max (pointsGrade s.grades q) s.grades.cap
          else pointsGrade s.grades q) }) })

/-- R151: the area of a piece and of an EDGE entry: fixed at decision, 32 bits wide, and of no grade for EDGE. -/
def Obligations.PieceArea : Prop :=
  (∀ (lanes : List LaneEntry) (start cut : Nat), ∀ q ∈ newPieces lanes start cut,
    ∃ l ∈ lanes, l.kind = .sale ∧ q.label = l.label ∧ q.area = 256 * l.count * (cut - start) ∧
      (l.count ≤ 64 → cut - start ≤ 65535 → q.area ≤ 1073725440 ∧ q.area < 2 ^ 32)) ∧
  (∀ (g : GradeTable) (start cut : Nat) (f : Offer) (q : Piece), (applyToPiece g start cut f q).area = q.area) ∧
  (∀ (g : GradeTable) (p : Plate), (finalise g p).pieces.map (·.area) = p.pieces.map (·.area)) ∧
  ∀ (p : Plate) (l : LaneEntry), l.kind = .edge →
    (pieceLane p l).area = 256 * l.count * (p.cut - p.start) ∧ (pieceLane p l).grade = 0

/-! ## Ticket Unit -/

/-- SEAL_WRITE_RESPONSE: OKAY makes the SEALING plate SEALED, and MISSED with CUT_MISSED at once if E is at its miss point;
an error makes it SEAL_FAILED with the event. NULL_WRITE_RESPONSE: the slot has no write any more, and an error is
reported. Each is followed by the seals that are due, and a changed plate, one that becomes SEALING too, by the Grader's
test and the examination of the head. A seal that is due makes the DECIDED plate SEALING, and one write of the whole slot waits at the arbiter: 64 bytes at
the slot's address that begin with the sequence and the plate number and end with a status field of zeros (R123, R124,
R126, R127, R135, R137, R138, R140, R190). The write carries on the mark of a FENCE that waits for it (R179). That a response
answers the oldest granted write of its kind to a slot of that number is the model's choice (log entry 58). -/
def Obligations.SealAndNullResponses : Prop :=
  (∀ (s : State) (slot num seq : Nat) (fenced : Bool) (x : OwnTxn) (left : List OwnTxn) (p : Plate),
    Awaited s (Purpose.seals slot) x left → x.purpose = .sealWrite slot num seq fenced → (slotRec s slot).nullPending = none →
    plateNumbered s num = some p → p.state = .sealing → p.seq = seq →
    let s1 := modSlot slot (fun r => { r with write := .none }) (withOut left s)
    let s2 := modPlate num (fun q => { q with state := .sealed }) s1
    (s.enc.e < p.cut + p.distance + p.missWindow →
      exec (.sealWriteResponse slot true) s = .next (refreshStatus s (plateChanged (pumpSeals s2)))) ∧
    (p.cut + p.distance + p.missWindow ≤ s.enc.e →
      exec (.sealWriteResponse slot true) s = .next (refreshStatus s (plateChanged (pumpSeals
        (issueEvent .cutMissed [num, seq, p.cut, 5] (modPlate num (fun q => { q with state := .missed }) s2)))))) ∧
    exec (.sealWriteResponse slot false) s = .next (refreshStatus s (plateChanged (pumpSeals
      (issueEvent .sealFailed [num, seq, slot] (modPlate num (fun q => { q with state := .sealFailed }) s1)))))) ∧
  (∀ (s : State) (slot seq : Nat) (noted fenced : Bool) (x : OwnTxn) (left : List OwnTxn),
    Awaited s (Purpose.nulls slot) x left → x.purpose = .nullWrite slot seq noted fenced → (slotRec s slot).nullPending = none →
    let s1 := modSlot slot (fun r => { r with write := .none, noted := false }) (withOut left s)
    let sealed := fun t => if (pumpSeals t).sched.queue = t.sched.queue then pumpSeals t else plateChanged (pumpSeals t)
    exec (.nullWriteResponse slot true) s = .next (refreshStatus s (sealed s1)) ∧
    exec (.nullWriteResponse slot false) s =
      .next (refreshStatus s (sealed (issueEvent .nullWriteFailed [slot, seq] s1)))) ∧
  ∀ (s : State) (num : Nat) (p : Plate),
    plateNumbered s num = some p → p.state = .decided → (slotRec s (p.seq % s.window.ticket.count)).write = .none →
    (slotRec s (p.seq % s.window.ticket.count)).nullPending = none →
    p.seq < 2 ^ 32 → num < 2 ^ 32 →
    ∃ bytes, trySeal num s = { s with
        sched := { s.sched with queue := s.sched.queue.map (fun q => if q.num = num then { q with state := .sealing } else q) }
        tickets := s.tickets.modify (p.seq % s.window.ticket.count) (fun r => { r with write := .sealing })
        arb := { s.arb with ownWaiting := s.arb.ownWaiting ++
          [{ purpose := .sealWrite (p.seq % s.window.ticket.count) num p.seq p.fenced, live := true,
             addr := s.window.ticket.base + 64 * (p.seq % s.window.ticket.count), body := .write bytes }] } } ∧
      bytes.length = 64 ∧ fieldAt bytes 0 4 = p.seq ∧ fieldAt bytes 4 4 = num ∧ fieldAt bytes 0x30 16 = 0

/-- TICKET_READ of a whole slot by the cutter. With a SEALED plate in it the read goes to memory and the plate is TAKEN, which
is followed by the Grader's test and the examination of the head; with a TAKEN one it goes to memory and nothing changes;
with no plate that is offered, the part answers with 64 zero bytes and counts a null ticket served. Any read is judged slot by
slot: a portion that touches a body byte is answered with the null ticket unless the slot's plate is SEALED or TAKEN, or, while
the part is disabled, unless the slot was not noted. A read of null portions alone that lies in the ring is answered with zeros;
any other is forwarded with the ranges to be replaced. A cutter's read with a null portion is counted once, and it takes each
SEALED plate whose whole seal word it reads from memory (R123, R125, R128, R129, R138, R140). Which reads the part answers and
which it forwards with ranges to be replaced is the model's reading of R128 (log entry 31). -/
def Obligations.TicketRead : Prop :=
  (∀ (s : State) (r : UpRead) (j : Nat),
    enabled s = true → s.window.ticket.valid = true → s.tickets.length = s.window.ticket.count → j < s.tickets.length →
    r.tag = s.window.ticket.tag → r.addr = s.window.ticket.base + 64 * j → r.len = 64 →
    (∀ p, occupant s j = some p → p.state = .sealed →
      exec (.ticketRead r) s = .next (refreshStatus s (forwardPass (.read r [])
        (plateChanged (modPlate p.num (fun q => { q with state := .taken }) s))))) ∧
    (∀ p, occupant s j = some p → p.state = .taken → exec (.ticketRead r) s = .next (forwardPass (.read r []) s)) ∧
    (offered s j = false →
      exec (.ticketRead r) s = .next { tallyAdd .nullServed 1 s with
        answers := s.answers ++ [.read r.tag true (List.replicate 64 0)] })) ∧
  (∀ (s : State) (j : Nat),
    (offered s j = true ↔ ∃ p, occupant s j = some p ∧ (p.state = .sealed ∨ p.state = .taken)) ∧
    ∀ p, occupant s j = some p ↔ (∃ x, s.tickets[j]? = some x ∧ x.occupant = some p.num) ∧
      ∃ pre post, s.sched.queue = pre ++ p :: post ∧ ∀ q ∈ pre, q.num ≠ p.num) ∧
  (∀ (s : State) (r : UpRead), (enabled s = true → s.window.ticket.valid = true) →
    (∀ q, q ∈ readPortions s r ↔ ∃ j < s.tickets.length,
      let addr := s.window.ticket.base + 64 * j
      let first := max r.addr addr
      let stop := min (r.addr + r.len) (addr + 64)
      first < stop ∧ q =
        { slot := j, offset := first - r.addr, len := stop - first, sealWhole := decide (first = addr ∧ addr + 4 ≤ stop)
          fromMemory := decide (addr + 48 ≤ first) || (if enabled s then offered s j else !(slotRec s j).noted) }) ∧
    ((readPortions s r).map (·.slot)).Pairwise (· < ·)) ∧
  ∀ (s : State) (r : UpRead),
    let qs := readPortions s r
    let nulls := qs.filter (fun q => !q.fromMemory)
    let zero := qs ≠ [] ∧ nulls = qs ∧ s.window.ticket.base ≤ r.addr ∧
      r.addr + r.len ≤ s.window.ticket.base + 64 * s.window.ticket.count
    let counted := if nulls = [] then s else tallyAdd .nullServed 1 s
    let answered := fun t : State => { t with answers := t.answers ++ [.read r.tag true (List.replicate r.len 0)] }
    let forwarded := forwardPass (.read r (nulls.map (fun q => (q.offset, q.len))))
    (r.tag ≠ s.window.ticket.tag →
      (zero → exec (.ticketRead r) s = .next (answered s)) ∧ (¬ zero → exec (.ticketRead r) s = .next (forwarded s))) ∧
    (r.tag = s.window.ticket.tag →
      (zero → exec (.ticketRead r) s = .next (answered counted)) ∧
      (¬ zero → exec (.ticketRead r) s =
        .next (refreshStatus s (forwarded (qs.foldl (fun t q => takeTicket q t) counted))))) ∧
    ∀ (t : State) (q : ReadPortion),
      (enabled t = false ∨ q.fromMemory = false ∨ q.sealWhole = false ∨
          (∀ p, occupant t q.slot = some p → p.state ≠ .sealed) → takeTicket q t = t) ∧
      ∀ p, enabled t = true → q.fromMemory = true → q.sealWhole = true → occupant t q.slot = some p → p.state = .sealed →
        takeTicket q t = plateChanged (modPlate p.num (fun x => { x with state := .taken }) t)

/-- GUARD_WRITE and STATUS_BLOCK_GUARD: a write whose span includes a ticket slot's body byte, or a byte of the status
block while the part is enabled, is answered with an error, reported, and goes nowhere else. The first test is by the
span: some byte of it lies at an offset below 0x30 of a slot (R131, R175). -/
def Obligations.GuardedWrites : Prop :=
  (∀ (s : State) (w : UpWrite), Quiet s → bodyRefused s w = true → statusRefused s w = false →
    exec (.guardWrite w) s = .next (refreshStatus s
      { issueEvent .guardTicket [w.addr, w.data.length, w.tag] s with answers := s.answers ++ [.write w.tag false] })) ∧
  (∀ (s : State) (w : UpWrite), Quiet s → bodyRefused s w = false → statusRefused s w = true →
    exec (.statusBlockGuard w) s = .next (refreshStatus s
      { issueEvent .guardStatus [w.addr, w.data.length, w.tag] s with answers := s.answers ++ [.write w.tag false] })) ∧
  (∀ (s : State) (w : UpWrite), bodyRefused s w = true ↔
    enabled s = true ∧ s.window.ticket.valid = true ∧ touchesBody s w.addr w.data.length = true) ∧
  (∀ (s : State) (addr len : Nat), touchesBody s addr len = true ↔
    ∃ a, addr ≤ a ∧ a < addr + len ∧ s.window.ticket.base ≤ a ∧
      a < s.window.ticket.base + 64 * s.window.ticket.count ∧ (a - s.window.ticket.base) % 64 < 0x30) ∧
  ∀ (s : State) (w : UpWrite), statusRefused s w = true ↔ enabled s = true ∧
    ∃ a, w.addr ≤ a ∧ a < w.addr + w.data.length ∧ anchorBase s + 0x800 ≤ a ∧ a ≤ anchorBase s + 0x8FF

/-- STATUS_WRITE: the cutter's sixteen strobed bytes in one slot's status field go to memory and settle the plate whose
sequence they echo: DONE makes a SEALED or TAKEN plate CUT, with CUT_DEVIATION beyond the tolerance, SKIPPED makes it
SKIPPED; on a MISSED plate under KEEP either does the same and sets LATE_CONFIRMED. On a MISSED plate under RETIRE, a CUT or
SKIPPED one, or a SEAL_FAILED one it is LATE_CONFIRM with cause 1, 2 or 3. With no plate that takes the echo (an empty slot,
another sequence, a plate DECIDED or SEALING) an echo of the slot's retired sequence is LATE_CONFIRM with cause 4, and any
other CONFIRM_UNKNOWN. A code that is neither is STATUS_BAD (R132, R133, R134). -/
def Obligations.StatusWrite : Prop :=
  ∀ (s : State) (w : UpWrite) (j : Nat) (bytes : List Byte),
    Quiet s → ticketsGuarded s = true → w.tag = s.window.ticket.tag → statusSlot s w.addr w.data.length = some j →
    statusRefused s w = false → streamOf s w = none →
    (∀ f ∈ controlFields, strobedIn w (anchorBase s + f.1) f.2 = false) →
    w.data = bytes.map some → bytes.length = 16 →
    let code := fieldAt bytes 0 1
    let echo := fieldAt bytes 4 4
    let measured := fieldAt bytes 8 6
    let s1 := forwardPass (.write w []) s
    (∀ p, occupant s j = some p → echo = p.seq → p.state = .sealed ∨ p.state = .taken →
      let point := p.cut + p.distance
      (code = 1 → point ≤ measured + p.tolerance → measured ≤ point + p.tolerance →
        exec (.statusWrite w) s =
          .next (finish s (plateChanged (modPlate p.num (fun q => { q with state := .cut }) s1)))) ∧
      (code = 1 → measured + p.tolerance < point ∨ point + p.tolerance < measured →
        exec (.statusWrite w) s = .next (finish s (plateChanged
          (issueEvent .cutDeviation [p.num, p.cut, point, measured]
            (modPlate p.num (fun q => { q with state := .cut, deviation := true }) s1))))) ∧
      (code = 2 → exec (.statusWrite w) s =
        .next (finish s (plateChanged (modPlate p.num (fun q => { q with state := .skipped }) s1))))) ∧
    (∀ p, occupant s j = some p → echo = p.seq → p.state = .missed → p.missAction = .keep →
      let point := p.cut + p.distance
      (code = 1 → point ≤ measured + p.tolerance → measured ≤ point + p.tolerance →
        exec (.statusWrite w) s = .next (finish s (plateChanged
          (modPlate p.num (fun q => { q with state := .cut, lateConfirmed := true }) s1)))) ∧
      (code = 1 → measured + p.tolerance < point ∨ point + p.tolerance < measured →
        exec (.statusWrite w) s = .next (finish s (plateChanged
          (issueEvent .cutDeviation [p.num, p.cut, point, measured]
            (modPlate p.num (fun q => { q with state := .cut, lateConfirmed := true, deviation := true }) s1))))) ∧
      (code = 2 → exec (.statusWrite w) s = .next (finish s (plateChanged
        (modPlate p.num (fun q => { q with state := .skipped, lateConfirmed := true }) s1))))) ∧
    (∀ p, occupant s j = some p → echo = p.seq → code = 1 ∨ code = 2 →
      (p.state = .missed → p.missAction = .retire → exec (.statusWrite w) s =
        .next (refreshStatus s (issueEvent .lateConfirm [1, echo, code, measured] s1))) ∧
      (p.state = .cut ∨ p.state = .skipped → exec (.statusWrite w) s =
        .next (refreshStatus s (issueEvent .lateConfirm [2, echo, code, measured] s1))) ∧
      (p.state = .sealFailed → exec (.statusWrite w) s =
        .next (refreshStatus s (issueEvent .lateConfirm [3, echo, code, measured] s1)))) ∧
    (∀ p, occupant s j = some p → echo ≠ p.seq ∨ p.state = .decided ∨ p.state = .sealing → code = 1 ∨ code = 2 →
      ((slotRec s j).retired = some echo → exec (.statusWrite w) s =
        .next (refreshStatus s (issueEvent .lateConfirm [4, echo, code, measured] s1))) ∧
      ((slotRec s j).retired ≠ some echo → exec (.statusWrite w) s =
        .next (refreshStatus s (issueEvent .confirmUnknown [j, echo, code] s1)))) ∧
    (occupant s j = none → code = 1 ∨ code = 2 → (slotRec s j).retired ≠ some echo →
      exec (.statusWrite w) s = .next (refreshStatus s (issueEvent .confirmUnknown [j, echo, code] s1))) ∧
    (occupant s j = none → code = 1 ∨ code = 2 → (slotRec s j).retired = some echo →
      exec (.statusWrite w) s = .next (refreshStatus s (issueEvent .lateConfirm [4, echo, code, measured] s1))) ∧
    (code ≠ 1 → code ≠ 2 →
      exec (.statusWrite w) s = .next (refreshStatus s (issueEvent .statusBad [j, w.addr, 16] s1)))

/-- CUT_MISSED: with E at the miss point of a SEALED or TAKEN plate, the plate is MISSED and the event names its number,
sequence, cut and the state it was in; before that, or in another state, nothing changes (log entry 8) (R135, R192). -/
def Obligations.CutMissed : Prop :=
  ∀ (s : State) (num : Nat) (p : Plate), plateNumbered s num = some p →
    (p.state = .sealed → p.cut + p.distance + p.missWindow ≤ s.enc.e →
      exec (.cutMissed num) s = .next (refreshStatus s (plateChanged (issueEvent .cutMissed [num, p.seq, p.cut, 5]
        (modPlate num (fun q => { q with state := .missed }) s))))) ∧
    (p.state = .taken → p.cut + p.distance + p.missWindow ≤ s.enc.e →
      exec (.cutMissed num) s = .next (refreshStatus s (plateChanged (issueEvent .cutMissed [num, p.seq, p.cut, 6]
        (modPlate num (fun q => { q with state := .missed }) s))))) ∧
    ((p.state ≠ .sealed ∧ p.state ≠ .taken) ∨ s.enc.e < p.cut + p.distance + p.missWindow →
      exec (.cutMissed num) s = .next s)

/-! ## Traffic Classifier and Memory arbiter -/

/-- PASS_THROUGH: a write or a read that concerns no block waits at the arbiter as it came; memory's response to one of the
tag's oldest is returned upstream unchanged (R2, R7, R128, R186). -/
def Obligations.PassThrough : Prop :=
  (∀ (s : State) (w : UpWrite), Quiet s → PlainWrite s w → streamOf s w = none →
    exec (.passThrough (.write w)) s = .next (forwardPass (.write w []) s)) ∧
  (∀ (s : State) (r : UpRead), Quiet s →
    (r.addr + r.len ≤ s.window.ticket.base ∨ s.window.ticket.base + 64 * s.tickets.length ≤ r.addr) →
    exec (.passThrough (.read r)) s = .next (forwardPass (.read r []) s)) ∧
  (∀ (s : State) (w : UpWrite) (okay : Bool) (pre post : List PassTxn), Quiet s →
    s.arb.passOut = pre ++ .write w [] :: post → (∀ x ∈ pre, x.isWrite w.tag = false) →
    exec (.passThrough (.writeResponse w.tag okay)) s = .next { s with
      arb := { s.arb with passOut := pre ++ post }, answers := s.answers ++ [.write w.tag okay] }) ∧
  ∀ (s : State) (r : UpRead) (data : List Byte) (pre post : List PassTxn), Quiet s →
    s.arb.passOut = pre ++ .read r [] :: post → (∀ x ∈ pre, x.isRead r.tag = false) → data.length = r.len →
    exec (.passThrough (.readResponse r.tag { okay := true, data := data })) s = .next { s with
      arb := { s.arb with passOut := pre ++ post }, answers := s.answers ++ [.read r.tag true data] }

/-- ARBITER_GRANT: the first pass-through transaction, unless an own request has waited through eight of them; else the
first issued of the highest class of own requests; with nothing waiting, the count alone is cleared (R186). -/
def Obligations.ArbiterGrant : Prop :=
  ∀ s : State,
    (∀ x xs, s.arb.passWaiting = x :: xs → s.arb.ownWaiting = [] → exec .arbiterGrant s = .next { s with
      arb := { s.arb with passWaiting := xs, passOut := s.arb.passOut ++ [x], count := 0 } }) ∧
    (∀ x xs, s.arb.passWaiting = x :: xs → s.arb.ownWaiting ≠ [] → s.arb.count < 8 → exec .arbiterGrant s = .next { s with
      arb := { s.arb with passWaiting := xs, passOut := s.arb.passOut ++ [x], count := s.arb.count + 1 } }) ∧
    (∀ pre t post, s.arb.ownWaiting = pre ++ t :: post → (∀ y ∈ pre, t.purpose.rank < y.purpose.rank) →
      (∀ y ∈ post, t.purpose.rank ≤ y.purpose.rank) → s.arb.passWaiting = [] ∨ 8 ≤ s.arb.count →
      exec .arbiterGrant s = .next { s with
        arb := { s.arb with ownWaiting := pre ++ post, ownOut := s.arb.ownOut ++ [t], count := 0 } }) ∧
    (s.arb.passWaiting = [] → s.arb.ownWaiting = [] →
      exec .arbiterGrant s = .next { s with arb := { s.arb with count := 0 } })

/-! ## Anchor page -/

/-- ENABLE: a CONTROL write that takes ENABLE from 0 to 1 sets A to E with no line in assembly, lets an order whose fetch
failed be fetched again, and goes on to memory. Without a plan that is all; with a plan and a valid entry 8 the scheduler
becomes active with S beyond E (R28, R99, R174, R176, R178). -/
def Obligations.Enable : Prop :=
  ∀ (s : State) (w : UpWrite), Quiet s → FieldWrite s w 0x00 → enabled s = false →
    let v := latched w (anchorBase s + 0x00) 4 s.anchor.control.toNat
    v.testBit 0 = true → v.testBit 1 = false ∨ s.writer.overflow = false →
    (s.sched.plan = none → exec (.enable w) s = .next (refreshStatus s { forwardPass (.write w []) s with
      anchor := { s.anchor with control := BitVec.ofNat 32 v }
      asm := { a := s.enc.e, record := none, analysing := false }
      orders := { s.orders with phase := if s.orders.phase = .fetchFailed then .idle else s.orders.phase } })) ∧
    (s.sched.plan.isSome = true → s.window.ticket.valid = true → s.sched.active = false →
      ∃ t, exec (.enable w) s = .next t ∧ enabled t = true ∧ t.asm.a = s.enc.e ∧ t.sched.active = true ∧
        s.enc.e < t.sched.start)

/-- DISABLE: a CONTROL write that takes ENABLE from 1 to 0 stops every stream, abandons the line in assembly and the current
order (a completion write in flight is carried through), empties the plate queue, the flaw list, the blob table and the
zones, and makes the scheduler inactive. A, the plan, S and the next numbers, the window cache, the lanes, the tables and the
encoder stay. The ticket slot of each queued plate has no occupant; that of a SEALED or SEALING one is noted and its null
rewrite issued, or pending; no other slot changes, and every plate is tallied as abandoned (R21, R28, R63, R72, R74, R80, R120,
R138, R176). That the null rewrites of one disable come in queue order is the model's choice (log entry 59). -/
def Obligations.Disable : Prop :=
  ∀ (s : State) (w : UpWrite), Quiet s → FieldWrite s w 0x00 → enabled s = true →
    (latched w (anchorBase s + 0x00) 4 s.anchor.control.toNat).testBit 0 = false →
    ∃ t, exec (.disable w) s = .next t ∧ enabled t = false ∧ (∀ n < 8, (stream t n).state = .off) ∧
      t.asm = { a := s.asm.a, record := none, analysing := false } ∧
      t.sched = { s.sched with active := false, queue := [], request := none, replan := none, flaws := [], zone := none } ∧
      (∀ e ∈ t.blobs.table, e = .free) ∧ t.blobs.dense = none ∧ (∀ z ∈ t.blobs.gaps, z = none) ∧ t.blobs.splits = [] ∧
      t.det = { s.det with runs := [] } ∧ ((∀ c, s.orders.phase ≠ .completing c) → t.orders.phase = .idle) ∧
      ((∃ c, s.orders.phase = .completing c) → t.orders.phase = s.orders.phase) ∧
      t.orders.head = s.orders.head ∧ t.cap = s.cap ∧ t.enc = s.enc ∧ t.window = s.window ∧ t.lanes = s.lanes ∧
      t.grades = s.grades ∧
      (SlotsApart s s.sched.queue →
        (∀ j, (∀ p ∈ s.sched.queue, slotOf s p.seq ≠ j) → slotRec t j = slotRec s j) ∧
        (∀ p ∈ s.sched.queue, slotRec t (slotOf s p.seq) = withdrawnSlot true p (slotRec s (slotOf s p.seq))) ∧
        t.arb.ownWaiting.filter (fun x => x.purpose.rank == 1) =
          s.arb.ownWaiting.filter (fun x => x.purpose.rank == 1) ++ nullRewrites true s s.sched.queue) ∧
      (s.tally.counts.length = tallyPlaces → s.sched.queue ≠ [] →
        tallyOf t.tally .abandoned = min (tallyOf s.tally .abandoned + s.sched.queue.length) 65535)

/-- LOG_CLEAR: while the overflow flag is set, every group in the pending buffer is lost, the flag is cleared, and a LOG_LOST
with the lost count takes the next sequence number and stands alone in the buffer; FAULT is set. It waits there while the log
is busy or absent; otherwise it leaves the buffer at once: its 64 bytes are written at the write index, or, the log having
no place for it, it is lost in its turn. With the flag clear the latch alone changes (R174, R181, R182, R185). The lost count
past its 32 bits is a free value (log entry 46). -/
def Obligations.LogClear : Prop :=
  ∀ (s : State) (w : UpWrite), Quiet s → FieldWrite s w 0x00 →
    let v := latched w (anchorBase s + 0x00) 4 s.anchor.control.toNat
    let s1 := { forwardPass (.write w []) s with anchor := { s.anchor with control := BitVec.ofNat 32 v } }
    let k := bufferedRecords s.writer
    let lost := lostWith s.writer.lost k
    let record : LogRecord := { seq := s.writer.nextSeq % 2 ^ 32, e := s.enc.e, body := .event .logLost [lost] }
    let group : LogGroup := { records := [record], lostCount := some lost, fenced := false }
    let cleared := { s.writer with
      overflow := false, lost := lost, nextSeq := (s.writer.nextSeq + 1) % 2 ^ 32, buffer := []
      notices := { s.writer.notices with fault := true } }
    v.testBit 0 = enabled s → v.testBit 1 = true →
    (s.writer.overflow = true → s.window.log.valid = false ∨ s.writer.inFlight ≠ none →
      exec (.logClear w) s = .next (refreshStatus s { tallyAdd .recordsLost k s1 with
        writer := { cleared with buffer := [group] } })) ∧
    (s.writer.overflow = true → s.window.log.valid = true → s.writer.inFlight = none →
      (1 ≤ logSize s - unread s.writer → exec (.logClear w) s = .next (refreshStatus s { tallyAdd .recordsLost k s1 with
        writer := { cleared with inFlight := some group }
        arb := { s1.arb with ownWaiting := s.arb.ownWaiting ++
          [{ purpose := .log, live := true, body := .write record.bytes
             addr := s.window.log.base + 64 * (s.writer.writeIndex % logSize s) }] } })) ∧
      (logSize s - unread s.writer < 1 → exec (.logClear w) s = .next (refreshStatus s
        { tallyAdd .recordsLost 1 (tallyAdd .recordsLost k s1) with
          writer := { cleared with overflow := true, lost := lostWith lost 1 } }))) ∧
    (s.writer.overflow = false → exec (.logClear w) s = .next s1)

/-- ORDER_RING_SET: a write to ORDER_BASE, or to ORDER_SIZE with a code up to 6, sets head and tail to 0 and abandons the
current order, but for a completion write in flight; a greater code is refused with ANCHOR_BAD. ORDER_TAIL: a value below
the ring size that does not take the current order away replaces the tail; any other is refused with TAIL_BAD. That an
order whose fetch failed is still the current one is the model's reading (log entry 27) (R174, R176, R177, R178). -/
def Obligations.OrderRing : Prop :=
  ∀ (s : State) (w : UpWrite), Quiet s →
    (FieldWrite s w 0x08 → ∃ t, exec (.orderRingSet w) s = .next t ∧ t.orders.head = 0 ∧
      t.anchor = { s.anchor with
        orderBase := BitVec.ofNat 64 (latched w (anchorBase s + 0x08) 8 s.anchor.orderBase.toNat), orderTail := 0 } ∧
      ((∃ c, s.orders.phase = .completing c) → t.orders.phase = s.orders.phase) ∧
      ((∀ c, s.orders.phase ≠ .completing c) → t.orders.phase = .idle) ∧
      t = { s with anchor := t.anchor, orders := t.orders, writer := t.writer, arb := t.arb }) ∧
    (FieldWrite s w 0x10 →
      let v := latched w (anchorBase s + 0x10) 1 s.anchor.orderSize.toNat
      (v ≤ 6 → ∃ t, exec (.orderRingSet w) s = .next t ∧ t.orders.head = 0 ∧
        t.anchor = { s.anchor with orderSize := BitVec.ofNat 8 v, orderTail := 0 } ∧
        ((∀ c, s.orders.phase ≠ .completing c) → t.orders.phase = .idle) ∧
        t = { s with anchor := t.anchor, orders := t.orders, writer := t.writer, arb := t.arb }) ∧
      (6 < v → exec (.orderRingSet w) s =
        .next (refreshStatus s (issueEvent .anchorBad [0x10, v] (forwardPass (.write w []) s))))) ∧
    (FieldWrite s w 0x14 →
      let v := latched w (anchorBase s + 0x14) 4 s.anchor.orderTail.toNat
      (v < ringSize s → (s.orders.phase = .idle ∨ v ≠ s.orders.head) →
        exec (.orderTail w) s = .next { forwardPass (.write w []) s with
          anchor := { s.anchor with orderTail := BitVec.ofNat 32 v }
          orders := { s.orders with phase := if s.orders.phase = .fetchFailed then .idle else s.orders.phase } }) ∧
      (ringSize s ≤ v ∨ (s.orders.phase ≠ .idle ∧ v = s.orders.head) →
        exec (.orderTail w) s =
          .next (refreshStatus s (issueEvent .tailBad [v, ringSize s] (forwardPass (.write w []) s)))))

/-- LOG_READ: a value at most the log size behind the write index becomes the read index; another is refused with ANCHOR_BAD
and latches nothing. NOTICE_ENABLE and ANCHOR_WRITE (here to TABLE_PTR and to LOG_HIGH_WATER) set their latches; NOTICE_ACK
clears the notice flags written as one; CAPTURE_RELEASE frees the LOCKED slots among 0 to 3 whose bit is one and no other.
Each write goes on to memory. A latch takes the strobed bytes of the write and keeps its other bytes (R162, R174, R183,
R185). While entry 9 is invalid the log size is 0, the model's reading (log entry 21). -/
def Obligations.ControlFieldsLatched : Prop :=
  (∀ (s : State) (w : UpWrite), Quiet s →
    (FieldWrite s w 0x20 →
      let v := latched w (anchorBase s + 0x20) 4 s.anchor.logRead.toNat
      ((s.writer.writeIndex + 2 ^ 32 - v) % 2 ^ 32 ≤ logSize s →
        exec (.logRead w) s = .next { forwardPass (.write w []) s with
          anchor := { s.anchor with logRead := BitVec.ofNat 32 v }, writer := { s.writer with readIndex := v } }) ∧
      (logSize s < (s.writer.writeIndex + 2 ^ 32 - v) % 2 ^ 32 →
        exec (.logRead w) s = .next (refreshStatus s (issueEvent .anchorBad [0x20, v] (forwardPass (.write w []) s))))) ∧
    (FieldWrite s w 0x28 → exec (.noticeEnable w) s = .next { forwardPass (.write w []) s with
      anchor := { s.anchor with
        noticeEnable := BitVec.ofNat 8 (latched w (anchorBase s + 0x28) 1 s.anchor.noticeEnable.toNat) } }) ∧
    (FieldWrite s w 0x18 → exec (.anchorWrite w) s = .next { forwardPass (.write w []) s with
      anchor := { s.anchor with
        tablePtr := BitVec.ofNat 64 (latched w (anchorBase s + 0x18) 8 s.anchor.tablePtr.toNat) } }) ∧
    (FieldWrite s w 0x24 → exec (.anchorWrite w) s = .next { forwardPass (.write w []) s with
      anchor := { s.anchor with
        logHighWater := BitVec.ofNat 32 (latched w (anchorBase s + 0x24) 4 s.anchor.logHighWater.toNat) } }) ∧
    (FieldWrite s w 0x2C →
      let v := latched w (anchorBase s + 0x2C) 1 s.anchor.noticeAck.toNat
      let n := s.writer.notices
      exec (.noticeAck w) s = .next (refreshStatus s { forwardPass (.write w []) s with
        anchor := { s.anchor with noticeAck := BitVec.ofNat 8 v }
        writer := { s.writer with notices :=
          { fence := n.fence && !v.testBit 0, log := n.log && !v.testBit 1, capture := n.capture && !v.testBit 2
            report := n.report && !v.testBit 3, fault := n.fault && !v.testBit 4 } } })) ∧
    (FieldWrite s w 0x30 →
      let v := latched w (anchorBase s + 0x30) 1 s.anchor.captureRelease.toNat
      ∃ t, exec (.captureRelease w) s = .next t ∧
        t.anchor = { s.anchor with captureRelease := BitVec.ofNat 8 v } ∧ t.cap.copy = none ∧
        t.cap.slots.length = s.cap.slots.length ∧
        (∀ k c, s.cap.slots[k]? = some c →
          t.cap.slots[k]? = some (if k < 4 ∧ v.testBit k = true ∧ c = .locked then .free else c)) ∧
        t = { s with anchor := t.anchor, cap := t.cap, writer := t.writer, arb := t.arb })) ∧
  ∀ (w : UpWrite) (addr size old i : Nat), i < size →
    latched w addr size old / 256 ^ i % 256 =
      match byteFor w (addr + i) with
      | some b => b.toNat
      | none => old / 256 ^ i % 256

/-! ## Order Unit -/

/-- ORDER_FETCH: with orders pending and none current, one read of the 64 bytes at head waits at the arbiter. ORDER_FETCH_DONE:
the order is ready, or waits while A is below its not-before line; after an error nothing is executed and head stays. That an
order has a not-before line by the mark's value 1 alone is the model's reading of R191 (log entry 34).
COMPLETION_WRITE_RESPONSE: head advances past the order; an error is reported first (R177, R178). That it so advances from 0
when the ring has been set while the write was in flight is the model's reading (log entry 28). That the order's address is
not reduced to 40 bits, where the ring reaches past the address space, is the model's choice (log entry 64). -/
def Obligations.OrderFetchAndCompletion : Prop :=
  (∀ s : State, enabled s = true → s.orders.phase = .idle → s.orders.head ≠ orderTail s →
    exec .orderFetch s = .next { s with
      orders := { head := s.orders.head, orderAddr := orderBase s + 64 * s.orders.head, phase := .fetching }
      arb := { s.arb with ownWaiting := s.arb.ownWaiting ++
        [{ purpose := .orderFetch, live := true, addr := orderBase s + 64 * s.orders.head, body := .read 64 }] } }) ∧
  (∀ (s : State) (x : OwnTxn) (left : List OwnTxn) (data : List Byte),
    Awaited s (· == .orderFetch) x left → x.body = .read 64 → s.orders.phase = .fetching →
    (data.length = 64 → (∀ l ∈ orderNotBefore data, l ≤ s.asm.a) →
      exec (.orderFetchDone { okay := true, data := data }) s =
        .next { withOut left s with orders := { s.orders with phase := .ready data } }) ∧
    (data.length = 64 → (∃ l ∈ orderNotBefore data, s.asm.a < l) →
      exec (.orderFetchDone { okay := true, data := data }) s =
        .next { withOut left s with orders := { s.orders with phase := .waiting data } }) ∧
    exec (.orderFetchDone { okay := false, data := data }) s = .next (refreshStatus s
      (issueEvent .orderFetchError [s.orders.head, s.orders.orderAddr]
        { withOut left s with orders := { s.orders with phase := .fetchFailed } }))) ∧
  ∀ (s : State) (x : OwnTxn) (left : List OwnTxn) (code : Nat),
    Awaited s (· == .completion) x left → s.orders.phase = .completing code →
    let next : OrderUnit := { s.orders with head := (s.orders.head + 1) % ringSize s, phase := .idle }
    exec (.completionWriteResponse true) s = .next (refreshStatus s { withOut left s with orders := next }) ∧
    exec (.completionWriteResponse false) s = .next (refreshStatus s
      { issueEvent .completionFailed [s.orders.head, code] (withOut left s) with orders := next })

/-- NOP completes DONE and an unknown kind BAD_ORDER: the four bytes of the completion word wait at the arbiter for the
order's last four bytes. A completed order of any kind is the same with its own code and mask (R178, R188, R191). -/
def Obligations.NopAndBadOrder : Prop :=
  (∀ (s : State) (o : List Byte), OrderReady s kindNop o → exec .nop s = .next { s with
    orders := { s.orders with phase := .completing 1 }
    arb := { s.arb with ownWaiting := s.arb.ownWaiting ++
      [{ purpose := .completion, live := true, addr := s.orders.orderAddr + 0x3C, body := .write [1, 0, 0, 0] }] } }) ∧
  (∀ (s : State) (o : List Byte), s.orders.phase = .ready o → 12 < orderKind o → exec .badOrder s = .next { s with
    orders := { s.orders with phase := .completing 12 }
    arb := { s.arb with ownWaiting := s.arb.ownWaiting ++
      [{ purpose := .completion, live := true, addr := s.orders.orderAddr + 0x3C, body := .write [12, 0, 0, 0] }] } }) ∧
  ∀ (c : Completion) (mask : Nat) (s : State), mask < 65536 → ∃ bytes, completeMasked c mask s = { s with
    orders := { s.orders with phase := .completing c.code }
    arb := { s.arb with ownWaiting := s.arb.ownWaiting ++
      [{ purpose := .completion, live := true, addr := s.orders.orderAddr + 0x3C, body := .write bytes }] } } ∧
    bytes.length = 4 ∧ fieldAt bytes 0 1 = c.code ∧ fieldAt bytes 2 2 = mask

/-- FENCE marks the writes to wait for (the record groups handed over, the seal writes and null rewrites in flight and those
due, and the status block writes, which it counts), or completes RANGE for a bad address. FENCE_WRITE: once all of them
have ended, and not before, the value is written. FENCE_WRITE_RESPONSE: OKAY completes the FENCE, with the notice if it
carries the mark; an error is reported and sets no FENCE notice (R179, R185, R187). That the command changes nothing before
its time is log entry 8, that a notice mark is set by the value 1 alone log entry 34. -/
def Obligations.Fence : Prop :=
  (∀ (s : State) (o : List Byte), OrderReady s kindFence o →
    let status := (if s.writer.statusOut then 1 else 0) + (if s.writer.statusPending then 1 else 0)
    let group := fun g : LogGroup => { g with fenced := true }
    let own := fun x : OwnTxn => { x with purpose := match x.purpose with
      | .sealWrite j p q _ => .sealWrite j p q true
      | .nullWrite j q noted _ => .nullWrite j q noted true
      | p => p }
    (fieldAt o 0x10 8 < 2 ^ 40 → fieldAt o 0x10 8 % 4 = 0 → exec .fence s = .next { s with
      orders := { s.orders with
        phase := .fenceWait (fieldAt o 0x10 8) (fieldAt o 0x18 4) (decide (fieldAt o 0x1C 1 = 1)) status }
      writer := { s.writer with buffer := s.writer.buffer.map group, inFlight := s.writer.inFlight.map group }
      arb := { s.arb with ownWaiting := s.arb.ownWaiting.map own, ownOut := s.arb.ownOut.map own }
      sched := { s.sched with
        queue := s.sched.queue.map (fun p => if p.state = .decided then { p with fenced := true } else p) }
      tickets := s.tickets.map (fun r => if r.nullPending ≠ none then { r with nullFenced := true } else r) }) ∧
    (2 ^ 40 ≤ fieldAt o 0x10 8 ∨ fieldAt o 0x10 8 % 4 ≠ 0 → exec .fence s = .next (complete .range s))) ∧
  (∀ (s : State) (addr value : Nat) (mark : Bool) (status : Nat),
    s.orders.phase = .fenceWait addr value mark status →
    let ended := (∀ g ∈ s.writer.buffer, g.fenced = false) ∧ (∀ g ∈ s.writer.inFlight, g.fenced = false) ∧ status = 0 ∧
      (∀ x ∈ s.arb.ownWaiting ++ s.arb.ownOut,
        (∀ j p q, x.purpose ≠ .sealWrite j p q true) ∧ ∀ j q noted, x.purpose ≠ .nullWrite j q noted true) ∧
      (∀ p ∈ s.sched.queue, p.state = .decided → p.fenced = false) ∧
      ∀ r ∈ s.tickets, r.nullPending ≠ none → r.nullFenced = false
    (ended → exec .fenceWrite s = .next { s with
      orders := { s.orders with phase := .fenceWriting addr mark }
      arb := { s.arb with ownWaiting := s.arb.ownWaiting ++
        [{ purpose := .fence, live := true, addr := addr, body := .write (leBytes 4 value) }] } }) ∧
    (¬ ended → exec .fenceWrite s = .next s)) ∧
  ∀ (s : State) (x : OwnTxn) (left : List OwnTxn) (addr : Nat) (mark : Bool),
    Awaited s (· == .fence) x left → s.orders.phase = .fenceWriting addr mark →
    let s1 := withOut left s
    exec (.fenceWriteResponse true) s = .next (refreshStatus s (complete .done { s1 with
      writer := { s.writer with notices := { s.writer.notices with fence := s.writer.notices.fence || mark } } })) ∧
    exec (.fenceWriteResponse false) s = .next (refreshStatus s (complete .done (issueEvent .fenceFailed [addr] s1)))

/-- REFRESH: the selected part, or with ALL the whole table, is to be read; an unknown selector, or a table beyond the 40-bit
address space, completes RANGE. REFRESH_FETCH_DONE for a stream entry: of a stream in service it is refused IN_USE; after
an error it is TABLE_BAD; otherwise the entry is replaced as read, and it completes DONE, or TABLE_BAD with WINDOW_BAD if
the entry is invalid: out of range by itself, or its ring meeting the ticket ring. Any part that is not in use, and with
ALL every such part, is replaced as the window cache then reads; ALL completes DONE with the mask of the parts in use. A stream
entry and entry 8 that ALL replaces are both invalid if their rings overlap, and entry 8 replaced alone is invalid if its ring
overlaps that of a valid stream entry. With entry 9 replaced and valid the log begins again: both indexes and LOG_READ at 0 and the overflow flag clear, with LOG_LOST if
records were lost (R1, R123, R180, R182, R191). The model's reading: a table fetch is one read (log entry 29), the whole
REFRESH waits for the record group in flight (log entry 30), the ring of an entry out of range by itself is that of its fields
as read (log entry 41), a policy or RECOVER byte above 1 makes an entry invalid (log entry 6), the groups that wait are lost before LOG_LOST (log entry
22), and the next sequence number runs on (log entry 37). Where the header and the entries lie in the table is the model's choice
(log entry 63). -/
def Obligations.Refresh : Prop :=
  (∀ (s : State) (o : List Byte), OrderReady s kindRefresh o →
    let k := fieldAt o 0x10 1
    (k < 13 → tablePtr s + 832 ≤ 2 ^ 40 → exec .refresh s = .next { s with
      orders := { s.orders with phase := .refreshFetch k }
      arb := { s.arb with ownWaiting := s.arb.ownWaiting ++
        [{ purpose := .tableFetch, live := true, addr := tablePtr s + (if k = 12 then 0 else 64 + 64 * k), body := .read 64 }] } }) ∧
    (k = 13 → tablePtr s + 832 ≤ 2 ^ 40 → exec .refresh s = .next { s with
      orders := { s.orders with phase := .refreshFetch k }
      arb := { s.arb with ownWaiting := s.arb.ownWaiting ++
        [{ purpose := .tableFetch, live := true, addr := tablePtr s, body := .read 832 }] } }) ∧
    (13 < k ∨ 2 ^ 40 < tablePtr s + 832 → exec .refresh s = .next (complete .range s))) ∧
  (∀ (s : State) (n : Nat) (x : OwnTxn) (left : List OwnTxn) (data : List Byte),
    Awaited s (· == .tableFetch) x left → x.body = .read 64 → s.orders.phase = .refreshFetch n → n < 8 →
    n < s.window.streams.length →
    let s1 := withOut left s
    let entry := parseStream data
    let clash := s.window.ticket.valid && ringsMeet entry s.window.ticket
    let s2 := { s1 with window := { s.window with
      streams := s.window.streams.set n { entry with valid := entry.valid && !clash } } }
    ((stream s n).state ≠ .off → data.length = 64 → ∀ okay,
      exec (.refreshFetchDone { okay := okay, data := data }) s = .next (complete .inUse s1)) ∧
    ((stream s n).state = .off →
      exec (.refreshFetchDone { okay := false, data := data }) s = .next (complete .tableBad s1)) ∧
    ((stream s n).state = .off → data.length = 64 → entry.valid = true → clash = false →
      exec (.refreshFetchDone { okay := true, data := data }) s = .next (complete .done s2)) ∧
    ((stream s n).state = .off → data.length = 64 → entry.valid = false ∨ clash = true →
      exec (.refreshFetchDone { okay := true, data := data }) s =
        .next (refreshStatus s (complete .tableBad (issueEvent .windowBad [n] s2))))) ∧
  ∀ (s : State) (k : Nat) (x : OwnTxn) (left : List OwnTxn) (data : List Byte),
    Awaited s (· == .tableFetch) x left → x.body = .read data.length → s.orders.phase = .refreshFetch k →
    let r := replaceParts k data (withOut left s)
    r.window = refreshedWindow s k data ∧
    (k < 13 → partInUse s k = false → k ≠ 9 ∨ s.writer.inFlight = none →
      exec (.refreshFetchDone { okay := true, data := data }) s =
        .next (refreshStatus s (complete (if partValid r.window k then .done else .tableBad) r))) ∧
    (k = 13 → s.writer.inFlight = none →
      exec (.refreshFetchDone { okay := true, data := data }) s =
        .next (refreshStatus s (completeMasked .done (refusedMask s) r))) ∧
    (k = 13 → s.sched.queue = [] → ∀ n < 8, n < s.window.streams.length → (stream s n).state = .off →
      ringsMeet (parseStream (partBytes k n data)) (parseTicket s (partBytes k 8 data)) = true →
      partValid r.window n = false ∧ partValid r.window 8 = false) ∧
    (k = 8 → s.sched.queue = [] → ∀ x ∈ s.window.streams, x.valid = true → ringsMeet x (parseTicket s data) = true →
      partValid r.window 8 = false) ∧
    (k = 13 → exec (.refreshFetchDone { okay := false, data := data }) s = .next (complete .tableBad (withOut left s))) ∧
    (k = 9 ∨ k = 13 → s.writer.inFlight ≠ none → exec (.refreshFetchDone { okay := true, data := data }) s =
      .next { withOut left s with orders := { s.orders with phase := .refreshWait k data } }) ∧
    (k = 9 → (refreshedWindow s k data).log.valid = true → s.writer.inFlight = none → s.writer.buffer = [] →
      (s.writer.lost = 0 → r = { withOut left s with
        window := refreshedWindow s k data
        writer := { s.writer with writeIndex := 0, readIndex := 0, overflow := false }
        anchor := { s.anchor with logRead := 0 } }) ∧
      (0 < s.writer.lost → s.writer.lost < 2 ^ 32 →
        let record : LogRecord :=
          { seq := s.writer.nextSeq % 2 ^ 32, e := s.enc.e, body := .event .logLost [s.writer.lost] }
        r = { tallyAdd .recordsLost 0 (withOut left s) with
          window := refreshedWindow s k data
          anchor := { s.anchor with logRead := 0 }
          writer := { s.writer with
            writeIndex := 0, readIndex := 0, overflow := false, nextSeq := (s.writer.nextSeq + 1) % 2 ^ 32
            notices := { s.writer.notices with fault := true }
            inFlight := some { records := [record], lostCount := some s.writer.lost, fenced := false } }
          arb := { s.arb with
            ownOut := left
            ownWaiting := s.arb.ownWaiting ++
              [{ purpose := .log, live := true, body := .write record.bytes,
                 addr := (refreshedWindow s k data).log.base }] } }))

/-- STREAM_START: a stream that passes every check of R19 goes to SEEDING with a fresh directory; one in service is BUSY, a
number above 7 is RANGE, an invalid entry or header TABLE_BAD, and columns or a ring that meet another stream's, a ring that
meets the anchor page, and another stream's source tag are OVERLAP. STREAM_STOP: the stream is OFF, with nothing left of it,
and the others are as they were; a stream that is OFF is left so, and a number above 7 is RANGE. A hold of the stream ends,
its writes going on untracked, the held one first; a capture copy of the stream is abandoned, its slot FREE, every pin
cleared and its requests taken back (R3, R12, R19, R20, R163). -/
def Obligations.StreamStartStop : Prop :=
  (∀ (s : State) (o : List Byte), OrderReady s kindStreamStart o →
    let n := fieldAt o 0x10 1
    let w := streamWindow s n
    let others := fun test : StreamWindow → Prop =>
      ∀ m < 8, m ≠ n → (stream s m).state ≠ .off → test (streamWindow s m)
    (7 < n → exec .streamStart s = .next (complete .range s)) ∧
    (n ≤ 7 → (stream s n).state ≠ .off → exec .streamStart s = .next (complete .busy s)) ∧
    (n ≤ 7 → (stream s n).state = .off → w.valid = false ∨ s.window.header.valid = false →
      exec .streamStart s = .next (complete .tableBad s)) ∧
    (n ≤ 7 → (stream s n).state = .off → w.valid = true → s.window.header.valid = true → 16384 ≤ spanLast w →
      exec .streamStart s = .next (complete .range s)) ∧
    (n ≤ 7 → (stream s n).state = .off → w.valid = true → s.window.header.valid = true → spanLast w < 16384 →
      ¬ others (fun v => spanLast w < spanFirst v ∨ spanLast v < spanFirst w) →
      exec .streamStart s = .next (complete .overlap s)) ∧
    (n ≤ 7 → (stream s n).state = .off → w.valid = true → s.window.header.valid = true → spanLast w < 16384 →
      others (fun v => spanLast w < spanFirst v ∨ spanLast v < spanFirst w) →
      ¬ others (fun v => overlaps w.base (ringBytes w) v.base (ringBytes v) = false) ∨
        overlaps w.base (ringBytes w) (anchorBase s) 4096 = true ∨ ¬ others (fun v => v.tag ≠ w.tag) →
      exec .streamStart s = .next (complete .overlap s)) ∧
    (n ≤ 7 → (stream s n).state = .off → w.valid = true → s.window.header.valid = true → spanLast w < 16384 →
      others (fun v => spanLast w < spanFirst v ∨ spanLast v < spanFirst w) →
      others (fun v => overlaps w.base (ringBytes w) v.base (ringBytes v) = false) →
      overlaps w.base (ringBytes w) (anchorBase s) 4096 = false → others (fun v => v.tag ≠ w.tag) →
      exec .streamStart s = .next (refreshStatus s (complete .done (modStream n
        (fun _ => { StreamRec.off with state := .seeding, dir := List.replicate w.slotCount DirEntry.blank }) s))))) ∧
  (∀ (s : State) (o : List Byte), OrderReady s kindStreamStop o → Quiet s →
    let n := fieldAt o 0x10 1
    (7 < n → exec .streamStop s = .next (complete .range s)) ∧
    (n ≤ 7 → (stream s n).state = .off → exec .streamStop s = .next (complete .done s)) ∧
    (n ≤ 7 → (stream s n).state ≠ .off → ∃ t, exec .streamStop s = .next t ∧ stream t n = StreamRec.off ∧
      (∀ m, m ≠ n → stream t m = stream s m) ∧ t.orders.phase = .completing 1 ∧ t.asm.a = s.asm.a ∧ t.det = s.det ∧
      t = { s with streams := t.streams, asm := t.asm, orders := t.orders, writer := t.writer, arb := t.arb })) ∧
  (∀ (s : State) (o : List Byte) (h : Hold), OrderReady s kindStreamStop o → s.cap.copy = none → s.toTake = [] →
    let n := fieldAt o 0x10 1
    n ≤ 7 → (stream s n).state ≠ .off → (∀ m, m ≠ n → (stream s m).hold = none) → (stream s n).hold = some h →
    h.queue.length < 16 → (∀ w ∈ h.held :: h.queue, PlainWrite s w) →
    ∃ t, exec .streamStop s = .next t ∧ stream t n = StreamRec.off ∧ (∀ m, m ≠ n → stream t m = stream s m) ∧
      t.arb.passWaiting = s.arb.passWaiting.map (fun x => match x with
          | .write w notes => .write w (notes.filter (fun y => y.stream != n))
          | .read r nulls => .read r nulls) ++ (h.held :: h.queue).map (fun w => .write w []) ∧
      t.toTake = [] ∧ t = { s with streams := t.streams, asm := t.asm, orders := t.orders, writer := t.writer, arb := t.arb }) ∧
  ∀ (s : State) (o : List Byte) (c : Copy), OrderReady s kindStreamStop o → (∀ m, (stream s m).hold = none) →
    s.toTake = [] → s.cap.copy = some c →
    let n := fieldAt o 0x10 1
    n ≤ 7 → (stream s n).state ≠ .off → (∃ cs ∈ c.streams, cs.stream = n) →
    ∃ t, exec .streamStop s = .next t ∧ stream t n = StreamRec.off ∧
      t.cap = { slots := s.cap.slots.set c.slot .free, copy := none } ∧
      (∀ m, m ≠ n → stream t m = { stream s m with dir := (stream s m).dir.map (fun e => { e with pin := false }) }) ∧
      (∀ x ∈ t.arb.ownWaiting, x.purpose.isCapture = false) ∧
      (∀ x ∈ t.arb.ownOut, x.purpose.isCapture = true → x.live = false) ∧
      t = { s with
        streams := t.streams, asm := t.asm, cap := t.cap, orders := t.orders, writer := t.writer, arb := t.arb }

/-- TABLE_LOAD: 512 bytes at a multiple of 16 within the address space are to be read, or RANGE. TABLE_LOAD_FETCH_DONE: both
tables are replaced in one act if every check of R142 passes; otherwise, or after an error, neither, and TABLE_BAD
(R76, R141, R142, R143). That the block is one read is the model's form (log entry 29). -/
def Obligations.TableLoad : Prop :=
  (∀ (s : State) (o : List Byte), OrderReady s kindTableLoad o →
    let a := fieldAt o 0x10 8
    (a % 16 = 0 → a + 512 ≤ 2 ^ 40 → exec .tableLoad s = .next { s with
      orders := { s.orders with phase := .tableFetch }
      arb := { s.arb with ownWaiting := s.arb.ownWaiting ++
        [{ purpose := .tableLoadFetch, live := true, addr := a, body := .read 512 }] } }) ∧
    (a % 16 ≠ 0 ∨ 2 ^ 40 < a + 512 → exec .tableLoad s = .next (complete .range s))) ∧
  ∀ (s : State) (x : OwnTxn) (left : List OwnTxn) (data : List Byte),
    Awaited s (· == .tableLoadFetch) x left → x.body = .read 512 → s.orders.phase = .tableFetch →
    let s1 := withOut left s
    let g := parseGrades data
    let good := g.prime < g.standard ∧ g.standard < g.second ∧ 1 ≤ g.cap ∧ g.cap ≤ 4 ∧ g.bandLines ≤ 1023 ∧
      ∀ i < 7, 1 ≤ fieldAt data (16 * i) 1 ∧ fieldAt data (16 * i) 1 ≤ 3
    exec (.tableLoadFetchDone { okay := false, data := data }) s = .next (complete .tableBad s1) ∧
    (data.length = 512 → ¬ good →
      exec (.tableLoadFetchDone { okay := true, data := data }) s = .next (complete .tableBad s1)) ∧
    (data.length = 512 → good → ∃ rules : List ClassRule,
      exec (.tableLoadFetchDone { okay := true, data := data }) s =
        .next (complete .done { s1 with grades := g, blobs := { s.blobs with rules := rules } }) ∧
      rules.length = 7 ∧ ∀ i r, rules[i]? = some r → parseRule data i = some r)

/-- PLAN_SET: the fields become the plan in force if each lies in its range and the relations of R97 hold; otherwise
PLAN_BAD and the plan stays. While the conditions of R99 do not hold, that is all; while the scheduler is active, the
decision at S is evaluated under the new plan; and if the plan makes them hold, the scheduler becomes active with S beyond
A (R97, R98, R99, R101). -/
def Obligations.PlanSet : Prop :=
  ∀ (s : State) (o : List Byte), OrderReady s kindPlanSet o →
    let f := fun off size => fieldAt o off size
    let nominal := f 0x10 2
    let pitch := f 0x14 2
    let good := 4000 ≤ nominal ∧ pitch ≤ f 0x12 2 ∧ f 0x12 2 ≤ nominal ∧ 1024 ≤ pitch ∧ pitch ≤ 16383 ∧ f 0x16 2 ≤ 1023 ∧
      pitch ≤ f 0x18 2 ∧ f 0x18 2 ≤ nominal ∧ 8192 ≤ f 0x1A 4 ∧ f 0x1A 4 ≤ 262143 ∧ 256 ≤ f 0x1E 2 ∧ f 0x1E 2 ≤ 8191 ∧
      64 ≤ f 0x20 2 ∧ f 0x20 2 ≤ 4095 ∧ 64 ≤ f 0x22 2 ∧ f 0x22 2 ≤ 4095 ∧ f 0x1E 2 + nominal + f 0x20 2 < f 0x1A 4 ∧
      (f 0x25 1 = 1 ∨ f 0x25 1 = 2) ∧ (f 0x26 1 = 1 ∨ f 0x26 1 = 2) ∧ (f 0x27 1 = 1 ∨ f 0x27 1 = 2)
    let p : Plan :=
      { nominal := nominal, minPlate := f 0x12 2, pitch := pitch, guard := f 0x16 2, strip := f 0x18 2
        distance := f 0x1A 4, margin := f 0x1E 2, slack := f 0x20 2, missWindow := f 0x22 2, tolerance := f 0x24 1
        mode := if f 0x25 1 = 1 then .avoid else .fixed, gapPolicy := if f 0x26 1 = 1 then .avoid else .grade
        missAction := if f 0x27 1 = 1 then .retire else .keep }
    let s1 := complete .done { s with sched := { s.sched with plan := some p } }
    (¬ good → exec .planSet s = .next (complete .planBad s)) ∧
    (good → s.sched.active = false → enabled s = false ∨ s.window.ticket.valid = false → exec .planSet s = .next s1) ∧
    (good → s.sched.active = true → exec .planSet s = .next (refreshStatus s (plateChanged (evaluate s1)))) ∧
    (good → s.sched.active = false → enabled s = true → s.window.ticket.valid = true →
      ∃ t, exec .planSet s = .next t ∧ t.sched.active = true ∧ t.sched.plan = some p ∧ s.asm.a < t.sched.start ∧
        t.orders.phase = .completing 1)

/-- CUT_REQUEST: the position is stored, and while the scheduler is active the decision is evaluated; with a request pending,
BUSY. RESTART while inactive clears the request; while active it keeps the plates up to the last that is TAKEN, frozen,
CUT, SKIPPED, MISSED or SEAL_FAILED, abandons the rest, clears the request and starts at X0 or where the first abandoned
plate started, whichever is greater, under that plate's number and sequence. Each abandoned plate leaves its ticket slot, whose
null rewrite is issued or pending if the plate was SEALED or SEALING, its cut leaves the split list, and it is tallied; the
stretch up to X0 is tallied as unplanned length and as advance of S, and RESTARTED tells the number of plates abandoned, where
the first began, the new S and the next sequence (R113, R117, R118, R119, R121, R137). What the abandoned
plates were offered is marked, so as not to be offered again (log entry 47); RESTART's own act and the decision at the new S
each prompt the status block (R122, R184; log entry 20). -/
def Obligations.CutRequestAndRestart : Prop :=
  (∀ (s : State) (o : List Byte), OrderReady s kindCutRequest o →
    let s1 := complete .done { s with sched := { s.sched with request := some (fieldAt o 0x10 6) } }
    (s.sched.request ≠ none → exec .cutRequest s = .next (complete .busy s)) ∧
    (s.sched.request = none → s.sched.active = false → s.sched.queue = [] → exec .cutRequest s = .next s1) ∧
    (s.sched.request = none → exec .cutRequest s = .next (refreshStatus s (plateChanged (evaluate s1))))) ∧
  ∀ (s : State) (o : List Byte), OrderReady s kindRestart o →
    (s.sched.active = false →
      exec .restart s = .next (complete .done { s with sched := { s.sched with request := none } })) ∧
    ∀ p, s.sched.active = true → s.sched.plan = some p →
      let r := restartPlates p s
      let committed := fun q : Plate => q.state = .taken ∨ q.state = .cut ∨ q.state = .skipped ∨ q.state = .missed ∨
        q.state = .sealFailed ∨ q.cut + q.distance ≤ s.enc.e + q.margin
      let restarted := refreshStatus s (complete .done r)
      exec .restart s = .next (refreshStatus restarted (plateChanged (evaluate restarted))) ∧
      ∃ kept gone, s.sched.queue = kept ++ gone ∧ r.sched.queue = kept ∧ (∀ q ∈ gone, ¬ committed q) ∧
        (∀ q, kept.getLast? = some q → committed q) ∧ r.sched.request = none ∧
        (gone = [] → r.sched.start = max s.sched.start (s.enc.e + p.margin + 1 - p.distance) ∧
          r.sched.nextPlate = s.sched.nextPlate ∧ r.sched.nextSeq = s.sched.nextSeq) ∧
        (∀ q, gone.head? = some q → r.sched.start = max q.start (s.enc.e + p.margin + 1 - p.distance) ∧
          r.sched.nextPlate = q.num ∧ r.sched.nextSeq = q.seq) ∧
        let given := fun f : ListedFlaw => gone.any (fun q => decide (f.y0 < q.cut) && decide (q.start ≤ f.y1))
        r.sched.flaws = (s.sched.flaws.map (fun f => { f with spent := f.spent || given f })).filter
          (fun f => decide (r.sched.start ≤ f.y1)) ∧
        let x0 := s.enc.e + p.margin + 1 - p.distance
        let b := match gone with
          | q :: _ => q.start
          | [] => s.sched.start
        ∃ u, r = issueEvent .restarted [gone.length, b, r.sched.start, r.sched.nextSeq] u ∧
          u = { s with
            sched := r.sched, tickets := u.tickets, tally := u.tally, arb := u.arb
            blobs := { s.blobs with splits := s.blobs.splits.filter (fun c => gone.all (fun q => decide (c ≠ q.cut))) } } ∧
          (s.tally.counts.length = tallyPlaces →
            (gone ≠ [] → tallyOf u.tally .abandoned = min (tallyOf s.tally .abandoned + gone.length) 65535) ∧
            (b < x0 → tallyOf u.tally .unplannedLength = min (tallyOf s.tally .unplannedLength + (x0 - b)) (2 ^ 48 - 1) ∧
              tallyOf u.tally .sAdvance = min (tallyOf s.tally .sAdvance + (x0 - b)) (2 ^ 48 - 1)) ∧
            (x0 ≤ b → gone = [] → u.tally = s.tally)) ∧
          (SlotsApart s gone →
            (∀ j, (∀ q ∈ gone, slotOf s q.seq ≠ j) → slotRec u j = slotRec s j) ∧
            (∀ q ∈ gone, slotRec u (slotOf s q.seq) = withdrawnSlot false q (slotRec s (slotOf s q.seq))) ∧
            u.arb = { s.arb with ownWaiting := s.arb.ownWaiting ++ nullRewrites false s gone })

/-! ## Tally Unit, Capture Engine, Record Writer -/

/-- SHIFT_CLOSE: with no report in flight and entry 11 valid the tallies start again from zero under the next id and A, and
the order completes DONE; the report record is formed (its header with the tallies, then a section for each label of which a
piece retired, padded with zeros to whole units of 32 bytes) and waits at the arbiter in bursts of 256 bytes for the report slot of the
closing id; with entry 11 invalid TABLE_BAD; with a report in flight it waits. REPORT_WRITE_RESPONSE: with every burst OKAY
the report is over and the REPORT notice set. At an error the bursts not yet granted are taken back, and those in flight are
left to end with their responses disregarded; when they have ended the report is over with REPORT_FAILED, which carries the
closing id and the address of the burst that failed (R164, R166 to R171, R185, R193). That one command may bring several
responses is the model's form (log entry 39), and that they come in the order in which the bursts were granted, so that the
first of several failures is the oldest burst's, its choice (log entry 49). That they are the bursts of the present report, those
that a pin reset abandoned being passed over and taken off with its end, is the model's choice too (log entry 61). -/
def Obligations.ShiftReport : Prop :=
  (∀ (s : State) (o : List Byte), OrderReady s kindShiftClose o →
    let labels := (List.range 15).filterMap (fun i =>
      if 0 < tallyOf s.tally (.lanePieces (i + 1) 1) ∨ 0 < tallyOf s.tally (.lanePieces (i + 1) 2) ∨
          0 < tallyOf s.tally (.lanePieces (i + 1) 3) ∨ 0 < tallyOf s.tally (.lanePieces (i + 1) 4) then some (i + 1)
      else none)
    let units := (160 + 48 * labels.length + 31) / 32
    let tallies : List TallyKey :=
      [.decided .nominal, .decided .requested, .decided .short, .decided .cullet, .decided .late, .forced, .retired .cut,
        .retired .skipped, .retired .missed, .retired .sealFailed, .abandoned] ++ (List.range 10).map .flaw ++
      [.specks, .captureTaken, .captureRejected, .nullServed, .recordsLost] ++
      ((List.range 8).map (fun n => [TallyKey.overrun n, .held n, .missing n])).flatten
    let prime := tallyOf s.tally (.areaByGrade 1)
    let graded := prime + tallyOf s.tally (.areaByGrade 2) + tallyOf s.tally (.areaByGrade 3) +
      tallyOf s.tally (.areaByGrade 4)
    (s.tally.report = .idle → s.window.report.valid = true → ∃ (t : State) (writes : List OwnTxn),
      exec .shiftClose s = .next (refreshStatus s (complete .done t)) ∧
      t = { s with tally := t.tally, arb := { s.arb with ownWaiting := s.arb.ownWaiting ++ writes } } ∧
      (∀ k, tallyOf t.tally k = 0) ∧ t.tally.firstPlate = none ∧ t.tally.lastPlate = none ∧
      t.tally.saturated = false ∧ t.tally.shiftId = fieldAt o 0x10 4 ∧ t.tally.shiftStart = s.asm.a ∧
      t.tally.report = .writing s.tally.shiftId ∧
      (let r := t.tally.buffer
       r.length = 32 * units ∧ fieldAt r 0 4 = s.tally.shiftId % 2 ^ 32 ∧ fieldAt r 4 4 = fieldAt o 0x10 4 ∧
       fieldAt r 8 6 = s.tally.shiftStart % 2 ^ 48 ∧ fieldAt r 14 6 = s.asm.a % 2 ^ 48 ∧
       fieldAt r 20 4 = s.tally.firstPlate.getD 0 % 2 ^ 32 ∧ fieldAt r 24 4 = s.tally.lastPlate.getD 0 % 2 ^ 32 ∧
       fieldAt r 28 1 = units ∧ fieldAt r 29 1 = labels.length ∧
       fieldAt r 30 1 = (if s.tally.saturated then 1 else 0) ∧
       fieldAt r 32 2 = (if graded = 0 then 0 else 1000 * prime / graded) ∧
       fieldAt r 0x22 6 = tallyOf s.tally .decidedLength % 2 ^ 48 ∧
       fieldAt r 0x28 6 = tallyOf s.tally .unplannedLength % 2 ^ 48 ∧
       fieldAt r 0x2E 6 = tallyOf s.tally .sAdvance % 2 ^ 48 ∧
       (∀ i k, tallies[i]? = some k → fieldAt r (0x34 + 2 * i) 2 = tallyOf s.tally k % 2 ^ 16) ∧
       (∀ n < 8, fieldAt r (0x98 + n) 1 = tallyOf s.tally (.expiries n) % 2 ^ 8) ∧
       (∀ i, i = 31 ∨ (∃ j < labels.length, 160 + 48 * j < i ∧ i < 160 + 48 * j + 8) ∨
          (160 + 48 * labels.length ≤ i ∧ i < 32 * units) → r[i]? = some 0) ∧
       (∀ i l, labels[i]? = some l → fieldAt r (160 + 48 * i) 1 = l ∧ ∀ g < 4,
         fieldAt r (160 + 48 * i + 8 + 2 * g) 2 = tallyOf s.tally (.lanePieces l (g + 1)) % 2 ^ 16 ∧
         fieldAt r (160 + 48 * i + 16 + 8 * g) 8 = tallyOf s.tally (.laneArea l (g + 1)) % 2 ^ 64) ∧
       writes.length = (32 * units + 255) / 256 ∧
       ∀ (i : Nat) (x : OwnTxn), writes[i]? = some x → x =
         { purpose := .report, live := true, body := .write ((r.drop (256 * i)).take 256),
           addr := s.window.report.base + 1024 * (s.tally.shiftId % s.window.report.count) + 256 * i })) ∧
    (s.tally.report = .idle → s.window.report.valid = false → exec .shiftClose s = .next (complete .tableBad s)) ∧
    (s.tally.report ≠ .idle → exec .shiftClose s =
      .next { s with orders := { s.orders with phase := .shiftWait (fieldAt o 0x10 4) } })) ∧
  (∀ (s : State) (closing : Nat) (x : OwnTxn) (pre post : List OwnTxn),
    let ofReport := fun y : OwnTxn => y.live = true ∧ y.purpose = .report
    s.arb.ownOut = pre ++ x :: post → (∀ y ∈ pre, ¬ ofReport y) → ofReport x → (∀ n, s.orders.phase ≠ .shiftWait n) →
    let inFlight := ∃ y ∈ post, ofReport y
    let waiting := ∃ y ∈ s.arb.ownWaiting, ofReport y
    let answered := { s with arb := { s.arb with ownOut := pre ++ post } }
    (s.tally.report = .writing closing → inFlight ∨ waiting →
      exec (.reportWriteResponse [true]) s = .next answered) ∧
    (s.tally.report = .writing closing → inFlight → exec (.reportWriteResponse [false]) s = .next { s with
      tally := { s.tally with report := .failing closing x.addr }
      arb := { s.arb with
        ownOut := pre ++ post, ownWaiting := s.arb.ownWaiting.filter (fun y => !(y.purpose == .report))
        count := if s.arb.ownWaiting.all (fun y => y.purpose == .report) then 0 else s.arb.count } }) ∧
    ∀ (addr : Nat) (okay : Bool), s.tally.report = .failing closing addr → ¬ waiting →
      (inFlight → exec (.reportWriteResponse [okay]) s = .next answered) ∧
      (¬ inFlight → exec (.reportWriteResponse [okay]) s = .next (refreshStatus s
        (let told := issueEvent .reportFailed [closing, addr] (clearOut (· == .report) answered)
         { told with tally := { told.tally with report := .idle, buffer := [] } })))) ∧
  ∀ (s : State) (closing : Nat) (okays : List Bool),
    s.tally.report = .writing closing → (∀ n, s.orders.phase ≠ .shiftWait n) → okays ≠ [] →
    (liveOut .report s).length = okays.length →
    (stillWaiting .report s = false → (∀ b ∈ okays, b = true) →
      exec (.reportWriteResponse okays) s = .next (refreshStatus s { clearOut (· == .report) s with
        tally := { s.tally with report := .idle, buffer := [] }
        writer := { s.writer with notices := { s.writer.notices with report := true } } })) ∧
    ∀ pre x post later, liveOut .report s = pre ++ x :: post →
      okays = List.replicate pre.length true ++ false :: later →
      let ended := { s with arb := { s.arb with
        ownWaiting := s.arb.ownWaiting.filter (fun y => !(y.purpose == .report))
        ownOut := s.arb.ownOut.filter (fun y => !(y.purpose == .report))
        count := if s.arb.ownWaiting.all (fun y => y.purpose == .report) then 0 else s.arb.count } }
      let told := issueEvent .reportFailed [closing, x.addr] ended
      exec (.reportWriteResponse okays) s = .next (refreshStatus s { told with
        tally := { told.tally with report := .idle, buffer := [] } })

/-- The capture copy's responses. CAPTURE_SEGMENT_READ_DONE: the segment is kept for its row, or its line is missing after an
error, and the stream's next line is handled. CAPTURE_ROW_WRITE_DONE: one row write less is in flight; an error ends the
capture with its slot FREE. CAPTURE_HEADER_WRITE_DONE: the slot is LOCKED, the copy ends, the notice is set and a capture
is tallied, with CAPTURE_PARTIAL if lines are missing; a held header write that only a pin kept back is released with it,
and begins its fill. A row is 256 bytes, each the byte of the first capture stream over its column that has the line's
segment, and zero otherwise; a segment's bytes at or beyond the slot's pixel count are zero. A segment is unavailable if its
line lies below 0, its stream is FAULTED, or no slot holds its stamp and the stamp, or the line, is passed. This is tested
for every line of the window that a stream has neither read nor begun to read: what is found stays unavailable, and its line
is missing (R11, R157 to R161). That a response to a row write answers the oldest granted, whose address CAPTURE_FAILED
then carries, is the model's choice (log entry 58). So is the clause of CAPTURE_SEGMENT_READ_DONE that passes over the abandoned
forerunners of the read and takes them off the arbiter (log entry 61). That a line whose read has been issued is not tested any
more is the model's reading (log entry 32). -/
def Obligations.CaptureResponses : Prop :=
  (∀ (s : State) (n : Fin 8) (c : Copy) (cs : CapStream) (pixels : Nat) (results : List ReadResult) (txns : List OwnTxn),
    readingStream s n = some (c, cs, pixels) → allGranted (· == .captureRead n) s = some txns →
    resultsFit txns results = true →
    let s1 := unpinStamp cs.stream ((c.yw + cs.next).toNat + cs.stagger) (clearOut (· == .captureRead n) s)
    (results.all (·.okay) = true → exec (.captureSegmentReadDone n results) s = .next (finish s
      (modCapStream cs.stream (fun x => { x with
        segments := x.segments ++ [(cs.next, segmentBytes cs pixels (segmentData s cs results))]
        next := cs.next + 1, reading := none }) s1))) ∧
    (results.all (·.okay) = false →
      exec (.captureSegmentReadDone n results) s = .next (finish s (missSegment cs s1)))) ∧
  (∀ (s : State) (x : OwnTxn) (left : List OwnTxn) (c : Copy), Awaited s (· == .captureRow) x left →
    s.cap.copy = some c →
    exec (.captureRowWriteDone true) s =
      .next (finish s (modCopy (fun c => { c with rowsOut := c.rowsOut - 1 }) (withOut left s))) ∧
    exec (.captureRowWriteDone false) s =
      .next (finish s (issueEvent .captureFailed [c.slot, c.flaw, x.addr] (dropCopy (withOut left s))))) ∧
  (∀ (s : State) (x : OwnTxn) (left : List OwnTxn) (c : Copy), Awaited s (· == .captureHeader) x left →
    s.cap.copy = some c → s.toTake = [] → (∀ n, (stream s n).hold = none) →
    let s1 := { withOut left s with
      cap := { slots := s.cap.slots.set c.slot .locked, copy := none }
      streams := s.streams.map (fun r => { r with dir := r.dir.map (fun e => { e with pin := false }) })
      writer := { s.writer with notices := { s.writer.notices with capture := true } }
      tally := s.tally.add .captureTaken 1 }
    exec (.captureHeaderWriteDone true) s = .next (refreshStatus s
      (if 0 < c.missing.count true then issueEvent .capturePartial [c.slot, c.flaw, c.missing.count true] s1 else s1)) ∧
    exec (.captureHeaderWriteDone false) s =
      .next (refreshStatus s (issueEvent .captureFailed [c.slot, c.flaw, x.addr] (dropCopy (withOut left s))))) ∧
  (∀ (s : State) (x : OwnTxn) (left : List OwnTxn) (c : Copy) (n k stamp count start : Nat) (w : UpWrite),
    Awaited s (· == .captureHeader) x left → s.cap.copy = some c → s.toTake = [] →
    (∀ m, m ≠ n → (stream s m).hold = none) → (stream s n).hold = some { start := start, held := w, queue := [] } →
    HeaderWriteFor s w n k → (dirEntry s n k).state = .done → (dirEntry s n k).pin = true → (stream s n).fill = none →
    GoodHeader (streamWindow s n).slotSize w.data stamp count → StampFits s n stamp → c.missing.count true = 0 →
    let locked := { withOut left s with
      cap := { slots := s.cap.slots.set c.slot .locked, copy := none }
      streams := s.streams.map (fun r => { r with dir := r.dir.map (fun e => { e with pin := false }) })
      writer := { s.writer with notices := { s.writer.notices with capture := true } }
      tally := s.tally.add .captureTaken 1 }
    exec (.captureHeaderWriteDone true) s = .next (forwardPass (.write w [headerNote n k count w.data.length])
      (fillBegun n k stamp count w.data.length
        (modStream n (fun r => { r with hold := none }) (refreshStatus s locked))))) ∧
  (∀ (c : Copy) (row i : Nat), i < 256 →
    (rowBytes c row).length = 256 ∧
    ((∀ cs ∈ c.streams, ¬ (cs.first ≤ c.x0 + i ∧ c.x0 + i ≤ cs.last)) → (rowBytes c row)[i]? = some 0) ∧
    ∀ pre cs post, c.streams = pre ++ cs :: post → (∀ y ∈ pre, ¬ (y.first ≤ c.x0 + i ∧ c.x0 + i ≤ y.last)) →
      cs.first ≤ c.x0 + i → c.x0 + i ≤ cs.last →
      ((∀ g ∈ cs.segments, g.1 ≠ row) → (rowBytes c row)[i]? = some 0) ∧
      ∀ done data later, cs.segments = done ++ (row, data) :: later → (∀ g ∈ done, g.1 ≠ row) →
        (rowBytes c row)[i]? = some (data.getD (c.x0 + i - cs.first) 0)) ∧
  (∀ (cs : CapStream) (pixels i : Nat) (data : List Byte), (segmentBytes cs pixels data)[i]? =
    data[i]?.map (fun b => if cs.winStart + (cs.first - cs.colBase) + i < pixels then b else 0)) ∧
  (∀ (s : State) (c : Copy) (cs : CapStream) (j : Nat),
    let line := c.yw + j
    let stamp := line.toNat + cs.stagger
    (unavailable s c cs j = true ↔ line < 0 ∨ (stream s cs.stream).state = .faulted ∨
      ((∀ e ∈ (stream s cs.stream).dir,
          ¬ (e.stamp = some stamp ∧ (e.state = .filling ∨ e.state = .ready ∨ e.state = .done))) ∧
        ((∃ l, (stream s cs.stream).lastStamp = some l ∧ stamp ≤ l) ∨ line ≤ s.asm.a))) ∧
    (segmentState s c cs = .unavailable ↔ cs.gone.getD cs.next false = true)) ∧
  (∀ (s : State) (c : Copy), s.cap.copy = some c → ∃ missing,
    testSegments s = { s with cap := { s.cap with copy := some { c with
      streams := c.streams.map (testedStream s c), missing := missing } } } ∧
    missing.length = c.missing.length ∧
    (∀ j < c.missing.length, missing.getD j false = true ↔ c.missing.getD j false = true ∨
      ∃ cs ∈ c.streams, (testedStream s c cs).gone.getD j false = true) ∧
    ∀ cs ∈ c.streams, (∃ gone, testedStream s c cs = { cs with gone := gone } ∧ gone.length = cs.gone.length) ∧
      ∀ j < cs.gone.length, (testedStream s c cs).gone.getD j false = true ↔ cs.gone.getD j false = true ∨
        ((cs.next < j ∨ (cs.next = j ∧ cs.reading = none)) ∧ unavailable s c cs j = true)) ∧
  ∀ (s : State) (c : Copy) (cs : CapStream) (j : Nat),
    (advanceCapture s).cap.copy = some c → cs ∈ c.streams → j < cs.gone.length →
    cs.next < j ∨ (cs.next = j ∧ cs.reading = none) → unavailable (advanceCapture s) c cs j = true →
    cs.gone.getD j false = true

/-- An event handed over takes the next sequence number; its error mark sets FAULT. It waits in the pending buffer while the log
is busy or absent; at the head of the buffer of a free log its 64 bytes are written at the write index, or it is lost, the
overflow flag being set or the log having no place for it; with 64 records waiting it is lost at once. A record lost is added
to the lost count and the tally, and sets the overflow flag (R181, R185, R188). The lost count within its 32 bits is the
sum, or the difference; past them it is a free value (log entry 46). -/
def Obligations.EventHanded : Prop :=
  (∀ (k : EventKind) (fields : List Nat) (s : State),
    let record : LogRecord := { seq := s.writer.nextSeq % 2 ^ 32, e := s.enc.e, body := .event k fields }
    let group : LogGroup := { records := [record], lostCount := none, fenced := false }
    let writer := { s.writer with
      nextSeq := (s.writer.nextSeq + 1) % 2 ^ 32
      notices := { s.writer.notices with fault := s.writer.notices.fault || k.isError } }
    let lost := { tallyAdd .recordsLost 1 s with
      writer := { writer with lost := lostWith s.writer.lost 1, overflow := true } }
    (bufferedRecords s.writer < 64 → s.window.log.valid = false ∨ s.writer.inFlight ≠ none →
      issueEvent k fields s = { s with writer := { writer with buffer := s.writer.buffer ++ [group] } }) ∧
    (s.window.log.valid = true → s.writer.inFlight = none → s.writer.buffer = [] →
      (s.writer.overflow = false → 1 ≤ logSize s - unread s.writer → issueEvent k fields s = { s with
        writer := { writer with inFlight := some group }
        arb := { s.arb with ownWaiting := s.arb.ownWaiting ++
          [{ purpose := .log, live := true, body := .write record.bytes,
             addr := s.window.log.base + 64 * (s.writer.writeIndex % logSize s) }] } }) ∧
      (s.writer.overflow = true ∨ logSize s - unread s.writer < 1 → issueEvent k fields s = lost)) ∧
    (64 ≤ bufferedRecords s.writer → issueEvent k fields s = lost) ∧
    record.bytes.length = 64) ∧
  ∀ lost n : Nat, (lost + n < 2 ^ 32 → lostWith lost n = lost + n) ∧ (n ≤ lost → lostLess lost n = lost - n) ∧
    lostWith lost n < 2 ^ 32 ∧ (lost < 2 ^ 32 → lostLess lost n < 2 ^ 32)

/-- LOG_WRITE_RESPONSE: with every write of the group OKAY the write index advances by its records, a LOG_LOST's count leaves
the lost count, and the LOG notice is set at the high-water crossing, or always with a mark of 0; with an error the group
is lost. The group then at the head of the buffer is taken: it leaves the buffer, one write for each record at successive
log indexes, or it is lost, the overflow flag being set or the log having no place for it, and every group behind it is then
lost in turn. With entry 9 invalid the buffer stays. A REFRESH that waits for the group is taken once the group has ended, before
the next group is (R180, R181, R182, R183). The model's own: the responses are those of the present group, abandoned record
writes being passed over and taken off (log entry 61); the lost count past its 32 bits or below zero is a free value (log entry
46); the whole of a REFRESH of entry 9 waits (log entry 30). -/
def Obligations.LogWriteResponse : Prop :=
  (∀ (s : State) (g : LogGroup) (okays : List Bool),
    s.writer.inFlight = some g → stillWaiting .log s = false → (liveOut .log s).length = okays.length →
    let mark := s.anchor.logHighWater.toNat
    let w := { s.writer with
      inFlight := none, writeIndex := (s.writer.writeIndex + g.records.length) % 2 ^ 32
      lost := lostLess s.writer.lost (g.lostCount.getD 0) }
    let written := { w with notices := { w.notices with
      log := w.notices.log || decide (mark = 0 ∨ (unread s.writer < mark ∧ mark ≤ unread w)) } }
    let s1 := clearOut (· == .log) s
    let failed := { tallyAdd .recordsLost g.records.length s1 with writer := { s.writer with
      inFlight := none, lost := lostWith s.writer.lost g.records.length, overflow := true } }
    let ended := if ∀ b ∈ okays, b = true then { s1 with writer := written } else failed
    let taken := fun t : State => exec (.logWriteResponse okays) s = .next (refreshStatus s (pumpLog t))
    ((∀ k d, s.orders.phase ≠ .refreshWait k d) → taken ended) ∧
    ∀ (k : Nat) (d : List Byte), s.orders.phase = .refreshWait k d →
      let r := replaceParts k d ended
      (k = 13 → taken (completeMasked .done (refusedMask ended) r)) ∧
      (k < 13 → partInUse ended k = true → taken (complete .inUse ended)) ∧
      (k < 13 → partInUse ended k = false → taken (complete (if partValid r.window k then .done else .tableBad) r))) ∧
  ∀ s : State,
    let w := s.writer
    let lose := fun (t : State) (g : LogGroup) => { tallyAdd .recordsLost g.records.length t with
      writer := { t.writer with lost := lostWith t.writer.lost g.records.length, overflow := true } }
    let allLost := w.buffer.foldl lose s
    (s.window.log.valid = false ∨ w.inFlight ≠ none ∨ w.buffer = [] → pumpLog s = s) ∧
    ∀ next rest, s.window.log.valid = true → w.inFlight = none → w.buffer = next :: rest →
      (w.overflow = false → next.records.length ≤ logSize s - unread w → pumpLog s = { s with
        writer := { w with buffer := rest, inFlight := some next }
        arb := { s.arb with ownWaiting := s.arb.ownWaiting ++ next.records.mapIdx (fun i r =>
          { purpose := .log, live := true, body := .write r.bytes
            addr := s.window.log.base + 64 * ((w.writeIndex + i) % logSize s) }) } }) ∧
      (w.overflow = true ∨ logSize s - unread w < next.records.length →
        pumpLog s = { allLost with writer := { allLost.writer with buffer := [] } })

/-- A change of a status block field prompts one write of its 256 bytes, or with one in flight marks one pending; with no
change nothing is prompted. STATUS_BLOCK_WRITE_RESPONSE, whatever it says: no write is in flight, and a pending one is
issued with the image as it then stands (R184). That a write is in flight from its issue to the arbiter on, granted or not, is the
model's reading (log entry 15). -/
def Obligations.StatusBlockKept : Prop :=
  (∀ b s : State, statusFields s ≠ statusFields b →
    (s.writer.statusOut = false → refreshStatus b s = { s with
      writer := { s.writer with statusOut := true }
      arb := { s.arb with ownWaiting := s.arb.ownWaiting ++
        [{ purpose := .status, live := true, addr := anchorBase s + 0x800, body := .write (statusImage (statusFields s)) }] } }) ∧
    (s.writer.statusOut = true →
      refreshStatus b s = { s with writer := { s.writer with statusPending := true } })) ∧
  (∀ b s : State, statusFields s = statusFields b → refreshStatus b s = s) ∧
  (∀ f : StatusFields, (statusImage f).length = 256) ∧
  ∀ (s : State) (x : OwnTxn) (left : List OwnTxn) (okay : Bool), Awaited s (· == .status) x left →
    (∀ a v m n, s.orders.phase ≠ .fenceWait a v m n) →
    (s.writer.statusPending = false → exec (.statusBlockWriteResponse okay) s =
      .next { withOut left s with writer := { s.writer with statusOut := false } }) ∧
    (s.writer.statusPending = true → exec (.statusBlockWriteResponse okay) s = .next { withOut left s with
      writer := { s.writer with statusOut := true, statusPending := false }
      arb := { s.arb with ownOut := left, ownWaiting := s.arb.ownWaiting ++
        [{ purpose := .status, live := true, addr := anchorBase s + 0x800, body := .write (statusImage (statusFields s)) }] } })

/-! ## Invariants of every step -/

/-- E, the backlash count and A keep their ranges, and A never exceeds E (R24, R25, R29). -/
def Obligations.PositionsKept : Prop :=
  ∀ s t : State, PositionsInv s → step s = .next t → PositionsInv t

/-- Every column's reference, flag age and clear-run keep their ranges, and the run buffer its 256 places (R44, R50, R59). -/
def Obligations.ColumnsKept : Prop :=
  ∀ s t : State, ColumnsInv s → step s = .next t → ColumnsInv t

/-- The plate queue, the flaw list, the pending buffer, the hold queues and the arbiter's count keep their limits (R10, R80,
R116, R181, R186). -/
def Obligations.CapacityKept : Prop :=
  ∀ s t : State, CapacityInv s → step s = .next t → CapacityInv t

/-- At most one capture slot is FILLING, and it is the active copy's (R155, R156, R161, R163). A capture is given the lowest
FREE slot, if entry 10 is valid and no slot is FILLING; its window is 256 columns about the hull's centre, within the
columns, and the lines from 8 before the flaw's first; its capture streams are the streams in service with a column in the
window, none of their lines handled; and the slots FILLING, READY or DONE that a window line needs are pinned, no other
slot's pin changing (R156, R157, R158). -/
def Obligations.CaptureKept : Prop :=
  (∀ s t : State, CaptureInv s → step s = .next t → CaptureInv t) ∧
  (∀ (s : State) (k : Nat), captureSlotFor s = some k ↔ s.window.capture.valid = true ∧ .filling ∉ s.cap.slots ∧
    s.cap.slots[k]? = some .free ∧ ∀ i < k, s.cap.slots[i]? ≠ some .free) ∧
  (∀ c0 c1 : Nat, ((c0 + c1) / 2 ≤ 128 → windowFirst c0 c1 = 0) ∧
    (128 ≤ (c0 + c1) / 2 → (c0 + c1) / 2 ≤ 16256 → windowFirst c0 c1 + 128 = (c0 + c1) / 2) ∧
    (16256 ≤ (c0 + c1) / 2 → windowFirst c0 c1 = 16128)) ∧
  ∀ (s : State) (k flaw c0 c1 y0 : Nat),
    let x0 := windowFirst c0 c1
    let meets := fun n => (stream s n).state ≠ .off ∧
      max x0 (spanFirst (streamWindow s n)) ≤ min (x0 + 255) (spanLast (streamWindow s n))
    let t := startCopy k flaw c0 c1 y0 s
    t = { s with cap := t.cap, streams := t.streams } ∧ t.cap.slots = s.cap.slots.set k .filling ∧
    (∃ c, t.cap.copy = some c ∧ c.slot = k ∧ c.flaw = flaw ∧ c.x0 = x0 ∧ c.yw = (y0 : Int) - 8 ∧ c.nextRow = 0 ∧
      c.rowsOut = 0 ∧ c.headerOut = false ∧ c.missing = List.replicate 256 false ∧
      ∀ cs, cs ∈ c.streams ↔ ∃ n < 8, meets n ∧ cs =
        { stream := n, first := max x0 (spanFirst (streamWindow s n)), last := min (x0 + 255) (spanLast (streamWindow s n))
          stagger := (streamWindow s n).stagger, winStart := (streamWindow s n).winStart
          colBase := (streamWindow s n).colBase, next := 0, reading := none, segments := []
          gone := List.replicate 256 false }) ∧
    ∀ n < 8, ∀ j < (stream s n).dir.length,
      let e := dirEntry s n j
      let needed := meets n ∧ (e.state = .filling ∨ e.state = .ready ∨ e.state = .done) ∧
        ∃ x, e.stamp = some x ∧ y0 + (streamWindow s n).stagger ≤ x + 8 ∧ x ≤ y0 + (streamWindow s n).stagger + 247
      (needed → dirEntry t n j = { e with pin := true }) ∧ (¬ needed → dirEntry t n j = e)

/-- Every lane label's groups stay one contiguous run, and labels and profiles keep their ranges (R84, R87, R92, R93). -/
def Obligations.LaneMapKept : Prop :=
  ∀ s t : State, LaneMapInv s → step s = .next t → LaneMapInv t

/-- The flaw list stays in the order of y0 and holds nothing that ends before S (R80, R82). A closing flaw takes the next flaw
number, and is routed: a blob of a capture class is offered to the Capture Engine; its record is handed over and its class
tallied; one that touches no SALE lane goes no further; any other is offered to the queued plates it overlaps, and, ending
at or beyond S, submitted to the flaw list: it stands behind every entry that begins no later, or, the list being full,
goes into the overflow zone, PENDING_FULL telling of its opening (R77, R78, R80, R81, R156). R81 says nothing of the marks that
RESTART leaves on what it withdrew: that a zone which takes in a further flaw loses its mark, to be offered again whole, is the
model's choice (log entry 47). -/
def Obligations.FlawListKept : Prop :=
  (∀ s t : State, FlawListInv s → step s = .next t → FlawListInv t) ∧
  (∀ (s : State) (f : Flaw),
    (s.blobs.nextFlaw < 2 ^ 32 - 1 → raiseFlaw f s = routeFlaw { f with num := s.blobs.nextFlaw }
      { s with blobs := { s.blobs with nextFlaw := s.blobs.nextFlaw + 1 } }) ∧
    (s.blobs.nextFlaw = 2 ^ 32 - 1 → raiseFlaw f s = routeFlaw { f with num := 2 ^ 32 - 1 }
      { s with blobs := { s.blobs with nextFlaw := 1 } })) ∧
  (∀ (s s0 : State) (f f0 : Flaw),
    let wanted := f.source = .blob ∧ (classGrade s.grades f.cls).capture = true
    (¬ wanted ∧ f0 = f ∧ s0 = s) ∨
      (wanted ∧ ∃ k, captureSlotFor s = some k ∧ f0 = { f with assigned := true, capSlot := k } ∧
        s0 = startCopy k f.num f.c0 f.c1 f.y0 s) ∨
      (wanted ∧ captureSlotFor s = none ∧ f0 = { f with notCaptured := true } ∧
        s0 = tallyAdd .captureRejected 1 s) →
    let told := tallyAdd (.flaw f.cls) 1 (handGroup [.flaw f0] s0)
    let offer : Offer := { source := f.source, cls := f.cls, y0 := f.y0, y1 := f.y1, c0 := f.c0, c1 := f.c1 }
    let offered := { told with sched := { told.sched with queue := told.sched.queue.map (fun p =>
      if f.y0 < p.cut ∧ p.start ≤ f.y1 then applyToPlate told.grades offer p else p) } }
    (outsideSale s.lanes f.c0 f.c1 = true → routeFlaw f s = told) ∧
    (outsideSale s.lanes f.c0 f.c1 = false → s.sched.active = false ∨ f.y1 < s.sched.start → routeFlaw f s = offered) ∧
    (outsideSale s.lanes f.c0 f.c1 = false → s.sched.active = true → s.sched.start ≤ f.y1 → routeFlaw f s =
      submitFlaw { num := f.num, source := f.source, cls := f.cls, y0 := f.y0, y1 := f.y1, c0 := f.c0, c1 := f.c1
                   avoid := f.avoid, spent := false } offered)) ∧
  ∀ (s : State) (f : ListedFlaw),
    (∀ pre post, s.sched.flaws = pre ++ post → s.sched.flaws.length < 128 → (∀ g ∈ pre, g.y0 ≤ f.y0) →
      (∀ g ∈ post.head?, f.y0 < g.y0) →
      submitFlaw f s = { s with sched := { s.sched with flaws := pre ++ f :: post } }) ∧
    (128 ≤ s.sched.flaws.length → s.sched.zone = none → submitFlaw f s = issueEvent .pendingFull [f.num, f.y0, f.y1]
      { s with sched := { s.sched with zone := some { y0 := f.y0, y1 := f.y1, c0 := f.c0, c1 := f.c1, spent := false } } }) ∧
    ∀ z, 128 ≤ s.sched.flaws.length → s.sched.zone = some z → submitFlaw f s = { s with sched := { s.sched with
      zone := some { y0 := min z.y0 f.y0, y1 := max z.y1 f.y1, c0 := min z.c0 f.c0, c1 := max z.c1 f.c1, spent := false } } }

/-- Every OPEN blob, and the open dense zone, has y0 ≤ last ≤ A and is shorter than 4096 lines (R70, R73). At the end of a
line a blob closes by gap, or by length into a STUB, and a STUB ends by gap, its entry FREE with nothing told: a speck is tallied, any other is a flaw of the class of the first rule
that matches, or 7, by its elongation, area, peak and polarity (R69, R70, R71, R76). Dropped runs open or extend the dense
zone, which closes by length, or after eight lines without one; a group's uncovered lines open, extend and close its gap
zone (R72, R73, R74, R77). The column in BLOB_TABLE_FULL is the least of the dropped runs' (log entry 33). -/
def Obligations.BlobsKept : Prop :=
  (∀ s t : State, PositionsInv s → BlobsInv s → step s = .next t → BlobsInv t) ∧
  (∀ (s : State) (l : Nat) (b : Blob) (pre post : List BlobEntry),
    s.blobs.table = pre ++ .opened b :: post → (∀ e ∈ pre ++ post, e = .free) → s.blobs.dense = none →
    l + 1 ∉ s.blobs.splits →
    let put := fun e => { s with blobs := { s.blobs with table := pre ++ e :: post } }
    let x := match b.cur with
      | some h => { b with prev := some h, last := l, cur := none }
      | none => b
    let cls := classify s.blobs.rules x.polarity x.area (elongation (x.last + 1 - x.y0) (x.c1 + 1 - x.c0)) x.peak
    let flaw := fun byLength : Bool => ({
      num := 0, source := .blob, cls := cls, polarity := x.polarity, y0 := x.y0, y1 := x.last, c0 := x.c0, c1 := x.c1
      area := x.area, peak := x.peak, mean := min (x.sum / x.area) 255, continued := byLength
      continuation := x.continuation, avoid := (classGrade s.grades cls).avoid, assigned := false, notCaptured := false
      capSlot := 0 } : Flaw)
    let stub := BlobEntry.stub { num := x.num, polarity := x.polarity, last := x.last, prev := x.prev.getD (x.c0, x.c1)
                                 gap := x.gap }
    let speck := x.area < (profile s.lanes x.profile).minArea
    (x.last + x.gap < l → blobAct l [] [] [] s =
      if speck then tallyAdd .specks 1 (put .free) else raiseFlaw (flaw false) (put .free)) ∧
    (l ≤ x.last + x.gap → x.y0 + 4096 ≤ x.last + 1 → blobAct l [] [] [] s =
      if speck then tallyAdd .specks 1 (put stub) else raiseFlaw (flaw true) (put stub)) ∧
    (l ≤ x.last + x.gap → x.last + 1 < x.y0 + 4096 → blobAct l [] [] [] s = put (.opened x))) ∧
  (∀ (s : State) (l : Nat) (t : Stub) (pre post : List BlobEntry),
    s.blobs.table = pre ++ .stub t :: post → (∀ e ∈ pre ++ post, e = .free) → s.blobs.dense = none →
    l + 1 ∉ s.blobs.splits →
    (t.last + t.gap < l → blobAct l [] [] [] s = { s with blobs := { s.blobs with table := pre ++ .free :: post } }) ∧
    (l ≤ t.last + t.gap → blobAct l [] [] [] s = s)) ∧
  (∀ (rules : List ClassRule) (polarity : Polarity) (area elong peak : Nat),
    (∀ r, ruleMatches r polarity area elong peak = true ↔
      (r.polarity = .any ∨ (r.polarity = .dark ∧ polarity = .dark) ∨ (r.polarity = .bright ∧ polarity = .bright)) ∧
        r.areaMin ≤ area ∧ area ≤ r.areaMax ∧ r.elongMin ≤ elong ∧ elong ≤ r.elongMax ∧ r.minPeak ≤ peak) ∧
    (∀ pre r post, rules = pre ++ r :: post → ruleMatches r polarity area elong peak = true →
      (∀ q ∈ pre, ruleMatches q polarity area elong peak = false) →
      classify rules polarity area elong peak = pre.length) ∧
    ((∀ r ∈ rules, ruleMatches r polarity area elong peak = false) → classify rules polarity area elong peak = 7) ∧
    ∀ lines columns, elongation lines columns = min (16 * max lines columns / min lines columns) 255) ∧
  (∀ (s : State) (l c0 c1 : Nat) (dropped : List Run) (overflow : Bool),
    (∀ r ∈ dropped, c0 ≤ r.c0 ∧ r.c1 ≤ c1) → (∃ r ∈ dropped, r.c0 = c0) → (∃ r ∈ dropped, r.c1 = c1) →
    let pixels := (dropped.map (fun r => r.c1 + 1 - r.c0)).sum
    (s.blobs.dense = none → feedDense l dropped overflow s = issueEvent .blobTableFull [if overflow then 1 else 2, l, c0]
      { s with blobs := { s.blobs with
          dense := some { y0 := l, y1 := l, c0 := c0, c1 := c1, count := min pixels 16777215
                          continuation := match s.blobs.mark with
                            | some m => decide (l ≤ m + 8)
                            | none => false }
          mark := none } }) ∧
    ∀ d, s.blobs.dense = some d → feedDense l dropped overflow s = { s with blobs := { s.blobs with
      dense := some { d with y1 := l, c0 := min d.c0 c0, c1 := max d.c1 c1, count := min (d.count + pixels) 16777215 } } }) ∧
  (∀ (s : State) (l : Nat) (d : DenseZone), s.blobs.dense = some d →
    let flaw := fun byLength : Bool => ({
      num := 0, source := .dense, cls := 8, polarity := .none, y0 := d.y0, y1 := d.y1, c0 := d.c0, c1 := d.c1
      area := d.count, peak := 0, mean := 0, continued := byLength, continuation := d.continuation, avoid := true
      assigned := false, notCaptured := false, capSlot := 0 } : Flaw)
    feedDense l [] false s = s ∧
    (d.y0 + 4096 ≤ d.y1 + 1 → testDense l s =
      raiseFlaw (flaw true) { s with blobs := { s.blobs with dense := none, mark := some d.y1 } }) ∧
    (d.y1 + 1 < d.y0 + 4096 → d.y1 + 8 ≤ l → testDense l s =
      raiseFlaw (flaw false) { s with blobs := { s.blobs with dense := none } }) ∧
    (d.y1 + 1 < d.y0 + 4096 → l < d.y1 + 8 → testDense l s = s)) ∧
  ∀ (s : State) (l g : Nat),
    let put := fun z => { s with blobs := { s.blobs with gaps := s.blobs.gaps.set g z } }
    (s.blobs.gaps.getD g none = none →
      takeCoverage l g true s = put (some { y0 := l, last := some l, continuation := false }) ∧
      takeCoverage l g false s = s) ∧
    ∀ z, s.blobs.gaps.getD g none = some z →
      takeCoverage l g true s = put (some { z with last := some l }) ∧
      (z.last = none → takeCoverage l g false s = put none) ∧
      ∀ y, z.last = some y → takeCoverage l g false s = raiseFlaw
        { num := 0, source := .gap, cls := 9, polarity := .none, y0 := z.y0, y1 := y, c0 := 256 * g, c1 := 256 * g + 255
          area := min (256 * (y + 1 - z.y0)) 16777215, peak := 0, mean := 0, continued := false
          continuation := z.continuation
          avoid := match s.sched.plan with
            | some p => p.gapPolicy == .avoid
            | none => false
          assigned := false, notCaptured := false, capSlot := 0 } (put none)

/-- The state after reset meets every invariant above. -/
def Obligations.ResetMeetsInvariants : Prop :=
  PositionsInv State.reset ∧ ColumnsInv State.reset ∧ CapacityInv State.reset ∧ CaptureInv State.reset ∧
    LaneMapInv State.reset ∧ FlawListInv State.reset ∧ BlobsInv State.reset
end

