-- ==== Sys2Proof/Laws/State.lean ====
section
/-! SUPPORT. For each update of the state, one lemma for each field that it leaves alone, and what the port and the slot
records become. -/

namespace Sys2Proof.Machine

/-! `modStream` changes streams. -/
@[simp] theorem modStream_straps (n : Nat) (f : StreamRec → StreamRec) (s : State) : (modStream n f s).straps = s.straps := rfl
@[simp] theorem modStream_enc (n : Nat) (f : StreamRec → StreamRec) (s : State) : (modStream n f s).enc = s.enc := rfl
@[simp] theorem modStream_anchor (n : Nat) (f : StreamRec → StreamRec) (s : State) : (modStream n f s).anchor = s.anchor := rfl
@[simp] theorem modStream_window (n : Nat) (f : StreamRec → StreamRec) (s : State) : (modStream n f s).window = s.window := rfl
@[simp] theorem modStream_asm (n : Nat) (f : StreamRec → StreamRec) (s : State) : (modStream n f s).asm = s.asm := rfl
@[simp] theorem modStream_det (n : Nat) (f : StreamRec → StreamRec) (s : State) : (modStream n f s).det = s.det := rfl
@[simp] theorem modStream_blobs (n : Nat) (f : StreamRec → StreamRec) (s : State) : (modStream n f s).blobs = s.blobs := rfl
@[simp] theorem modStream_lanes (n : Nat) (f : StreamRec → StreamRec) (s : State) : (modStream n f s).lanes = s.lanes := rfl
@[simp] theorem modStream_grades (n : Nat) (f : StreamRec → StreamRec) (s : State) : (modStream n f s).grades = s.grades := rfl
@[simp] theorem modStream_sched (n : Nat) (f : StreamRec → StreamRec) (s : State) : (modStream n f s).sched = s.sched := rfl
@[simp] theorem modStream_tickets (n : Nat) (f : StreamRec → StreamRec) (s : State) : (modStream n f s).tickets = s.tickets := rfl
@[simp] theorem modStream_cap (n : Nat) (f : StreamRec → StreamRec) (s : State) : (modStream n f s).cap = s.cap := rfl
@[simp] theorem modStream_tally (n : Nat) (f : StreamRec → StreamRec) (s : State) : (modStream n f s).tally = s.tally := rfl
@[simp] theorem modStream_orders (n : Nat) (f : StreamRec → StreamRec) (s : State) : (modStream n f s).orders = s.orders := rfl
@[simp] theorem modStream_writer (n : Nat) (f : StreamRec → StreamRec) (s : State) : (modStream n f s).writer = s.writer := rfl
@[simp] theorem modStream_arb (n : Nat) (f : StreamRec → StreamRec) (s : State) : (modStream n f s).arb = s.arb := rfl
@[simp] theorem modStream_toTake (n : Nat) (f : StreamRec → StreamRec) (s : State) : (modStream n f s).toTake = s.toTake := rfl
@[simp] theorem modStream_answers (n : Nat) (f : StreamRec → StreamRec) (s : State) : (modStream n f s).answers = s.answers := rfl
@[simp] theorem modStream_pending (n : Nat) (f : StreamRec → StreamRec) (s : State) : (modStream n f s).pending = s.pending := rfl

/-! `modDir` changes streams. -/
@[simp] theorem modDir_straps (n k : Nat) (f : DirEntry → DirEntry) (s : State) : (modDir n k f s).straps = s.straps := rfl
@[simp] theorem modDir_enc (n k : Nat) (f : DirEntry → DirEntry) (s : State) : (modDir n k f s).enc = s.enc := rfl
@[simp] theorem modDir_anchor (n k : Nat) (f : DirEntry → DirEntry) (s : State) : (modDir n k f s).anchor = s.anchor := rfl
@[simp] theorem modDir_window (n k : Nat) (f : DirEntry → DirEntry) (s : State) : (modDir n k f s).window = s.window := rfl
@[simp] theorem modDir_asm (n k : Nat) (f : DirEntry → DirEntry) (s : State) : (modDir n k f s).asm = s.asm := rfl
@[simp] theorem modDir_det (n k : Nat) (f : DirEntry → DirEntry) (s : State) : (modDir n k f s).det = s.det := rfl
@[simp] theorem modDir_blobs (n k : Nat) (f : DirEntry → DirEntry) (s : State) : (modDir n k f s).blobs = s.blobs := rfl
@[simp] theorem modDir_lanes (n k : Nat) (f : DirEntry → DirEntry) (s : State) : (modDir n k f s).lanes = s.lanes := rfl
@[simp] theorem modDir_grades (n k : Nat) (f : DirEntry → DirEntry) (s : State) : (modDir n k f s).grades = s.grades := rfl
@[simp] theorem modDir_sched (n k : Nat) (f : DirEntry → DirEntry) (s : State) : (modDir n k f s).sched = s.sched := rfl
@[simp] theorem modDir_tickets (n k : Nat) (f : DirEntry → DirEntry) (s : State) : (modDir n k f s).tickets = s.tickets := rfl
@[simp] theorem modDir_cap (n k : Nat) (f : DirEntry → DirEntry) (s : State) : (modDir n k f s).cap = s.cap := rfl
@[simp] theorem modDir_tally (n k : Nat) (f : DirEntry → DirEntry) (s : State) : (modDir n k f s).tally = s.tally := rfl
@[simp] theorem modDir_orders (n k : Nat) (f : DirEntry → DirEntry) (s : State) : (modDir n k f s).orders = s.orders := rfl
@[simp] theorem modDir_writer (n k : Nat) (f : DirEntry → DirEntry) (s : State) : (modDir n k f s).writer = s.writer := rfl
@[simp] theorem modDir_arb (n k : Nat) (f : DirEntry → DirEntry) (s : State) : (modDir n k f s).arb = s.arb := rfl
@[simp] theorem modDir_toTake (n k : Nat) (f : DirEntry → DirEntry) (s : State) : (modDir n k f s).toTake = s.toTake := rfl
@[simp] theorem modDir_answers (n k : Nat) (f : DirEntry → DirEntry) (s : State) : (modDir n k f s).answers = s.answers := rfl
@[simp] theorem modDir_pending (n k : Nat) (f : DirEntry → DirEntry) (s : State) : (modDir n k f s).pending = s.pending := rfl

/-! `setFill` changes streams. -/
@[simp] theorem setFill_straps (n : Nat) (f : Option Fill) (s : State) : (setFill n f s).straps = s.straps := rfl
@[simp] theorem setFill_enc (n : Nat) (f : Option Fill) (s : State) : (setFill n f s).enc = s.enc := rfl
@[simp] theorem setFill_anchor (n : Nat) (f : Option Fill) (s : State) : (setFill n f s).anchor = s.anchor := rfl
@[simp] theorem setFill_window (n : Nat) (f : Option Fill) (s : State) : (setFill n f s).window = s.window := rfl
@[simp] theorem setFill_asm (n : Nat) (f : Option Fill) (s : State) : (setFill n f s).asm = s.asm := rfl
@[simp] theorem setFill_det (n : Nat) (f : Option Fill) (s : State) : (setFill n f s).det = s.det := rfl
@[simp] theorem setFill_blobs (n : Nat) (f : Option Fill) (s : State) : (setFill n f s).blobs = s.blobs := rfl
@[simp] theorem setFill_lanes (n : Nat) (f : Option Fill) (s : State) : (setFill n f s).lanes = s.lanes := rfl
@[simp] theorem setFill_grades (n : Nat) (f : Option Fill) (s : State) : (setFill n f s).grades = s.grades := rfl
@[simp] theorem setFill_sched (n : Nat) (f : Option Fill) (s : State) : (setFill n f s).sched = s.sched := rfl
@[simp] theorem setFill_tickets (n : Nat) (f : Option Fill) (s : State) : (setFill n f s).tickets = s.tickets := rfl
@[simp] theorem setFill_cap (n : Nat) (f : Option Fill) (s : State) : (setFill n f s).cap = s.cap := rfl
@[simp] theorem setFill_tally (n : Nat) (f : Option Fill) (s : State) : (setFill n f s).tally = s.tally := rfl
@[simp] theorem setFill_orders (n : Nat) (f : Option Fill) (s : State) : (setFill n f s).orders = s.orders := rfl
@[simp] theorem setFill_writer (n : Nat) (f : Option Fill) (s : State) : (setFill n f s).writer = s.writer := rfl
@[simp] theorem setFill_arb (n : Nat) (f : Option Fill) (s : State) : (setFill n f s).arb = s.arb := rfl
@[simp] theorem setFill_toTake (n : Nat) (f : Option Fill) (s : State) : (setFill n f s).toTake = s.toTake := rfl
@[simp] theorem setFill_answers (n : Nat) (f : Option Fill) (s : State) : (setFill n f s).answers = s.answers := rfl
@[simp] theorem setFill_pending (n : Nat) (f : Option Fill) (s : State) : (setFill n f s).pending = s.pending := rfl

/-! `rejectSlot` changes streams. -/
@[simp] theorem rejectSlot_straps (n k : Nat) (s : State) : (rejectSlot n k s).straps = s.straps := rfl
@[simp] theorem rejectSlot_enc (n k : Nat) (s : State) : (rejectSlot n k s).enc = s.enc := rfl
@[simp] theorem rejectSlot_anchor (n k : Nat) (s : State) : (rejectSlot n k s).anchor = s.anchor := rfl
@[simp] theorem rejectSlot_window (n k : Nat) (s : State) : (rejectSlot n k s).window = s.window := rfl
@[simp] theorem rejectSlot_asm (n k : Nat) (s : State) : (rejectSlot n k s).asm = s.asm := rfl
@[simp] theorem rejectSlot_det (n k : Nat) (s : State) : (rejectSlot n k s).det = s.det := rfl
@[simp] theorem rejectSlot_blobs (n k : Nat) (s : State) : (rejectSlot n k s).blobs = s.blobs := rfl
@[simp] theorem rejectSlot_lanes (n k : Nat) (s : State) : (rejectSlot n k s).lanes = s.lanes := rfl
@[simp] theorem rejectSlot_grades (n k : Nat) (s : State) : (rejectSlot n k s).grades = s.grades := rfl
@[simp] theorem rejectSlot_sched (n k : Nat) (s : State) : (rejectSlot n k s).sched = s.sched := rfl
@[simp] theorem rejectSlot_tickets (n k : Nat) (s : State) : (rejectSlot n k s).tickets = s.tickets := rfl
@[simp] theorem rejectSlot_cap (n k : Nat) (s : State) : (rejectSlot n k s).cap = s.cap := rfl
@[simp] theorem rejectSlot_tally (n k : Nat) (s : State) : (rejectSlot n k s).tally = s.tally := rfl
@[simp] theorem rejectSlot_orders (n k : Nat) (s : State) : (rejectSlot n k s).orders = s.orders := rfl
@[simp] theorem rejectSlot_writer (n k : Nat) (s : State) : (rejectSlot n k s).writer = s.writer := rfl
@[simp] theorem rejectSlot_arb (n k : Nat) (s : State) : (rejectSlot n k s).arb = s.arb := rfl
@[simp] theorem rejectSlot_toTake (n k : Nat) (s : State) : (rejectSlot n k s).toTake = s.toTake := rfl
@[simp] theorem rejectSlot_answers (n k : Nat) (s : State) : (rejectSlot n k s).answers = s.answers := rfl
@[simp] theorem rejectSlot_pending (n k : Nat) (s : State) : (rejectSlot n k s).pending = s.pending := rfl

/-! `unpinStream` changes streams. -/
@[simp] theorem unpinStream_straps (n : Nat) (s : State) : (unpinStream n s).straps = s.straps := rfl
@[simp] theorem unpinStream_enc (n : Nat) (s : State) : (unpinStream n s).enc = s.enc := rfl
@[simp] theorem unpinStream_anchor (n : Nat) (s : State) : (unpinStream n s).anchor = s.anchor := rfl
@[simp] theorem unpinStream_window (n : Nat) (s : State) : (unpinStream n s).window = s.window := rfl
@[simp] theorem unpinStream_asm (n : Nat) (s : State) : (unpinStream n s).asm = s.asm := rfl
@[simp] theorem unpinStream_det (n : Nat) (s : State) : (unpinStream n s).det = s.det := rfl
@[simp] theorem unpinStream_blobs (n : Nat) (s : State) : (unpinStream n s).blobs = s.blobs := rfl
@[simp] theorem unpinStream_lanes (n : Nat) (s : State) : (unpinStream n s).lanes = s.lanes := rfl
@[simp] theorem unpinStream_grades (n : Nat) (s : State) : (unpinStream n s).grades = s.grades := rfl
@[simp] theorem unpinStream_sched (n : Nat) (s : State) : (unpinStream n s).sched = s.sched := rfl
@[simp] theorem unpinStream_tickets (n : Nat) (s : State) : (unpinStream n s).tickets = s.tickets := rfl
@[simp] theorem unpinStream_cap (n : Nat) (s : State) : (unpinStream n s).cap = s.cap := rfl
@[simp] theorem unpinStream_tally (n : Nat) (s : State) : (unpinStream n s).tally = s.tally := rfl
@[simp] theorem unpinStream_orders (n : Nat) (s : State) : (unpinStream n s).orders = s.orders := rfl
@[simp] theorem unpinStream_writer (n : Nat) (s : State) : (unpinStream n s).writer = s.writer := rfl
@[simp] theorem unpinStream_arb (n : Nat) (s : State) : (unpinStream n s).arb = s.arb := rfl
@[simp] theorem unpinStream_toTake (n : Nat) (s : State) : (unpinStream n s).toTake = s.toTake := rfl
@[simp] theorem unpinStream_answers (n : Nat) (s : State) : (unpinStream n s).answers = s.answers := rfl
@[simp] theorem unpinStream_pending (n : Nat) (s : State) : (unpinStream n s).pending = s.pending := rfl

/-! `unpinAll` changes streams. -/
@[simp] theorem unpinAll_straps (s : State) : (unpinAll s).straps = s.straps := rfl
@[simp] theorem unpinAll_enc (s : State) : (unpinAll s).enc = s.enc := rfl
@[simp] theorem unpinAll_anchor (s : State) : (unpinAll s).anchor = s.anchor := rfl
@[simp] theorem unpinAll_window (s : State) : (unpinAll s).window = s.window := rfl
@[simp] theorem unpinAll_asm (s : State) : (unpinAll s).asm = s.asm := rfl
@[simp] theorem unpinAll_det (s : State) : (unpinAll s).det = s.det := rfl
@[simp] theorem unpinAll_blobs (s : State) : (unpinAll s).blobs = s.blobs := rfl
@[simp] theorem unpinAll_lanes (s : State) : (unpinAll s).lanes = s.lanes := rfl
@[simp] theorem unpinAll_grades (s : State) : (unpinAll s).grades = s.grades := rfl
@[simp] theorem unpinAll_sched (s : State) : (unpinAll s).sched = s.sched := rfl
@[simp] theorem unpinAll_tickets (s : State) : (unpinAll s).tickets = s.tickets := rfl
@[simp] theorem unpinAll_cap (s : State) : (unpinAll s).cap = s.cap := rfl
@[simp] theorem unpinAll_tally (s : State) : (unpinAll s).tally = s.tally := rfl
@[simp] theorem unpinAll_orders (s : State) : (unpinAll s).orders = s.orders := rfl
@[simp] theorem unpinAll_writer (s : State) : (unpinAll s).writer = s.writer := rfl
@[simp] theorem unpinAll_arb (s : State) : (unpinAll s).arb = s.arb := rfl
@[simp] theorem unpinAll_toTake (s : State) : (unpinAll s).toTake = s.toTake := rfl
@[simp] theorem unpinAll_answers (s : State) : (unpinAll s).answers = s.answers := rfl
@[simp] theorem unpinAll_pending (s : State) : (unpinAll s).pending = s.pending := rfl

/-! `unpinStamp` changes streams. -/
@[simp] theorem unpinStamp_straps (n stamp : Nat) (s : State) : (unpinStamp n stamp s).straps = s.straps := rfl
@[simp] theorem unpinStamp_enc (n stamp : Nat) (s : State) : (unpinStamp n stamp s).enc = s.enc := rfl
@[simp] theorem unpinStamp_anchor (n stamp : Nat) (s : State) : (unpinStamp n stamp s).anchor = s.anchor := rfl
@[simp] theorem unpinStamp_window (n stamp : Nat) (s : State) : (unpinStamp n stamp s).window = s.window := rfl
@[simp] theorem unpinStamp_asm (n stamp : Nat) (s : State) : (unpinStamp n stamp s).asm = s.asm := rfl
@[simp] theorem unpinStamp_det (n stamp : Nat) (s : State) : (unpinStamp n stamp s).det = s.det := rfl
@[simp] theorem unpinStamp_blobs (n stamp : Nat) (s : State) : (unpinStamp n stamp s).blobs = s.blobs := rfl
@[simp] theorem unpinStamp_lanes (n stamp : Nat) (s : State) : (unpinStamp n stamp s).lanes = s.lanes := rfl
@[simp] theorem unpinStamp_grades (n stamp : Nat) (s : State) : (unpinStamp n stamp s).grades = s.grades := rfl
@[simp] theorem unpinStamp_sched (n stamp : Nat) (s : State) : (unpinStamp n stamp s).sched = s.sched := rfl
@[simp] theorem unpinStamp_tickets (n stamp : Nat) (s : State) : (unpinStamp n stamp s).tickets = s.tickets := rfl
@[simp] theorem unpinStamp_cap (n stamp : Nat) (s : State) : (unpinStamp n stamp s).cap = s.cap := rfl
@[simp] theorem unpinStamp_tally (n stamp : Nat) (s : State) : (unpinStamp n stamp s).tally = s.tally := rfl
@[simp] theorem unpinStamp_orders (n stamp : Nat) (s : State) : (unpinStamp n stamp s).orders = s.orders := rfl
@[simp] theorem unpinStamp_writer (n stamp : Nat) (s : State) : (unpinStamp n stamp s).writer = s.writer := rfl
@[simp] theorem unpinStamp_arb (n stamp : Nat) (s : State) : (unpinStamp n stamp s).arb = s.arb := rfl
@[simp] theorem unpinStamp_toTake (n stamp : Nat) (s : State) : (unpinStamp n stamp s).toTake = s.toTake := rfl
@[simp] theorem unpinStamp_answers (n stamp : Nat) (s : State) : (unpinStamp n stamp s).answers = s.answers := rfl
@[simp] theorem unpinStamp_pending (n stamp : Nat) (s : State) : (unpinStamp n stamp s).pending = s.pending := rfl

/-! `passReady` changes streams. -/
@[simp] theorem passReady_straps (n : Nat) (test : Nat → DirEntry → Bool) (s : State) : (passReady n test s).straps = s.straps := rfl
@[simp] theorem passReady_enc (n : Nat) (test : Nat → DirEntry → Bool) (s : State) : (passReady n test s).enc = s.enc := rfl
@[simp] theorem passReady_anchor (n : Nat) (test : Nat → DirEntry → Bool) (s : State) : (passReady n test s).anchor = s.anchor := rfl
@[simp] theorem passReady_window (n : Nat) (test : Nat → DirEntry → Bool) (s : State) : (passReady n test s).window = s.window := rfl
@[simp] theorem passReady_asm (n : Nat) (test : Nat → DirEntry → Bool) (s : State) : (passReady n test s).asm = s.asm := rfl
@[simp] theorem passReady_det (n : Nat) (test : Nat → DirEntry → Bool) (s : State) : (passReady n test s).det = s.det := rfl
@[simp] theorem passReady_blobs (n : Nat) (test : Nat → DirEntry → Bool) (s : State) : (passReady n test s).blobs = s.blobs := rfl
@[simp] theorem passReady_lanes (n : Nat) (test : Nat → DirEntry → Bool) (s : State) : (passReady n test s).lanes = s.lanes := rfl
@[simp] theorem passReady_grades (n : Nat) (test : Nat → DirEntry → Bool) (s : State) : (passReady n test s).grades = s.grades := rfl
@[simp] theorem passReady_sched (n : Nat) (test : Nat → DirEntry → Bool) (s : State) : (passReady n test s).sched = s.sched := rfl
@[simp] theorem passReady_tickets (n : Nat) (test : Nat → DirEntry → Bool) (s : State) : (passReady n test s).tickets = s.tickets := rfl
@[simp] theorem passReady_cap (n : Nat) (test : Nat → DirEntry → Bool) (s : State) : (passReady n test s).cap = s.cap := rfl
@[simp] theorem passReady_tally (n : Nat) (test : Nat → DirEntry → Bool) (s : State) : (passReady n test s).tally = s.tally := rfl
@[simp] theorem passReady_orders (n : Nat) (test : Nat → DirEntry → Bool) (s : State) : (passReady n test s).orders = s.orders := rfl
@[simp] theorem passReady_writer (n : Nat) (test : Nat → DirEntry → Bool) (s : State) : (passReady n test s).writer = s.writer := rfl
@[simp] theorem passReady_arb (n : Nat) (test : Nat → DirEntry → Bool) (s : State) : (passReady n test s).arb = s.arb := rfl
@[simp] theorem passReady_toTake (n : Nat) (test : Nat → DirEntry → Bool) (s : State) : (passReady n test s).toTake = s.toTake := rfl
@[simp] theorem passReady_answers (n : Nat) (test : Nat → DirEntry → Bool) (s : State) : (passReady n test s).answers = s.answers := rfl
@[simp] theorem passReady_pending (n : Nat) (test : Nat → DirEntry → Bool) (s : State) : (passReady n test s).pending = s.pending := rfl

/-! `startStream` changes streams. -/
@[simp] theorem startStream_straps (n : Nat) (s : State) : (startStream n s).straps = s.straps := rfl
@[simp] theorem startStream_enc (n : Nat) (s : State) : (startStream n s).enc = s.enc := rfl
@[simp] theorem startStream_anchor (n : Nat) (s : State) : (startStream n s).anchor = s.anchor := rfl
@[simp] theorem startStream_window (n : Nat) (s : State) : (startStream n s).window = s.window := rfl
@[simp] theorem startStream_asm (n : Nat) (s : State) : (startStream n s).asm = s.asm := rfl
@[simp] theorem startStream_det (n : Nat) (s : State) : (startStream n s).det = s.det := rfl
@[simp] theorem startStream_blobs (n : Nat) (s : State) : (startStream n s).blobs = s.blobs := rfl
@[simp] theorem startStream_lanes (n : Nat) (s : State) : (startStream n s).lanes = s.lanes := rfl
@[simp] theorem startStream_grades (n : Nat) (s : State) : (startStream n s).grades = s.grades := rfl
@[simp] theorem startStream_sched (n : Nat) (s : State) : (startStream n s).sched = s.sched := rfl
@[simp] theorem startStream_tickets (n : Nat) (s : State) : (startStream n s).tickets = s.tickets := rfl
@[simp] theorem startStream_cap (n : Nat) (s : State) : (startStream n s).cap = s.cap := rfl
@[simp] theorem startStream_tally (n : Nat) (s : State) : (startStream n s).tally = s.tally := rfl
@[simp] theorem startStream_orders (n : Nat) (s : State) : (startStream n s).orders = s.orders := rfl
@[simp] theorem startStream_writer (n : Nat) (s : State) : (startStream n s).writer = s.writer := rfl
@[simp] theorem startStream_arb (n : Nat) (s : State) : (startStream n s).arb = s.arb := rfl
@[simp] theorem startStream_toTake (n : Nat) (s : State) : (startStream n s).toTake = s.toTake := rfl
@[simp] theorem startStream_answers (n : Nat) (s : State) : (startStream n s).answers = s.answers := rfl
@[simp] theorem startStream_pending (n : Nat) (s : State) : (startStream n s).pending = s.pending := rfl

/-! `tallyAdd` changes tally. -/
@[simp] theorem tallyAdd_straps (k : TallyKey) (amount : Nat) (s : State) : (tallyAdd k amount s).straps = s.straps := rfl
@[simp] theorem tallyAdd_enc (k : TallyKey) (amount : Nat) (s : State) : (tallyAdd k amount s).enc = s.enc := rfl
@[simp] theorem tallyAdd_anchor (k : TallyKey) (amount : Nat) (s : State) : (tallyAdd k amount s).anchor = s.anchor := rfl
@[simp] theorem tallyAdd_window (k : TallyKey) (amount : Nat) (s : State) : (tallyAdd k amount s).window = s.window := rfl
@[simp] theorem tallyAdd_streams (k : TallyKey) (amount : Nat) (s : State) : (tallyAdd k amount s).streams = s.streams := rfl
@[simp] theorem tallyAdd_asm (k : TallyKey) (amount : Nat) (s : State) : (tallyAdd k amount s).asm = s.asm := rfl
@[simp] theorem tallyAdd_det (k : TallyKey) (amount : Nat) (s : State) : (tallyAdd k amount s).det = s.det := rfl
@[simp] theorem tallyAdd_blobs (k : TallyKey) (amount : Nat) (s : State) : (tallyAdd k amount s).blobs = s.blobs := rfl
@[simp] theorem tallyAdd_lanes (k : TallyKey) (amount : Nat) (s : State) : (tallyAdd k amount s).lanes = s.lanes := rfl
@[simp] theorem tallyAdd_grades (k : TallyKey) (amount : Nat) (s : State) : (tallyAdd k amount s).grades = s.grades := rfl
@[simp] theorem tallyAdd_sched (k : TallyKey) (amount : Nat) (s : State) : (tallyAdd k amount s).sched = s.sched := rfl
@[simp] theorem tallyAdd_tickets (k : TallyKey) (amount : Nat) (s : State) : (tallyAdd k amount s).tickets = s.tickets := rfl
@[simp] theorem tallyAdd_cap (k : TallyKey) (amount : Nat) (s : State) : (tallyAdd k amount s).cap = s.cap := rfl
@[simp] theorem tallyAdd_orders (k : TallyKey) (amount : Nat) (s : State) : (tallyAdd k amount s).orders = s.orders := rfl
@[simp] theorem tallyAdd_writer (k : TallyKey) (amount : Nat) (s : State) : (tallyAdd k amount s).writer = s.writer := rfl
@[simp] theorem tallyAdd_arb (k : TallyKey) (amount : Nat) (s : State) : (tallyAdd k amount s).arb = s.arb := rfl
@[simp] theorem tallyAdd_toTake (k : TallyKey) (amount : Nat) (s : State) : (tallyAdd k amount s).toTake = s.toTake := rfl
@[simp] theorem tallyAdd_answers (k : TallyKey) (amount : Nat) (s : State) : (tallyAdd k amount s).answers = s.answers := rfl
@[simp] theorem tallyAdd_pending (k : TallyKey) (amount : Nat) (s : State) : (tallyAdd k amount s).pending = s.pending := rfl

/-! `issueOwn` changes arb. -/
@[simp] theorem issueOwn_straps (p : Purpose) (addr : Nat) (body : OwnBody) (s : State) : (issueOwn p addr body s).straps = s.straps := rfl
@[simp] theorem issueOwn_enc (p : Purpose) (addr : Nat) (body : OwnBody) (s : State) : (issueOwn p addr body s).enc = s.enc := rfl
@[simp] theorem issueOwn_anchor (p : Purpose) (addr : Nat) (body : OwnBody) (s : State) : (issueOwn p addr body s).anchor = s.anchor := rfl
@[simp] theorem issueOwn_window (p : Purpose) (addr : Nat) (body : OwnBody) (s : State) : (issueOwn p addr body s).window = s.window := rfl
@[simp] theorem issueOwn_streams (p : Purpose) (addr : Nat) (body : OwnBody) (s : State) : (issueOwn p addr body s).streams = s.streams := rfl
@[simp] theorem issueOwn_asm (p : Purpose) (addr : Nat) (body : OwnBody) (s : State) : (issueOwn p addr body s).asm = s.asm := rfl
@[simp] theorem issueOwn_det (p : Purpose) (addr : Nat) (body : OwnBody) (s : State) : (issueOwn p addr body s).det = s.det := rfl
@[simp] theorem issueOwn_blobs (p : Purpose) (addr : Nat) (body : OwnBody) (s : State) : (issueOwn p addr body s).blobs = s.blobs := rfl
@[simp] theorem issueOwn_lanes (p : Purpose) (addr : Nat) (body : OwnBody) (s : State) : (issueOwn p addr body s).lanes = s.lanes := rfl
@[simp] theorem issueOwn_grades (p : Purpose) (addr : Nat) (body : OwnBody) (s : State) : (issueOwn p addr body s).grades = s.grades := rfl
@[simp] theorem issueOwn_sched (p : Purpose) (addr : Nat) (body : OwnBody) (s : State) : (issueOwn p addr body s).sched = s.sched := rfl
@[simp] theorem issueOwn_tickets (p : Purpose) (addr : Nat) (body : OwnBody) (s : State) : (issueOwn p addr body s).tickets = s.tickets := rfl
@[simp] theorem issueOwn_cap (p : Purpose) (addr : Nat) (body : OwnBody) (s : State) : (issueOwn p addr body s).cap = s.cap := rfl
@[simp] theorem issueOwn_tally (p : Purpose) (addr : Nat) (body : OwnBody) (s : State) : (issueOwn p addr body s).tally = s.tally := rfl
@[simp] theorem issueOwn_orders (p : Purpose) (addr : Nat) (body : OwnBody) (s : State) : (issueOwn p addr body s).orders = s.orders := rfl
@[simp] theorem issueOwn_writer (p : Purpose) (addr : Nat) (body : OwnBody) (s : State) : (issueOwn p addr body s).writer = s.writer := rfl
@[simp] theorem issueOwn_toTake (p : Purpose) (addr : Nat) (body : OwnBody) (s : State) : (issueOwn p addr body s).toTake = s.toTake := rfl
@[simp] theorem issueOwn_answers (p : Purpose) (addr : Nat) (body : OwnBody) (s : State) : (issueOwn p addr body s).answers = s.answers := rfl
@[simp] theorem issueOwn_pending (p : Purpose) (addr : Nat) (body : OwnBody) (s : State) : (issueOwn p addr body s).pending = s.pending := rfl

/-! `disown` changes arb. -/
@[simp] theorem disown_straps (p : Purpose → Bool) (s : State) : (disown p s).straps = s.straps := rfl
@[simp] theorem disown_enc (p : Purpose → Bool) (s : State) : (disown p s).enc = s.enc := rfl
@[simp] theorem disown_anchor (p : Purpose → Bool) (s : State) : (disown p s).anchor = s.anchor := rfl
@[simp] theorem disown_window (p : Purpose → Bool) (s : State) : (disown p s).window = s.window := rfl
@[simp] theorem disown_streams (p : Purpose → Bool) (s : State) : (disown p s).streams = s.streams := rfl
@[simp] theorem disown_asm (p : Purpose → Bool) (s : State) : (disown p s).asm = s.asm := rfl
@[simp] theorem disown_det (p : Purpose → Bool) (s : State) : (disown p s).det = s.det := rfl
@[simp] theorem disown_blobs (p : Purpose → Bool) (s : State) : (disown p s).blobs = s.blobs := rfl
@[simp] theorem disown_lanes (p : Purpose → Bool) (s : State) : (disown p s).lanes = s.lanes := rfl
@[simp] theorem disown_grades (p : Purpose → Bool) (s : State) : (disown p s).grades = s.grades := rfl
@[simp] theorem disown_sched (p : Purpose → Bool) (s : State) : (disown p s).sched = s.sched := rfl
@[simp] theorem disown_tickets (p : Purpose → Bool) (s : State) : (disown p s).tickets = s.tickets := rfl
@[simp] theorem disown_cap (p : Purpose → Bool) (s : State) : (disown p s).cap = s.cap := rfl
@[simp] theorem disown_tally (p : Purpose → Bool) (s : State) : (disown p s).tally = s.tally := rfl
@[simp] theorem disown_orders (p : Purpose → Bool) (s : State) : (disown p s).orders = s.orders := rfl
@[simp] theorem disown_writer (p : Purpose → Bool) (s : State) : (disown p s).writer = s.writer := rfl
@[simp] theorem disown_toTake (p : Purpose → Bool) (s : State) : (disown p s).toTake = s.toTake := rfl
@[simp] theorem disown_answers (p : Purpose → Bool) (s : State) : (disown p s).answers = s.answers := rfl
@[simp] theorem disown_pending (p : Purpose → Bool) (s : State) : (disown p s).pending = s.pending := rfl

/-! `withdrawOwn` changes arb. -/
@[simp] theorem withdrawOwn_straps (p : Purpose → Bool) (s : State) : (withdrawOwn p s).straps = s.straps := rfl
@[simp] theorem withdrawOwn_enc (p : Purpose → Bool) (s : State) : (withdrawOwn p s).enc = s.enc := rfl
@[simp] theorem withdrawOwn_anchor (p : Purpose → Bool) (s : State) : (withdrawOwn p s).anchor = s.anchor := rfl
@[simp] theorem withdrawOwn_window (p : Purpose → Bool) (s : State) : (withdrawOwn p s).window = s.window := rfl
@[simp] theorem withdrawOwn_streams (p : Purpose → Bool) (s : State) : (withdrawOwn p s).streams = s.streams := rfl
@[simp] theorem withdrawOwn_asm (p : Purpose → Bool) (s : State) : (withdrawOwn p s).asm = s.asm := rfl
@[simp] theorem withdrawOwn_det (p : Purpose → Bool) (s : State) : (withdrawOwn p s).det = s.det := rfl
@[simp] theorem withdrawOwn_blobs (p : Purpose → Bool) (s : State) : (withdrawOwn p s).blobs = s.blobs := rfl
@[simp] theorem withdrawOwn_lanes (p : Purpose → Bool) (s : State) : (withdrawOwn p s).lanes = s.lanes := rfl
@[simp] theorem withdrawOwn_grades (p : Purpose → Bool) (s : State) : (withdrawOwn p s).grades = s.grades := rfl
@[simp] theorem withdrawOwn_sched (p : Purpose → Bool) (s : State) : (withdrawOwn p s).sched = s.sched := rfl
@[simp] theorem withdrawOwn_tickets (p : Purpose → Bool) (s : State) : (withdrawOwn p s).tickets = s.tickets := rfl
@[simp] theorem withdrawOwn_cap (p : Purpose → Bool) (s : State) : (withdrawOwn p s).cap = s.cap := rfl
@[simp] theorem withdrawOwn_tally (p : Purpose → Bool) (s : State) : (withdrawOwn p s).tally = s.tally := rfl
@[simp] theorem withdrawOwn_orders (p : Purpose → Bool) (s : State) : (withdrawOwn p s).orders = s.orders := rfl
@[simp] theorem withdrawOwn_writer (p : Purpose → Bool) (s : State) : (withdrawOwn p s).writer = s.writer := rfl
@[simp] theorem withdrawOwn_toTake (p : Purpose → Bool) (s : State) : (withdrawOwn p s).toTake = s.toTake := rfl
@[simp] theorem withdrawOwn_answers (p : Purpose → Bool) (s : State) : (withdrawOwn p s).answers = s.answers := rfl
@[simp] theorem withdrawOwn_pending (p : Purpose → Bool) (s : State) : (withdrawOwn p s).pending = s.pending := rfl

/-! `recallOwn` changes arb. -/
@[simp] theorem recallOwn_straps (p : Purpose → Bool) (s : State) : (recallOwn p s).straps = s.straps := rfl
@[simp] theorem recallOwn_enc (p : Purpose → Bool) (s : State) : (recallOwn p s).enc = s.enc := rfl
@[simp] theorem recallOwn_anchor (p : Purpose → Bool) (s : State) : (recallOwn p s).anchor = s.anchor := rfl
@[simp] theorem recallOwn_window (p : Purpose → Bool) (s : State) : (recallOwn p s).window = s.window := rfl
@[simp] theorem recallOwn_streams (p : Purpose → Bool) (s : State) : (recallOwn p s).streams = s.streams := rfl
@[simp] theorem recallOwn_asm (p : Purpose → Bool) (s : State) : (recallOwn p s).asm = s.asm := rfl
@[simp] theorem recallOwn_det (p : Purpose → Bool) (s : State) : (recallOwn p s).det = s.det := rfl
@[simp] theorem recallOwn_blobs (p : Purpose → Bool) (s : State) : (recallOwn p s).blobs = s.blobs := rfl
@[simp] theorem recallOwn_lanes (p : Purpose → Bool) (s : State) : (recallOwn p s).lanes = s.lanes := rfl
@[simp] theorem recallOwn_grades (p : Purpose → Bool) (s : State) : (recallOwn p s).grades = s.grades := rfl
@[simp] theorem recallOwn_sched (p : Purpose → Bool) (s : State) : (recallOwn p s).sched = s.sched := rfl
@[simp] theorem recallOwn_tickets (p : Purpose → Bool) (s : State) : (recallOwn p s).tickets = s.tickets := rfl
@[simp] theorem recallOwn_cap (p : Purpose → Bool) (s : State) : (recallOwn p s).cap = s.cap := rfl
@[simp] theorem recallOwn_tally (p : Purpose → Bool) (s : State) : (recallOwn p s).tally = s.tally := rfl
@[simp] theorem recallOwn_orders (p : Purpose → Bool) (s : State) : (recallOwn p s).orders = s.orders := rfl
@[simp] theorem recallOwn_writer (p : Purpose → Bool) (s : State) : (recallOwn p s).writer = s.writer := rfl
@[simp] theorem recallOwn_toTake (p : Purpose → Bool) (s : State) : (recallOwn p s).toTake = s.toTake := rfl
@[simp] theorem recallOwn_answers (p : Purpose → Bool) (s : State) : (recallOwn p s).answers = s.answers := rfl
@[simp] theorem recallOwn_pending (p : Purpose → Bool) (s : State) : (recallOwn p s).pending = s.pending := rfl

/-! `clearOut` changes arb. -/
@[simp] theorem clearOut_straps (p : Purpose → Bool) (s : State) : (clearOut p s).straps = s.straps := rfl
@[simp] theorem clearOut_enc (p : Purpose → Bool) (s : State) : (clearOut p s).enc = s.enc := rfl
@[simp] theorem clearOut_anchor (p : Purpose → Bool) (s : State) : (clearOut p s).anchor = s.anchor := rfl
@[simp] theorem clearOut_window (p : Purpose → Bool) (s : State) : (clearOut p s).window = s.window := rfl
@[simp] theorem clearOut_streams (p : Purpose → Bool) (s : State) : (clearOut p s).streams = s.streams := rfl
@[simp] theorem clearOut_asm (p : Purpose → Bool) (s : State) : (clearOut p s).asm = s.asm := rfl
@[simp] theorem clearOut_det (p : Purpose → Bool) (s : State) : (clearOut p s).det = s.det := rfl
@[simp] theorem clearOut_blobs (p : Purpose → Bool) (s : State) : (clearOut p s).blobs = s.blobs := rfl
@[simp] theorem clearOut_lanes (p : Purpose → Bool) (s : State) : (clearOut p s).lanes = s.lanes := rfl
@[simp] theorem clearOut_grades (p : Purpose → Bool) (s : State) : (clearOut p s).grades = s.grades := rfl
@[simp] theorem clearOut_sched (p : Purpose → Bool) (s : State) : (clearOut p s).sched = s.sched := rfl
@[simp] theorem clearOut_tickets (p : Purpose → Bool) (s : State) : (clearOut p s).tickets = s.tickets := rfl
@[simp] theorem clearOut_cap (p : Purpose → Bool) (s : State) : (clearOut p s).cap = s.cap := rfl
@[simp] theorem clearOut_tally (p : Purpose → Bool) (s : State) : (clearOut p s).tally = s.tally := rfl
@[simp] theorem clearOut_orders (p : Purpose → Bool) (s : State) : (clearOut p s).orders = s.orders := rfl
@[simp] theorem clearOut_writer (p : Purpose → Bool) (s : State) : (clearOut p s).writer = s.writer := rfl
@[simp] theorem clearOut_toTake (p : Purpose → Bool) (s : State) : (clearOut p s).toTake = s.toTake := rfl
@[simp] theorem clearOut_answers (p : Purpose → Bool) (s : State) : (clearOut p s).answers = s.answers := rfl
@[simp] theorem clearOut_pending (p : Purpose → Bool) (s : State) : (clearOut p s).pending = s.pending := rfl

/-! `withdrawNotes` changes arb. -/
@[simp] theorem withdrawNotes_straps (n k : Nat) (s : State) : (withdrawNotes n k s).straps = s.straps := rfl
@[simp] theorem withdrawNotes_enc (n k : Nat) (s : State) : (withdrawNotes n k s).enc = s.enc := rfl
@[simp] theorem withdrawNotes_anchor (n k : Nat) (s : State) : (withdrawNotes n k s).anchor = s.anchor := rfl
@[simp] theorem withdrawNotes_window (n k : Nat) (s : State) : (withdrawNotes n k s).window = s.window := rfl
@[simp] theorem withdrawNotes_streams (n k : Nat) (s : State) : (withdrawNotes n k s).streams = s.streams := rfl
@[simp] theorem withdrawNotes_asm (n k : Nat) (s : State) : (withdrawNotes n k s).asm = s.asm := rfl
@[simp] theorem withdrawNotes_det (n k : Nat) (s : State) : (withdrawNotes n k s).det = s.det := rfl
@[simp] theorem withdrawNotes_blobs (n k : Nat) (s : State) : (withdrawNotes n k s).blobs = s.blobs := rfl
@[simp] theorem withdrawNotes_lanes (n k : Nat) (s : State) : (withdrawNotes n k s).lanes = s.lanes := rfl
@[simp] theorem withdrawNotes_grades (n k : Nat) (s : State) : (withdrawNotes n k s).grades = s.grades := rfl
@[simp] theorem withdrawNotes_sched (n k : Nat) (s : State) : (withdrawNotes n k s).sched = s.sched := rfl
@[simp] theorem withdrawNotes_tickets (n k : Nat) (s : State) : (withdrawNotes n k s).tickets = s.tickets := rfl
@[simp] theorem withdrawNotes_cap (n k : Nat) (s : State) : (withdrawNotes n k s).cap = s.cap := rfl
@[simp] theorem withdrawNotes_tally (n k : Nat) (s : State) : (withdrawNotes n k s).tally = s.tally := rfl
@[simp] theorem withdrawNotes_orders (n k : Nat) (s : State) : (withdrawNotes n k s).orders = s.orders := rfl
@[simp] theorem withdrawNotes_writer (n k : Nat) (s : State) : (withdrawNotes n k s).writer = s.writer := rfl
@[simp] theorem withdrawNotes_toTake (n k : Nat) (s : State) : (withdrawNotes n k s).toTake = s.toTake := rfl
@[simp] theorem withdrawNotes_answers (n k : Nat) (s : State) : (withdrawNotes n k s).answers = s.answers := rfl
@[simp] theorem withdrawNotes_pending (n k : Nat) (s : State) : (withdrawNotes n k s).pending = s.pending := rfl

/-! `withdrawStream` changes arb. -/
@[simp] theorem withdrawStream_straps (n : Nat) (s : State) : (withdrawStream n s).straps = s.straps := rfl
@[simp] theorem withdrawStream_enc (n : Nat) (s : State) : (withdrawStream n s).enc = s.enc := rfl
@[simp] theorem withdrawStream_anchor (n : Nat) (s : State) : (withdrawStream n s).anchor = s.anchor := rfl
@[simp] theorem withdrawStream_window (n : Nat) (s : State) : (withdrawStream n s).window = s.window := rfl
@[simp] theorem withdrawStream_streams (n : Nat) (s : State) : (withdrawStream n s).streams = s.streams := rfl
@[simp] theorem withdrawStream_asm (n : Nat) (s : State) : (withdrawStream n s).asm = s.asm := rfl
@[simp] theorem withdrawStream_det (n : Nat) (s : State) : (withdrawStream n s).det = s.det := rfl
@[simp] theorem withdrawStream_blobs (n : Nat) (s : State) : (withdrawStream n s).blobs = s.blobs := rfl
@[simp] theorem withdrawStream_lanes (n : Nat) (s : State) : (withdrawStream n s).lanes = s.lanes := rfl
@[simp] theorem withdrawStream_grades (n : Nat) (s : State) : (withdrawStream n s).grades = s.grades := rfl
@[simp] theorem withdrawStream_sched (n : Nat) (s : State) : (withdrawStream n s).sched = s.sched := rfl
@[simp] theorem withdrawStream_tickets (n : Nat) (s : State) : (withdrawStream n s).tickets = s.tickets := rfl
@[simp] theorem withdrawStream_cap (n : Nat) (s : State) : (withdrawStream n s).cap = s.cap := rfl
@[simp] theorem withdrawStream_tally (n : Nat) (s : State) : (withdrawStream n s).tally = s.tally := rfl
@[simp] theorem withdrawStream_orders (n : Nat) (s : State) : (withdrawStream n s).orders = s.orders := rfl
@[simp] theorem withdrawStream_writer (n : Nat) (s : State) : (withdrawStream n s).writer = s.writer := rfl
@[simp] theorem withdrawStream_toTake (n : Nat) (s : State) : (withdrawStream n s).toTake = s.toTake := rfl
@[simp] theorem withdrawStream_answers (n : Nat) (s : State) : (withdrawStream n s).answers = s.answers := rfl
@[simp] theorem withdrawStream_pending (n : Nat) (s : State) : (withdrawStream n s).pending = s.pending := rfl

/-! `takeOut` changes arb. -/
@[simp] theorem takeOut_straps (rest : List PassTxn) (s : State) : (takeOut rest s).straps = s.straps := rfl
@[simp] theorem takeOut_enc (rest : List PassTxn) (s : State) : (takeOut rest s).enc = s.enc := rfl
@[simp] theorem takeOut_anchor (rest : List PassTxn) (s : State) : (takeOut rest s).anchor = s.anchor := rfl
@[simp] theorem takeOut_window (rest : List PassTxn) (s : State) : (takeOut rest s).window = s.window := rfl
@[simp] theorem takeOut_streams (rest : List PassTxn) (s : State) : (takeOut rest s).streams = s.streams := rfl
@[simp] theorem takeOut_asm (rest : List PassTxn) (s : State) : (takeOut rest s).asm = s.asm := rfl
@[simp] theorem takeOut_det (rest : List PassTxn) (s : State) : (takeOut rest s).det = s.det := rfl
@[simp] theorem takeOut_blobs (rest : List PassTxn) (s : State) : (takeOut rest s).blobs = s.blobs := rfl
@[simp] theorem takeOut_lanes (rest : List PassTxn) (s : State) : (takeOut rest s).lanes = s.lanes := rfl
@[simp] theorem takeOut_grades (rest : List PassTxn) (s : State) : (takeOut rest s).grades = s.grades := rfl
@[simp] theorem takeOut_sched (rest : List PassTxn) (s : State) : (takeOut rest s).sched = s.sched := rfl
@[simp] theorem takeOut_tickets (rest : List PassTxn) (s : State) : (takeOut rest s).tickets = s.tickets := rfl
@[simp] theorem takeOut_cap (rest : List PassTxn) (s : State) : (takeOut rest s).cap = s.cap := rfl
@[simp] theorem takeOut_tally (rest : List PassTxn) (s : State) : (takeOut rest s).tally = s.tally := rfl
@[simp] theorem takeOut_orders (rest : List PassTxn) (s : State) : (takeOut rest s).orders = s.orders := rfl
@[simp] theorem takeOut_writer (rest : List PassTxn) (s : State) : (takeOut rest s).writer = s.writer := rfl
@[simp] theorem takeOut_toTake (rest : List PassTxn) (s : State) : (takeOut rest s).toTake = s.toTake := rfl
@[simp] theorem takeOut_answers (rest : List PassTxn) (s : State) : (takeOut rest s).answers = s.answers := rfl
@[simp] theorem takeOut_pending (rest : List PassTxn) (s : State) : (takeOut rest s).pending = s.pending := rfl

/-! `forwardPass` changes arb. -/
@[simp] theorem forwardPass_straps (x : PassTxn) (s : State) : (forwardPass x s).straps = s.straps := rfl
@[simp] theorem forwardPass_enc (x : PassTxn) (s : State) : (forwardPass x s).enc = s.enc := rfl
@[simp] theorem forwardPass_anchor (x : PassTxn) (s : State) : (forwardPass x s).anchor = s.anchor := rfl
@[simp] theorem forwardPass_window (x : PassTxn) (s : State) : (forwardPass x s).window = s.window := rfl
@[simp] theorem forwardPass_streams (x : PassTxn) (s : State) : (forwardPass x s).streams = s.streams := rfl
@[simp] theorem forwardPass_asm (x : PassTxn) (s : State) : (forwardPass x s).asm = s.asm := rfl
@[simp] theorem forwardPass_det (x : PassTxn) (s : State) : (forwardPass x s).det = s.det := rfl
@[simp] theorem forwardPass_blobs (x : PassTxn) (s : State) : (forwardPass x s).blobs = s.blobs := rfl
@[simp] theorem forwardPass_lanes (x : PassTxn) (s : State) : (forwardPass x s).lanes = s.lanes := rfl
@[simp] theorem forwardPass_grades (x : PassTxn) (s : State) : (forwardPass x s).grades = s.grades := rfl
@[simp] theorem forwardPass_sched (x : PassTxn) (s : State) : (forwardPass x s).sched = s.sched := rfl
@[simp] theorem forwardPass_tickets (x : PassTxn) (s : State) : (forwardPass x s).tickets = s.tickets := rfl
@[simp] theorem forwardPass_cap (x : PassTxn) (s : State) : (forwardPass x s).cap = s.cap := rfl
@[simp] theorem forwardPass_tally (x : PassTxn) (s : State) : (forwardPass x s).tally = s.tally := rfl
@[simp] theorem forwardPass_orders (x : PassTxn) (s : State) : (forwardPass x s).orders = s.orders := rfl
@[simp] theorem forwardPass_writer (x : PassTxn) (s : State) : (forwardPass x s).writer = s.writer := rfl
@[simp] theorem forwardPass_toTake (x : PassTxn) (s : State) : (forwardPass x s).toTake = s.toTake := rfl
@[simp] theorem forwardPass_answers (x : PassTxn) (s : State) : (forwardPass x s).answers = s.answers := rfl
@[simp] theorem forwardPass_pending (x : PassTxn) (s : State) : (forwardPass x s).pending = s.pending := rfl

/-! `setNotices` changes writer. -/
@[simp] theorem setNotices_straps (f : Notices → Notices) (s : State) : (setNotices f s).straps = s.straps := rfl
@[simp] theorem setNotices_enc (f : Notices → Notices) (s : State) : (setNotices f s).enc = s.enc := rfl
@[simp] theorem setNotices_anchor (f : Notices → Notices) (s : State) : (setNotices f s).anchor = s.anchor := rfl
@[simp] theorem setNotices_window (f : Notices → Notices) (s : State) : (setNotices f s).window = s.window := rfl
@[simp] theorem setNotices_streams (f : Notices → Notices) (s : State) : (setNotices f s).streams = s.streams := rfl
@[simp] theorem setNotices_asm (f : Notices → Notices) (s : State) : (setNotices f s).asm = s.asm := rfl
@[simp] theorem setNotices_det (f : Notices → Notices) (s : State) : (setNotices f s).det = s.det := rfl
@[simp] theorem setNotices_blobs (f : Notices → Notices) (s : State) : (setNotices f s).blobs = s.blobs := rfl
@[simp] theorem setNotices_lanes (f : Notices → Notices) (s : State) : (setNotices f s).lanes = s.lanes := rfl
@[simp] theorem setNotices_grades (f : Notices → Notices) (s : State) : (setNotices f s).grades = s.grades := rfl
@[simp] theorem setNotices_sched (f : Notices → Notices) (s : State) : (setNotices f s).sched = s.sched := rfl
@[simp] theorem setNotices_tickets (f : Notices → Notices) (s : State) : (setNotices f s).tickets = s.tickets := rfl
@[simp] theorem setNotices_cap (f : Notices → Notices) (s : State) : (setNotices f s).cap = s.cap := rfl
@[simp] theorem setNotices_tally (f : Notices → Notices) (s : State) : (setNotices f s).tally = s.tally := rfl
@[simp] theorem setNotices_orders (f : Notices → Notices) (s : State) : (setNotices f s).orders = s.orders := rfl
@[simp] theorem setNotices_arb (f : Notices → Notices) (s : State) : (setNotices f s).arb = s.arb := rfl
@[simp] theorem setNotices_toTake (f : Notices → Notices) (s : State) : (setNotices f s).toTake = s.toTake := rfl
@[simp] theorem setNotices_answers (f : Notices → Notices) (s : State) : (setNotices f s).answers = s.answers := rfl
@[simp] theorem setNotices_pending (f : Notices → Notices) (s : State) : (setNotices f s).pending = s.pending := rfl

/-! `markFenced` changes writer, arb, sched, tickets. -/
@[simp] theorem markFenced_straps (s : State) : (markFenced s).straps = s.straps := rfl
@[simp] theorem markFenced_enc (s : State) : (markFenced s).enc = s.enc := rfl
@[simp] theorem markFenced_anchor (s : State) : (markFenced s).anchor = s.anchor := rfl
@[simp] theorem markFenced_window (s : State) : (markFenced s).window = s.window := rfl
@[simp] theorem markFenced_streams (s : State) : (markFenced s).streams = s.streams := rfl
@[simp] theorem markFenced_asm (s : State) : (markFenced s).asm = s.asm := rfl
@[simp] theorem markFenced_det (s : State) : (markFenced s).det = s.det := rfl
@[simp] theorem markFenced_blobs (s : State) : (markFenced s).blobs = s.blobs := rfl
@[simp] theorem markFenced_lanes (s : State) : (markFenced s).lanes = s.lanes := rfl
@[simp] theorem markFenced_grades (s : State) : (markFenced s).grades = s.grades := rfl
@[simp] theorem markFenced_cap (s : State) : (markFenced s).cap = s.cap := rfl
@[simp] theorem markFenced_tally (s : State) : (markFenced s).tally = s.tally := rfl
@[simp] theorem markFenced_orders (s : State) : (markFenced s).orders = s.orders := rfl
@[simp] theorem markFenced_toTake (s : State) : (markFenced s).toTake = s.toTake := rfl
@[simp] theorem markFenced_answers (s : State) : (markFenced s).answers = s.answers := rfl
@[simp] theorem markFenced_pending (s : State) : (markFenced s).pending = s.pending := rfl

/-! `loseRecords` changes writer, tally. -/
@[simp] theorem loseRecords_straps (n : Nat) (s : State) : (loseRecords n s).straps = s.straps := rfl
@[simp] theorem loseRecords_enc (n : Nat) (s : State) : (loseRecords n s).enc = s.enc := rfl
@[simp] theorem loseRecords_anchor (n : Nat) (s : State) : (loseRecords n s).anchor = s.anchor := rfl
@[simp] theorem loseRecords_window (n : Nat) (s : State) : (loseRecords n s).window = s.window := rfl
@[simp] theorem loseRecords_streams (n : Nat) (s : State) : (loseRecords n s).streams = s.streams := rfl
@[simp] theorem loseRecords_asm (n : Nat) (s : State) : (loseRecords n s).asm = s.asm := rfl
@[simp] theorem loseRecords_det (n : Nat) (s : State) : (loseRecords n s).det = s.det := rfl
@[simp] theorem loseRecords_blobs (n : Nat) (s : State) : (loseRecords n s).blobs = s.blobs := rfl
@[simp] theorem loseRecords_lanes (n : Nat) (s : State) : (loseRecords n s).lanes = s.lanes := rfl
@[simp] theorem loseRecords_grades (n : Nat) (s : State) : (loseRecords n s).grades = s.grades := rfl
@[simp] theorem loseRecords_sched (n : Nat) (s : State) : (loseRecords n s).sched = s.sched := rfl
@[simp] theorem loseRecords_tickets (n : Nat) (s : State) : (loseRecords n s).tickets = s.tickets := rfl
@[simp] theorem loseRecords_cap (n : Nat) (s : State) : (loseRecords n s).cap = s.cap := rfl
@[simp] theorem loseRecords_orders (n : Nat) (s : State) : (loseRecords n s).orders = s.orders := rfl
@[simp] theorem loseRecords_arb (n : Nat) (s : State) : (loseRecords n s).arb = s.arb := rfl
@[simp] theorem loseRecords_toTake (n : Nat) (s : State) : (loseRecords n s).toTake = s.toTake := rfl
@[simp] theorem loseRecords_answers (n : Nat) (s : State) : (loseRecords n s).answers = s.answers := rfl
@[simp] theorem loseRecords_pending (n : Nat) (s : State) : (loseRecords n s).pending = s.pending := rfl

/-! `issueStatus` changes writer, arb. -/
@[simp] theorem issueStatus_straps (s : State) : (issueStatus s).straps = s.straps := rfl
@[simp] theorem issueStatus_enc (s : State) : (issueStatus s).enc = s.enc := rfl
@[simp] theorem issueStatus_anchor (s : State) : (issueStatus s).anchor = s.anchor := rfl
@[simp] theorem issueStatus_window (s : State) : (issueStatus s).window = s.window := rfl
@[simp] theorem issueStatus_streams (s : State) : (issueStatus s).streams = s.streams := rfl
@[simp] theorem issueStatus_asm (s : State) : (issueStatus s).asm = s.asm := rfl
@[simp] theorem issueStatus_det (s : State) : (issueStatus s).det = s.det := rfl
@[simp] theorem issueStatus_blobs (s : State) : (issueStatus s).blobs = s.blobs := rfl
@[simp] theorem issueStatus_lanes (s : State) : (issueStatus s).lanes = s.lanes := rfl
@[simp] theorem issueStatus_grades (s : State) : (issueStatus s).grades = s.grades := rfl
@[simp] theorem issueStatus_sched (s : State) : (issueStatus s).sched = s.sched := rfl
@[simp] theorem issueStatus_tickets (s : State) : (issueStatus s).tickets = s.tickets := rfl
@[simp] theorem issueStatus_cap (s : State) : (issueStatus s).cap = s.cap := rfl
@[simp] theorem issueStatus_tally (s : State) : (issueStatus s).tally = s.tally := rfl
@[simp] theorem issueStatus_orders (s : State) : (issueStatus s).orders = s.orders := rfl
@[simp] theorem issueStatus_toTake (s : State) : (issueStatus s).toTake = s.toTake := rfl
@[simp] theorem issueStatus_answers (s : State) : (issueStatus s).answers = s.answers := rfl
@[simp] theorem issueStatus_pending (s : State) : (issueStatus s).pending = s.pending := rfl

/-! `setPhase` changes orders. -/
@[simp] theorem setPhase_straps (p : OrderPhase) (s : State) : (setPhase p s).straps = s.straps := rfl
@[simp] theorem setPhase_enc (p : OrderPhase) (s : State) : (setPhase p s).enc = s.enc := rfl
@[simp] theorem setPhase_anchor (p : OrderPhase) (s : State) : (setPhase p s).anchor = s.anchor := rfl
@[simp] theorem setPhase_window (p : OrderPhase) (s : State) : (setPhase p s).window = s.window := rfl
@[simp] theorem setPhase_streams (p : OrderPhase) (s : State) : (setPhase p s).streams = s.streams := rfl
@[simp] theorem setPhase_asm (p : OrderPhase) (s : State) : (setPhase p s).asm = s.asm := rfl
@[simp] theorem setPhase_det (p : OrderPhase) (s : State) : (setPhase p s).det = s.det := rfl
@[simp] theorem setPhase_blobs (p : OrderPhase) (s : State) : (setPhase p s).blobs = s.blobs := rfl
@[simp] theorem setPhase_lanes (p : OrderPhase) (s : State) : (setPhase p s).lanes = s.lanes := rfl
@[simp] theorem setPhase_grades (p : OrderPhase) (s : State) : (setPhase p s).grades = s.grades := rfl
@[simp] theorem setPhase_sched (p : OrderPhase) (s : State) : (setPhase p s).sched = s.sched := rfl
@[simp] theorem setPhase_tickets (p : OrderPhase) (s : State) : (setPhase p s).tickets = s.tickets := rfl
@[simp] theorem setPhase_cap (p : OrderPhase) (s : State) : (setPhase p s).cap = s.cap := rfl
@[simp] theorem setPhase_tally (p : OrderPhase) (s : State) : (setPhase p s).tally = s.tally := rfl
@[simp] theorem setPhase_writer (p : OrderPhase) (s : State) : (setPhase p s).writer = s.writer := rfl
@[simp] theorem setPhase_arb (p : OrderPhase) (s : State) : (setPhase p s).arb = s.arb := rfl
@[simp] theorem setPhase_toTake (p : OrderPhase) (s : State) : (setPhase p s).toTake = s.toTake := rfl
@[simp] theorem setPhase_answers (p : OrderPhase) (s : State) : (setPhase p s).answers = s.answers := rfl
@[simp] theorem setPhase_pending (p : OrderPhase) (s : State) : (setPhase p s).pending = s.pending := rfl

/-! `completeMasked` changes orders, arb. -/
@[simp] theorem completeMasked_straps (c : Completion) (mask : Nat) (s : State) : (completeMasked c mask s).straps = s.straps := rfl
@[simp] theorem completeMasked_enc (c : Completion) (mask : Nat) (s : State) : (completeMasked c mask s).enc = s.enc := rfl
@[simp] theorem completeMasked_anchor (c : Completion) (mask : Nat) (s : State) : (completeMasked c mask s).anchor = s.anchor := rfl
@[simp] theorem completeMasked_window (c : Completion) (mask : Nat) (s : State) : (completeMasked c mask s).window = s.window := rfl
@[simp] theorem completeMasked_streams (c : Completion) (mask : Nat) (s : State) : (completeMasked c mask s).streams = s.streams := rfl
@[simp] theorem completeMasked_asm (c : Completion) (mask : Nat) (s : State) : (completeMasked c mask s).asm = s.asm := rfl
@[simp] theorem completeMasked_det (c : Completion) (mask : Nat) (s : State) : (completeMasked c mask s).det = s.det := rfl
@[simp] theorem completeMasked_blobs (c : Completion) (mask : Nat) (s : State) : (completeMasked c mask s).blobs = s.blobs := rfl
@[simp] theorem completeMasked_lanes (c : Completion) (mask : Nat) (s : State) : (completeMasked c mask s).lanes = s.lanes := rfl
@[simp] theorem completeMasked_grades (c : Completion) (mask : Nat) (s : State) : (completeMasked c mask s).grades = s.grades := rfl
@[simp] theorem completeMasked_sched (c : Completion) (mask : Nat) (s : State) : (completeMasked c mask s).sched = s.sched := rfl
@[simp] theorem completeMasked_tickets (c : Completion) (mask : Nat) (s : State) : (completeMasked c mask s).tickets = s.tickets := rfl
@[simp] theorem completeMasked_cap (c : Completion) (mask : Nat) (s : State) : (completeMasked c mask s).cap = s.cap := rfl
@[simp] theorem completeMasked_tally (c : Completion) (mask : Nat) (s : State) : (completeMasked c mask s).tally = s.tally := rfl
@[simp] theorem completeMasked_writer (c : Completion) (mask : Nat) (s : State) : (completeMasked c mask s).writer = s.writer := rfl
@[simp] theorem completeMasked_toTake (c : Completion) (mask : Nat) (s : State) : (completeMasked c mask s).toTake = s.toTake := rfl
@[simp] theorem completeMasked_answers (c : Completion) (mask : Nat) (s : State) : (completeMasked c mask s).answers = s.answers := rfl
@[simp] theorem completeMasked_pending (c : Completion) (mask : Nat) (s : State) : (completeMasked c mask s).pending = s.pending := rfl

/-! `complete` changes orders, arb. -/
@[simp] theorem complete_straps (c : Completion) (s : State) : (complete c s).straps = s.straps := rfl
@[simp] theorem complete_enc (c : Completion) (s : State) : (complete c s).enc = s.enc := rfl
@[simp] theorem complete_anchor (c : Completion) (s : State) : (complete c s).anchor = s.anchor := rfl
@[simp] theorem complete_window (c : Completion) (s : State) : (complete c s).window = s.window := rfl
@[simp] theorem complete_streams (c : Completion) (s : State) : (complete c s).streams = s.streams := rfl
@[simp] theorem complete_asm (c : Completion) (s : State) : (complete c s).asm = s.asm := rfl
@[simp] theorem complete_det (c : Completion) (s : State) : (complete c s).det = s.det := rfl
@[simp] theorem complete_blobs (c : Completion) (s : State) : (complete c s).blobs = s.blobs := rfl
@[simp] theorem complete_lanes (c : Completion) (s : State) : (complete c s).lanes = s.lanes := rfl
@[simp] theorem complete_grades (c : Completion) (s : State) : (complete c s).grades = s.grades := rfl
@[simp] theorem complete_sched (c : Completion) (s : State) : (complete c s).sched = s.sched := rfl
@[simp] theorem complete_tickets (c : Completion) (s : State) : (complete c s).tickets = s.tickets := rfl
@[simp] theorem complete_cap (c : Completion) (s : State) : (complete c s).cap = s.cap := rfl
@[simp] theorem complete_tally (c : Completion) (s : State) : (complete c s).tally = s.tally := rfl
@[simp] theorem complete_writer (c : Completion) (s : State) : (complete c s).writer = s.writer := rfl
@[simp] theorem complete_toTake (c : Completion) (s : State) : (complete c s).toTake = s.toTake := rfl
@[simp] theorem complete_answers (c : Completion) (s : State) : (complete c s).answers = s.answers := rfl
@[simp] theorem complete_pending (c : Completion) (s : State) : (complete c s).pending = s.pending := rfl

/-! `modSlot` changes tickets. -/
@[simp] theorem modSlot_straps (j : Nat) (f : SlotRec → SlotRec) (s : State) : (modSlot j f s).straps = s.straps := rfl
@[simp] theorem modSlot_enc (j : Nat) (f : SlotRec → SlotRec) (s : State) : (modSlot j f s).enc = s.enc := rfl
@[simp] theorem modSlot_anchor (j : Nat) (f : SlotRec → SlotRec) (s : State) : (modSlot j f s).anchor = s.anchor := rfl
@[simp] theorem modSlot_window (j : Nat) (f : SlotRec → SlotRec) (s : State) : (modSlot j f s).window = s.window := rfl
@[simp] theorem modSlot_streams (j : Nat) (f : SlotRec → SlotRec) (s : State) : (modSlot j f s).streams = s.streams := rfl
@[simp] theorem modSlot_asm (j : Nat) (f : SlotRec → SlotRec) (s : State) : (modSlot j f s).asm = s.asm := rfl
@[simp] theorem modSlot_det (j : Nat) (f : SlotRec → SlotRec) (s : State) : (modSlot j f s).det = s.det := rfl
@[simp] theorem modSlot_blobs (j : Nat) (f : SlotRec → SlotRec) (s : State) : (modSlot j f s).blobs = s.blobs := rfl
@[simp] theorem modSlot_lanes (j : Nat) (f : SlotRec → SlotRec) (s : State) : (modSlot j f s).lanes = s.lanes := rfl
@[simp] theorem modSlot_grades (j : Nat) (f : SlotRec → SlotRec) (s : State) : (modSlot j f s).grades = s.grades := rfl
@[simp] theorem modSlot_sched (j : Nat) (f : SlotRec → SlotRec) (s : State) : (modSlot j f s).sched = s.sched := rfl
@[simp] theorem modSlot_cap (j : Nat) (f : SlotRec → SlotRec) (s : State) : (modSlot j f s).cap = s.cap := rfl
@[simp] theorem modSlot_tally (j : Nat) (f : SlotRec → SlotRec) (s : State) : (modSlot j f s).tally = s.tally := rfl
@[simp] theorem modSlot_orders (j : Nat) (f : SlotRec → SlotRec) (s : State) : (modSlot j f s).orders = s.orders := rfl
@[simp] theorem modSlot_writer (j : Nat) (f : SlotRec → SlotRec) (s : State) : (modSlot j f s).writer = s.writer := rfl
@[simp] theorem modSlot_arb (j : Nat) (f : SlotRec → SlotRec) (s : State) : (modSlot j f s).arb = s.arb := rfl
@[simp] theorem modSlot_toTake (j : Nat) (f : SlotRec → SlotRec) (s : State) : (modSlot j f s).toTake = s.toTake := rfl
@[simp] theorem modSlot_answers (j : Nat) (f : SlotRec → SlotRec) (s : State) : (modSlot j f s).answers = s.answers := rfl
@[simp] theorem modSlot_pending (j : Nat) (f : SlotRec → SlotRec) (s : State) : (modSlot j f s).pending = s.pending := rfl

/-! `modPlate` changes sched. -/
@[simp] theorem modPlate_straps (num : Nat) (f : Plate → Plate) (s : State) : (modPlate num f s).straps = s.straps := rfl
@[simp] theorem modPlate_enc (num : Nat) (f : Plate → Plate) (s : State) : (modPlate num f s).enc = s.enc := rfl
@[simp] theorem modPlate_anchor (num : Nat) (f : Plate → Plate) (s : State) : (modPlate num f s).anchor = s.anchor := rfl
@[simp] theorem modPlate_window (num : Nat) (f : Plate → Plate) (s : State) : (modPlate num f s).window = s.window := rfl
@[simp] theorem modPlate_streams (num : Nat) (f : Plate → Plate) (s : State) : (modPlate num f s).streams = s.streams := rfl
@[simp] theorem modPlate_asm (num : Nat) (f : Plate → Plate) (s : State) : (modPlate num f s).asm = s.asm := rfl
@[simp] theorem modPlate_det (num : Nat) (f : Plate → Plate) (s : State) : (modPlate num f s).det = s.det := rfl
@[simp] theorem modPlate_blobs (num : Nat) (f : Plate → Plate) (s : State) : (modPlate num f s).blobs = s.blobs := rfl
@[simp] theorem modPlate_lanes (num : Nat) (f : Plate → Plate) (s : State) : (modPlate num f s).lanes = s.lanes := rfl
@[simp] theorem modPlate_grades (num : Nat) (f : Plate → Plate) (s : State) : (modPlate num f s).grades = s.grades := rfl
@[simp] theorem modPlate_tickets (num : Nat) (f : Plate → Plate) (s : State) : (modPlate num f s).tickets = s.tickets := rfl
@[simp] theorem modPlate_cap (num : Nat) (f : Plate → Plate) (s : State) : (modPlate num f s).cap = s.cap := rfl
@[simp] theorem modPlate_tally (num : Nat) (f : Plate → Plate) (s : State) : (modPlate num f s).tally = s.tally := rfl
@[simp] theorem modPlate_orders (num : Nat) (f : Plate → Plate) (s : State) : (modPlate num f s).orders = s.orders := rfl
@[simp] theorem modPlate_writer (num : Nat) (f : Plate → Plate) (s : State) : (modPlate num f s).writer = s.writer := rfl
@[simp] theorem modPlate_arb (num : Nat) (f : Plate → Plate) (s : State) : (modPlate num f s).arb = s.arb := rfl
@[simp] theorem modPlate_toTake (num : Nat) (f : Plate → Plate) (s : State) : (modPlate num f s).toTake = s.toTake := rfl
@[simp] theorem modPlate_answers (num : Nat) (f : Plate → Plate) (s : State) : (modPlate num f s).answers = s.answers := rfl
@[simp] theorem modPlate_pending (num : Nat) (f : Plate → Plate) (s : State) : (modPlate num f s).pending = s.pending := rfl

/-! `removePassed` changes sched. -/
@[simp] theorem removePassed_straps (line : Nat) (s : State) : (removePassed line s).straps = s.straps := rfl
@[simp] theorem removePassed_enc (line : Nat) (s : State) : (removePassed line s).enc = s.enc := rfl
@[simp] theorem removePassed_anchor (line : Nat) (s : State) : (removePassed line s).anchor = s.anchor := rfl
@[simp] theorem removePassed_window (line : Nat) (s : State) : (removePassed line s).window = s.window := rfl
@[simp] theorem removePassed_streams (line : Nat) (s : State) : (removePassed line s).streams = s.streams := rfl
@[simp] theorem removePassed_asm (line : Nat) (s : State) : (removePassed line s).asm = s.asm := rfl
@[simp] theorem removePassed_det (line : Nat) (s : State) : (removePassed line s).det = s.det := rfl
@[simp] theorem removePassed_blobs (line : Nat) (s : State) : (removePassed line s).blobs = s.blobs := rfl
@[simp] theorem removePassed_lanes (line : Nat) (s : State) : (removePassed line s).lanes = s.lanes := rfl
@[simp] theorem removePassed_grades (line : Nat) (s : State) : (removePassed line s).grades = s.grades := rfl
@[simp] theorem removePassed_tickets (line : Nat) (s : State) : (removePassed line s).tickets = s.tickets := rfl
@[simp] theorem removePassed_cap (line : Nat) (s : State) : (removePassed line s).cap = s.cap := rfl
@[simp] theorem removePassed_tally (line : Nat) (s : State) : (removePassed line s).tally = s.tally := rfl
@[simp] theorem removePassed_orders (line : Nat) (s : State) : (removePassed line s).orders = s.orders := rfl
@[simp] theorem removePassed_writer (line : Nat) (s : State) : (removePassed line s).writer = s.writer := rfl
@[simp] theorem removePassed_arb (line : Nat) (s : State) : (removePassed line s).arb = s.arb := rfl
@[simp] theorem removePassed_toTake (line : Nat) (s : State) : (removePassed line s).toTake = s.toTake := rfl
@[simp] theorem removePassed_answers (line : Nat) (s : State) : (removePassed line s).answers = s.answers := rfl
@[simp] theorem removePassed_pending (line : Nat) (s : State) : (removePassed line s).pending = s.pending := rfl

/-! `gradeTest` changes sched. -/
@[simp] theorem gradeTest_straps (s : State) : (gradeTest s).straps = s.straps := rfl
@[simp] theorem gradeTest_enc (s : State) : (gradeTest s).enc = s.enc := rfl
@[simp] theorem gradeTest_anchor (s : State) : (gradeTest s).anchor = s.anchor := rfl
@[simp] theorem gradeTest_window (s : State) : (gradeTest s).window = s.window := rfl
@[simp] theorem gradeTest_streams (s : State) : (gradeTest s).streams = s.streams := rfl
@[simp] theorem gradeTest_asm (s : State) : (gradeTest s).asm = s.asm := rfl
@[simp] theorem gradeTest_det (s : State) : (gradeTest s).det = s.det := rfl
@[simp] theorem gradeTest_blobs (s : State) : (gradeTest s).blobs = s.blobs := rfl
@[simp] theorem gradeTest_lanes (s : State) : (gradeTest s).lanes = s.lanes := rfl
@[simp] theorem gradeTest_grades (s : State) : (gradeTest s).grades = s.grades := rfl
@[simp] theorem gradeTest_tickets (s : State) : (gradeTest s).tickets = s.tickets := rfl
@[simp] theorem gradeTest_cap (s : State) : (gradeTest s).cap = s.cap := rfl
@[simp] theorem gradeTest_tally (s : State) : (gradeTest s).tally = s.tally := rfl
@[simp] theorem gradeTest_orders (s : State) : (gradeTest s).orders = s.orders := rfl
@[simp] theorem gradeTest_writer (s : State) : (gradeTest s).writer = s.writer := rfl
@[simp] theorem gradeTest_arb (s : State) : (gradeTest s).arb = s.arb := rfl
@[simp] theorem gradeTest_toTake (s : State) : (gradeTest s).toTake = s.toTake := rfl
@[simp] theorem gradeTest_answers (s : State) : (gradeTest s).answers = s.answers := rfl
@[simp] theorem gradeTest_pending (s : State) : (gradeTest s).pending = s.pending := rfl

/-! `deactivate` changes sched. -/
@[simp] theorem deactivate_straps (s : State) : (deactivate s).straps = s.straps := rfl
@[simp] theorem deactivate_enc (s : State) : (deactivate s).enc = s.enc := rfl
@[simp] theorem deactivate_anchor (s : State) : (deactivate s).anchor = s.anchor := rfl
@[simp] theorem deactivate_window (s : State) : (deactivate s).window = s.window := rfl
@[simp] theorem deactivate_streams (s : State) : (deactivate s).streams = s.streams := rfl
@[simp] theorem deactivate_asm (s : State) : (deactivate s).asm = s.asm := rfl
@[simp] theorem deactivate_det (s : State) : (deactivate s).det = s.det := rfl
@[simp] theorem deactivate_blobs (s : State) : (deactivate s).blobs = s.blobs := rfl
@[simp] theorem deactivate_lanes (s : State) : (deactivate s).lanes = s.lanes := rfl
@[simp] theorem deactivate_grades (s : State) : (deactivate s).grades = s.grades := rfl
@[simp] theorem deactivate_tickets (s : State) : (deactivate s).tickets = s.tickets := rfl
@[simp] theorem deactivate_cap (s : State) : (deactivate s).cap = s.cap := rfl
@[simp] theorem deactivate_tally (s : State) : (deactivate s).tally = s.tally := rfl
@[simp] theorem deactivate_orders (s : State) : (deactivate s).orders = s.orders := rfl
@[simp] theorem deactivate_writer (s : State) : (deactivate s).writer = s.writer := rfl
@[simp] theorem deactivate_arb (s : State) : (deactivate s).arb = s.arb := rfl
@[simp] theorem deactivate_toTake (s : State) : (deactivate s).toTake = s.toTake := rfl
@[simp] theorem deactivate_answers (s : State) : (deactivate s).answers = s.answers := rfl
@[simp] theorem deactivate_pending (s : State) : (deactivate s).pending = s.pending := rfl

/-! `issueNull` changes tickets, arb. -/
@[simp] theorem issueNull_straps (j seq : Nat) (s : State) : (issueNull j seq s).straps = s.straps := rfl
@[simp] theorem issueNull_enc (j seq : Nat) (s : State) : (issueNull j seq s).enc = s.enc := rfl
@[simp] theorem issueNull_anchor (j seq : Nat) (s : State) : (issueNull j seq s).anchor = s.anchor := rfl
@[simp] theorem issueNull_window (j seq : Nat) (s : State) : (issueNull j seq s).window = s.window := rfl
@[simp] theorem issueNull_streams (j seq : Nat) (s : State) : (issueNull j seq s).streams = s.streams := rfl
@[simp] theorem issueNull_asm (j seq : Nat) (s : State) : (issueNull j seq s).asm = s.asm := rfl
@[simp] theorem issueNull_det (j seq : Nat) (s : State) : (issueNull j seq s).det = s.det := rfl
@[simp] theorem issueNull_blobs (j seq : Nat) (s : State) : (issueNull j seq s).blobs = s.blobs := rfl
@[simp] theorem issueNull_lanes (j seq : Nat) (s : State) : (issueNull j seq s).lanes = s.lanes := rfl
@[simp] theorem issueNull_grades (j seq : Nat) (s : State) : (issueNull j seq s).grades = s.grades := rfl
@[simp] theorem issueNull_sched (j seq : Nat) (s : State) : (issueNull j seq s).sched = s.sched := rfl
@[simp] theorem issueNull_cap (j seq : Nat) (s : State) : (issueNull j seq s).cap = s.cap := rfl
@[simp] theorem issueNull_tally (j seq : Nat) (s : State) : (issueNull j seq s).tally = s.tally := rfl
@[simp] theorem issueNull_orders (j seq : Nat) (s : State) : (issueNull j seq s).orders = s.orders := rfl
@[simp] theorem issueNull_writer (j seq : Nat) (s : State) : (issueNull j seq s).writer = s.writer := rfl
@[simp] theorem issueNull_toTake (j seq : Nat) (s : State) : (issueNull j seq s).toTake = s.toTake := rfl
@[simp] theorem issueNull_answers (j seq : Nat) (s : State) : (issueNull j seq s).answers = s.answers := rfl
@[simp] theorem issueNull_pending (j seq : Nat) (s : State) : (issueNull j seq s).pending = s.pending := rfl

/-! `modCopy` changes cap. -/
@[simp] theorem modCopy_straps (f : Copy → Copy) (s : State) : (modCopy f s).straps = s.straps := rfl
@[simp] theorem modCopy_enc (f : Copy → Copy) (s : State) : (modCopy f s).enc = s.enc := rfl
@[simp] theorem modCopy_anchor (f : Copy → Copy) (s : State) : (modCopy f s).anchor = s.anchor := rfl
@[simp] theorem modCopy_window (f : Copy → Copy) (s : State) : (modCopy f s).window = s.window := rfl
@[simp] theorem modCopy_streams (f : Copy → Copy) (s : State) : (modCopy f s).streams = s.streams := rfl
@[simp] theorem modCopy_asm (f : Copy → Copy) (s : State) : (modCopy f s).asm = s.asm := rfl
@[simp] theorem modCopy_det (f : Copy → Copy) (s : State) : (modCopy f s).det = s.det := rfl
@[simp] theorem modCopy_blobs (f : Copy → Copy) (s : State) : (modCopy f s).blobs = s.blobs := rfl
@[simp] theorem modCopy_lanes (f : Copy → Copy) (s : State) : (modCopy f s).lanes = s.lanes := rfl
@[simp] theorem modCopy_grades (f : Copy → Copy) (s : State) : (modCopy f s).grades = s.grades := rfl
@[simp] theorem modCopy_sched (f : Copy → Copy) (s : State) : (modCopy f s).sched = s.sched := rfl
@[simp] theorem modCopy_tickets (f : Copy → Copy) (s : State) : (modCopy f s).tickets = s.tickets := rfl
@[simp] theorem modCopy_tally (f : Copy → Copy) (s : State) : (modCopy f s).tally = s.tally := rfl
@[simp] theorem modCopy_orders (f : Copy → Copy) (s : State) : (modCopy f s).orders = s.orders := rfl
@[simp] theorem modCopy_writer (f : Copy → Copy) (s : State) : (modCopy f s).writer = s.writer := rfl
@[simp] theorem modCopy_arb (f : Copy → Copy) (s : State) : (modCopy f s).arb = s.arb := rfl
@[simp] theorem modCopy_toTake (f : Copy → Copy) (s : State) : (modCopy f s).toTake = s.toTake := rfl
@[simp] theorem modCopy_answers (f : Copy → Copy) (s : State) : (modCopy f s).answers = s.answers := rfl
@[simp] theorem modCopy_pending (f : Copy → Copy) (s : State) : (modCopy f s).pending = s.pending := rfl

/-! `modCapStream` changes cap. -/
@[simp] theorem modCapStream_straps (n : Nat) (f : CapStream → CapStream) (s : State) : (modCapStream n f s).straps = s.straps := rfl
@[simp] theorem modCapStream_enc (n : Nat) (f : CapStream → CapStream) (s : State) : (modCapStream n f s).enc = s.enc := rfl
@[simp] theorem modCapStream_anchor (n : Nat) (f : CapStream → CapStream) (s : State) : (modCapStream n f s).anchor = s.anchor := rfl
@[simp] theorem modCapStream_window (n : Nat) (f : CapStream → CapStream) (s : State) : (modCapStream n f s).window = s.window := rfl
@[simp] theorem modCapStream_streams (n : Nat) (f : CapStream → CapStream) (s : State) : (modCapStream n f s).streams = s.streams := rfl
@[simp] theorem modCapStream_asm (n : Nat) (f : CapStream → CapStream) (s : State) : (modCapStream n f s).asm = s.asm := rfl
@[simp] theorem modCapStream_det (n : Nat) (f : CapStream → CapStream) (s : State) : (modCapStream n f s).det = s.det := rfl
@[simp] theorem modCapStream_blobs (n : Nat) (f : CapStream → CapStream) (s : State) : (modCapStream n f s).blobs = s.blobs := rfl
@[simp] theorem modCapStream_lanes (n : Nat) (f : CapStream → CapStream) (s : State) : (modCapStream n f s).lanes = s.lanes := rfl
@[simp] theorem modCapStream_grades (n : Nat) (f : CapStream → CapStream) (s : State) : (modCapStream n f s).grades = s.grades := rfl
@[simp] theorem modCapStream_sched (n : Nat) (f : CapStream → CapStream) (s : State) : (modCapStream n f s).sched = s.sched := rfl
@[simp] theorem modCapStream_tickets (n : Nat) (f : CapStream → CapStream) (s : State) : (modCapStream n f s).tickets = s.tickets := rfl
@[simp] theorem modCapStream_tally (n : Nat) (f : CapStream → CapStream) (s : State) : (modCapStream n f s).tally = s.tally := rfl
@[simp] theorem modCapStream_orders (n : Nat) (f : CapStream → CapStream) (s : State) : (modCapStream n f s).orders = s.orders := rfl
@[simp] theorem modCapStream_writer (n : Nat) (f : CapStream → CapStream) (s : State) : (modCapStream n f s).writer = s.writer := rfl
@[simp] theorem modCapStream_arb (n : Nat) (f : CapStream → CapStream) (s : State) : (modCapStream n f s).arb = s.arb := rfl
@[simp] theorem modCapStream_toTake (n : Nat) (f : CapStream → CapStream) (s : State) : (modCapStream n f s).toTake = s.toTake := rfl
@[simp] theorem modCapStream_answers (n : Nat) (f : CapStream → CapStream) (s : State) : (modCapStream n f s).answers = s.answers := rfl
@[simp] theorem modCapStream_pending (n : Nat) (f : CapStream → CapStream) (s : State) : (modCapStream n f s).pending = s.pending := rfl

/-! `releaseCaptures` changes cap. -/
@[simp] theorem releaseCaptures_straps (mask : BitVec 8) (s : State) : (releaseCaptures mask s).straps = s.straps := rfl
@[simp] theorem releaseCaptures_enc (mask : BitVec 8) (s : State) : (releaseCaptures mask s).enc = s.enc := rfl
@[simp] theorem releaseCaptures_anchor (mask : BitVec 8) (s : State) : (releaseCaptures mask s).anchor = s.anchor := rfl
@[simp] theorem releaseCaptures_window (mask : BitVec 8) (s : State) : (releaseCaptures mask s).window = s.window := rfl
@[simp] theorem releaseCaptures_streams (mask : BitVec 8) (s : State) : (releaseCaptures mask s).streams = s.streams := rfl
@[simp] theorem releaseCaptures_asm (mask : BitVec 8) (s : State) : (releaseCaptures mask s).asm = s.asm := rfl
@[simp] theorem releaseCaptures_det (mask : BitVec 8) (s : State) : (releaseCaptures mask s).det = s.det := rfl
@[simp] theorem releaseCaptures_blobs (mask : BitVec 8) (s : State) : (releaseCaptures mask s).blobs = s.blobs := rfl
@[simp] theorem releaseCaptures_lanes (mask : BitVec 8) (s : State) : (releaseCaptures mask s).lanes = s.lanes := rfl
@[simp] theorem releaseCaptures_grades (mask : BitVec 8) (s : State) : (releaseCaptures mask s).grades = s.grades := rfl
@[simp] theorem releaseCaptures_sched (mask : BitVec 8) (s : State) : (releaseCaptures mask s).sched = s.sched := rfl
@[simp] theorem releaseCaptures_tickets (mask : BitVec 8) (s : State) : (releaseCaptures mask s).tickets = s.tickets := rfl
@[simp] theorem releaseCaptures_tally (mask : BitVec 8) (s : State) : (releaseCaptures mask s).tally = s.tally := rfl
@[simp] theorem releaseCaptures_orders (mask : BitVec 8) (s : State) : (releaseCaptures mask s).orders = s.orders := rfl
@[simp] theorem releaseCaptures_writer (mask : BitVec 8) (s : State) : (releaseCaptures mask s).writer = s.writer := rfl
@[simp] theorem releaseCaptures_arb (mask : BitVec 8) (s : State) : (releaseCaptures mask s).arb = s.arb := rfl
@[simp] theorem releaseCaptures_toTake (mask : BitVec 8) (s : State) : (releaseCaptures mask s).toTake = s.toTake := rfl
@[simp] theorem releaseCaptures_answers (mask : BitVec 8) (s : State) : (releaseCaptures mask s).answers = s.answers := rfl
@[simp] theorem releaseCaptures_pending (mask : BitVec 8) (s : State) : (releaseCaptures mask s).pending = s.pending := rfl

/-! `setGap` changes blobs. -/
@[simp] theorem setGap_straps (g : Nat) (z : Option GapZone) (s : State) : (setGap g z s).straps = s.straps := rfl
@[simp] theorem setGap_enc (g : Nat) (z : Option GapZone) (s : State) : (setGap g z s).enc = s.enc := rfl
@[simp] theorem setGap_anchor (g : Nat) (z : Option GapZone) (s : State) : (setGap g z s).anchor = s.anchor := rfl
@[simp] theorem setGap_window (g : Nat) (z : Option GapZone) (s : State) : (setGap g z s).window = s.window := rfl
@[simp] theorem setGap_streams (g : Nat) (z : Option GapZone) (s : State) : (setGap g z s).streams = s.streams := rfl
@[simp] theorem setGap_asm (g : Nat) (z : Option GapZone) (s : State) : (setGap g z s).asm = s.asm := rfl
@[simp] theorem setGap_det (g : Nat) (z : Option GapZone) (s : State) : (setGap g z s).det = s.det := rfl
@[simp] theorem setGap_lanes (g : Nat) (z : Option GapZone) (s : State) : (setGap g z s).lanes = s.lanes := rfl
@[simp] theorem setGap_grades (g : Nat) (z : Option GapZone) (s : State) : (setGap g z s).grades = s.grades := rfl
@[simp] theorem setGap_sched (g : Nat) (z : Option GapZone) (s : State) : (setGap g z s).sched = s.sched := rfl
@[simp] theorem setGap_tickets (g : Nat) (z : Option GapZone) (s : State) : (setGap g z s).tickets = s.tickets := rfl
@[simp] theorem setGap_cap (g : Nat) (z : Option GapZone) (s : State) : (setGap g z s).cap = s.cap := rfl
@[simp] theorem setGap_tally (g : Nat) (z : Option GapZone) (s : State) : (setGap g z s).tally = s.tally := rfl
@[simp] theorem setGap_orders (g : Nat) (z : Option GapZone) (s : State) : (setGap g z s).orders = s.orders := rfl
@[simp] theorem setGap_writer (g : Nat) (z : Option GapZone) (s : State) : (setGap g z s).writer = s.writer := rfl
@[simp] theorem setGap_arb (g : Nat) (z : Option GapZone) (s : State) : (setGap g z s).arb = s.arb := rfl
@[simp] theorem setGap_toTake (g : Nat) (z : Option GapZone) (s : State) : (setGap g z s).toTake = s.toTake := rfl
@[simp] theorem setGap_answers (g : Nat) (z : Option GapZone) (s : State) : (setGap g z s).answers = s.answers := rfl
@[simp] theorem setGap_pending (g : Nat) (z : Option GapZone) (s : State) : (setGap g z s).pending = s.pending := rfl

/-! What the updates do to their own field. -/

@[simp] theorem tallyAdd_tally (k : TallyKey) (amount : Nat) (s : State) :
    (tallyAdd k amount s).tally = s.tally.add k amount := rfl

@[simp] theorem issueOwn_arb (p : Purpose) (addr : Nat) (body : OwnBody) (s : State) : (issueOwn p addr body s).arb =
    { s.arb with ownWaiting := s.arb.ownWaiting ++ [{ purpose := p, live := true, addr := addr, body := body }] } := rfl

@[simp] theorem forwardPass_arb (x : PassTxn) (s : State) :
    (forwardPass x s).arb = { s.arb with passWaiting := s.arb.passWaiting ++ [x] } := rfl

@[simp] theorem setPhase_orders (p : OrderPhase) (s : State) : (setPhase p s).orders = { s.orders with phase := p } := rfl

@[simp] theorem complete_orders (c : Completion) (s : State) :
    (complete c s).orders = { s.orders with phase := .completing c.code } := rfl

@[simp] theorem complete_arb (c : Completion) (s : State) : (complete c s).arb =
    { s.arb with ownWaiting := s.arb.ownWaiting ++
        [{ purpose := .completion, live := true, addr := s.orders.orderAddr + 0x3C,
           body := .write (completionBytes c.code 0) }] } := rfl

@[simp] theorem modStream_streams (n : Nat) (f : StreamRec → StreamRec) (s : State) :
    (modStream n f s).streams = s.streams.modify n f := rfl

@[simp] theorem modSlot_tickets (j : Nat) (f : SlotRec → SlotRec) (s : State) :
    (modSlot j f s).tickets = s.tickets.modify j f := rfl

@[simp] theorem setNotices_writer (f : Notices → Notices) (s : State) :
    (setNotices f s).writer = { s.writer with notices := f s.writer.notices } := rfl

/-! DRAINING follows the null rewrites of R138 and no other transaction (R176). -/

/-- Requests that join the arbiter drain if one of them is a null rewrite of R138. -/
@[simp] theorem drainsOut_append (a : Arbiter) (ts : List OwnTxn) :
    drainsOut { a with ownWaiting := a.ownWaiting ++ ts } = (drainsOut a || ts.any (·.purpose.drains)) := by
  simp [drainsOut, List.any_append, Bool.or_comm, Bool.or_left_comm]

/-- The end of a transaction that is no null rewrite of R138 leaves DRAINING as it is. -/
theorem drainsOut_ended {a : Arbiter} {pre post : List OwnTxn} {x : OwnTxn} (h : a.ownOut = pre ++ x :: post)
    (hx : x.purpose.drains = false) : drainsOut { a with ownOut := pre ++ post } = drainsOut a := by
  simp [drainsOut, h, hx, List.any_append]

/-- A transaction that is no null rewrite of R138 leaves the enabled state as it is. -/
theorem enabledCode_issueOwn {p : Purpose} (h : p.drains = false) (addr : Nat) (body : OwnBody) (s : State) :
    enabledCode (issueOwn p addr body s) = enabledCode s := by
  have e : drainsOut (issueOwn p addr body s).arb = drainsOut s.arb := by
    rw [issueOwn_arb, drainsOut_append]; simp [h]
  unfold enabledCode; rw [e]; rfl

/-- The mark of a FENCE is none of DRAINING. -/
@[simp] theorem Purpose.marked_drains (p : Purpose) : p.marked.drains = p.drains := by cases p <;> rfl

@[simp] theorem Plate.marked_state (p : Plate) : p.marked.state = p.state := by unfold Plate.marked; split <;> rfl

@[simp] theorem Plate.marked_num (p : Plate) : p.marked.num = p.num := by unfold Plate.marked; split <;> rfl

@[simp] theorem SlotRec.marked_noted (r : SlotRec) : r.marked.noted = r.noted := by unfold SlotRec.marked; split <;> rfl

/-- Another stream's record is left alone. -/
theorem stream_modStream_of_ne {n m : Nat} (f : StreamRec → StreamRec) (s : State) (h : m ≠ n) :
    stream (modStream n f s) m = stream s m := by
  simp [stream, h.symm]

/-- A stream that exists is changed by its update. -/
theorem stream_modStream_self {n : Nat} (f : StreamRec → StreamRec) (s : State) (h : n < s.streams.length) :
    stream (modStream n f s) n = f (stream s n) := by
  simp [stream, h]

set_option maxRecDepth 8000 in
/-- The status block image that pin reset prompts is that of the reset state, whatever the revision (R184). -/
theorem resetImage_is_image : resetImage = statusImage (statusFields State.reset) := rfl

end Sys2Proof.Machine
end

