-- ==== Sys2Proof/Laws/Frames.lean ====
section
/-! SUPPORT. What the shared operations can touch, said once for each: `LogFrame` for what hands records and transactions over,
`PlateFrame` for everything that plates, flaws, slots and captures bring about, `BoardFrame` for the writes that the
Classifier takes. -/

namespace Sys2Proof.Machine

/-! ## LogFrame -/

/-- At most the Record Writer, the tallies and the port have changed. -/
structure LogFrame (s t : State) : Prop where
  straps : t.straps = s.straps
  enc : t.enc = s.enc
  anchor : t.anchor = s.anchor
  window : t.window = s.window
  streams : t.streams = s.streams
  asm : t.asm = s.asm
  det : t.det = s.det
  blobs : t.blobs = s.blobs
  lanes : t.lanes = s.lanes
  grades : t.grades = s.grades
  sched : t.sched = s.sched
  tickets : t.tickets = s.tickets
  cap : t.cap = s.cap
  orders : t.orders = s.orders
  toTake : t.toTake = s.toTake
  answers : t.answers = s.answers
  pending : t.pending = s.pending

theorem LogFrame.refl (s : State) : LogFrame s s := by constructor <;> rfl

theorem LogFrame.trans {s t u : State} (h : LogFrame s t) (k : LogFrame t u) : LogFrame s u :=
  ⟨k.straps.trans h.straps, k.enc.trans h.enc, k.anchor.trans h.anchor, k.window.trans h.window,
   k.streams.trans h.streams, k.asm.trans h.asm, k.det.trans h.det, k.blobs.trans h.blobs, k.lanes.trans h.lanes,
   k.grades.trans h.grades, k.sched.trans h.sched, k.tickets.trans h.tickets, k.cap.trans h.cap,
   k.orders.trans h.orders, k.toTake.trans h.toTake, k.answers.trans h.answers, k.pending.trans h.pending⟩

/-- A change of the Record Writer alone. -/
theorem LogFrame.ofWriter (s : State) (w : RecordWriter) : LogFrame s { s with writer := w } := by constructor <;> rfl

theorem tallyAdd_logFrame (k : TallyKey) (n : Nat) (s : State) : LogFrame s (tallyAdd k n s) := by constructor <;> rfl

theorem issueOwn_logFrame (p : Purpose) (a : Nat) (b : OwnBody) (s : State) : LogFrame s (issueOwn p a b s) := by
  constructor <;> rfl

theorem disown_logFrame (p : Purpose → Bool) (s : State) : LogFrame s (disown p s) := by constructor <;> rfl

theorem withdrawOwn_logFrame (p : Purpose → Bool) (s : State) : LogFrame s (withdrawOwn p s) := by constructor <;> rfl

theorem clearOut_logFrame (p : Purpose → Bool) (s : State) : LogFrame s (clearOut p s) := by constructor <;> rfl

theorem withdrawNotes_logFrame (n k : Nat) (s : State) : LogFrame s (withdrawNotes n k s) := by constructor <;> rfl

theorem withdrawStream_logFrame (n : Nat) (s : State) : LogFrame s (withdrawStream n s) := by constructor <;> rfl

theorem forwardPass_logFrame (x : PassTxn) (s : State) : LogFrame s (forwardPass x s) := by constructor <;> rfl

theorem takeOut_logFrame (x : List PassTxn) (s : State) : LogFrame s (takeOut x s) := by constructor <;> rfl

theorem setNotices_logFrame (f : Notices → Notices) (s : State) : LogFrame s (setNotices f s) := by constructor <;> rfl

theorem loseRecords_logFrame (n : Nat) (s : State) : LogFrame s (loseRecords n s) := by constructor <;> rfl

theorem issueStatus_logFrame (s : State) : LogFrame s (issueStatus s) := by constructor <;> rfl

theorem issueReads_logFrame (p : Purpose) (bs : List (Nat × Nat)) (s : State) : LogFrame s (issueReads p bs s) := by
  unfold issueReads
  induction bs generalizing s with
  | nil => exact .refl s
  | cons b bs ih => exact (issueOwn_logFrame _ _ _ s).trans (ih _)

theorem issueRecords_logFrame (base size i : Nat) (rs : List LogRecord) (s : State) :
    LogFrame s (issueRecords base size i rs s) := by
  induction rs generalizing i s with
  | nil => exact .refl s
  | cons r rs ih => exact (issueOwn_logFrame _ _ _ s).trans (ih _ _)

theorem takeGroups_logFrame (gs : List LogGroup) (s : State) : LogFrame s (takeGroups gs s) := by
  induction gs generalizing s with
  | nil => exact .ofWriter s _
  | cons g gs ih =>
    unfold takeGroups
    split
    · exact (loseRecords_logFrame _ s).trans (ih _)
    · exact (LogFrame.ofWriter s _).trans (issueRecords_logFrame ..)

theorem pumpLog_logFrame (s : State) : LogFrame s (pumpLog s) := by
  unfold pumpLog
  split
  · exact takeGroups_logFrame _ s
  · exact .refl s

/-- Handing a group over touches the Record Writer, the tallies and the port alone (R181). -/
theorem handGroup_logFrame (bs : List RecordBody) (s : State) : LogFrame s (handGroup bs s) := by
  unfold handGroup
  dsimp only
  split
  · exact (LogFrame.ofWriter s _).trans (pumpLog_logFrame _)
  · exact (LogFrame.ofWriter s _).trans (loseRecords_logFrame _ _)

/-- An event touches the Record Writer, the tallies and the port alone (R185). -/
theorem issueEvent_logFrame (k : EventKind) (fs : List Nat) (s : State) : LogFrame s (issueEvent k fs s) := by
  unfold issueEvent
  split
  · exact (setNotices_logFrame _ s).trans (handGroup_logFrame _ _)
  · exact handGroup_logFrame _ s

theorem formLogLost_logFrame (s : State) : LogFrame s (formLogLost s) := by
  unfold formLogLost
  exact ((((LogFrame.ofWriter s _).trans (loseRecords_logFrame _ _)).trans (LogFrame.ofWriter _ _)).trans
    (setNotices_logFrame _ _)).trans (pumpLog_logFrame _)

theorem promptStatus_logFrame (s : State) : LogFrame s (promptStatus s) := by
  unfold promptStatus
  split
  · exact .ofWriter s _
  · exact issueStatus_logFrame s

/-- The status block refresh touches the Record Writer and the port alone (R184). -/
theorem refreshStatus_logFrame (b s : State) : LogFrame s (refreshStatus b s) := by
  unfold refreshStatus
  split
  · exact .refl s
  · exact promptStatus_logFrame s

/-- A fold of steps that stay in the frame stays in it. -/
theorem LogFrame.foldl {α : Type} {f : State → α → State} (h : ∀ s a, LogFrame s (f s a)) (l : List α) (s : State) :
    LogFrame s (l.foldl f s) := by
  induction l generalizing s with
  | nil => exact .refl s
  | cons a l ih => exact (h s a).trans (ih _)

theorem windowEvents_logFrame (l : List Nat) (s : State) : LogFrame s (windowEvents l s) := by
  unfold windowEvents
  refine LogFrame.foldl (fun s k => ?_) l s
  split
  · exact .refl s
  · exact issueEvent_logFrame _ _ s

theorem streakEvent_logFrame (line g b a : Nat) (s : State) : LogFrame s (streakEvent line g b a s) := by
  unfold streakEvent
  split
  · exact issueEvent_logFrame _ _ s
  · split
    · exact issueEvent_logFrame _ _ s
    · exact .refl s

theorem streakEvents_logFrame (line g : Nat) (bs as : List Nat) (s : State) :
    LogFrame s (streakEvents line g bs as s) := by
  induction bs generalizing g as s with
  | nil => cases as <;> exact .refl s
  | cons b bs ih =>
    cases as with
    | nil => exact .refl s
    | cons a as => exact (streakEvent_logFrame line g b a s).trans (ih _ _ _)

/-! ## PlateFrame -/

/-- At most the streams' records, the Blob Tracker, the scheduler, the ticket slots, the Capture Engine, the Record Writer,
the tallies and the port have changed. -/
structure PlateFrame (s t : State) : Prop where
  straps : t.straps = s.straps
  enc : t.enc = s.enc
  anchor : t.anchor = s.anchor
  window : t.window = s.window
  asm : t.asm = s.asm
  det : t.det = s.det
  lanes : t.lanes = s.lanes
  grades : t.grades = s.grades
  orders : t.orders = s.orders
  toTake : t.toTake = s.toTake
  answers : t.answers = s.answers
  pending : t.pending = s.pending

theorem PlateFrame.refl (s : State) : PlateFrame s s := by constructor <;> rfl

theorem PlateFrame.trans {s t u : State} (h : PlateFrame s t) (k : PlateFrame t u) : PlateFrame s u :=
  ⟨k.straps.trans h.straps, k.enc.trans h.enc, k.anchor.trans h.anchor, k.window.trans h.window, k.asm.trans h.asm,
   k.det.trans h.det, k.lanes.trans h.lanes, k.grades.trans h.grades, k.orders.trans h.orders,
   k.toTake.trans h.toTake, k.answers.trans h.answers, k.pending.trans h.pending⟩

theorem LogFrame.plate {s t : State} (h : LogFrame s t) : PlateFrame s t :=
  ⟨h.straps, h.enc, h.anchor, h.window, h.asm, h.det, h.lanes, h.grades, h.orders, h.toTake, h.answers, h.pending⟩

theorem PlateFrame.foldl {α : Type} {f : State → α → State} (h : ∀ s a, PlateFrame s (f s a)) (l : List α) (s : State) :
    PlateFrame s (l.foldl f s) := by
  induction l generalizing s with
  | nil => exact .refl s
  | cons a l ih => exact (h s a).trans (ih _)

theorem PlateFrame.ofSched (s : State) (x : Scheduler) : PlateFrame s { s with sched := x } := by constructor <;> rfl

theorem PlateFrame.ofBlobs (s : State) (x : BlobTracker) : PlateFrame s { s with blobs := x } := by constructor <;> rfl

theorem PlateFrame.ofCap (s : State) (x : Capture) : PlateFrame s { s with cap := x } := by constructor <;> rfl

theorem PlateFrame.ofTally (s : State) (x : TallyUnit) : PlateFrame s { s with tally := x } := by constructor <;> rfl

theorem modStream_plateFrame (n : Nat) (f : StreamRec → StreamRec) (s : State) : PlateFrame s (modStream n f s) := by
  constructor <;> rfl

theorem modDir_plateFrame (n k : Nat) (f : DirEntry → DirEntry) (s : State) : PlateFrame s (modDir n k f s) := by
  constructor <;> rfl

theorem modSlot_plateFrame (j : Nat) (f : SlotRec → SlotRec) (s : State) : PlateFrame s (modSlot j f s) := by
  constructor <;> rfl

theorem modPlate_plateFrame (n : Nat) (f : Plate → Plate) (s : State) : PlateFrame s (modPlate n f s) := by
  constructor <;> rfl

theorem setGap_plateFrame (g : Nat) (z : Option GapZone) (s : State) : PlateFrame s (setGap g z s) := by
  constructor <;> rfl

theorem removePassed_plateFrame (l : Nat) (s : State) : PlateFrame s (removePassed l s) := by constructor <;> rfl

theorem unpinAll_plateFrame (s : State) : PlateFrame s (unpinAll s) := by constructor <;> rfl

theorem gradeTest_plateFrame (s : State) : PlateFrame s (gradeTest s) := by constructor <;> rfl

theorem deactivate_plateFrame (s : State) : PlateFrame s (deactivate s) := by constructor <;> rfl

/-! ### Flaws -/

theorem startCopy_plateFrame (k n c0 c1 y0 : Nat) (s : State) : PlateFrame s (startCopy k n c0 c1 y0 s) := by
  unfold startCopy
  exact (PlateFrame.ofCap s _).trans (PlateFrame.foldl (fun s cs => modStream_plateFrame _ _ s) _ _)

theorem offerCapture_plateFrame (f : Flaw) (s : State) : PlateFrame s (offerCapture f s).2 := by
  unfold offerCapture
  split
  · split
    · exact startCopy_plateFrame ..
    · exact (tallyAdd_logFrame _ _ s).plate
  · exact .refl s

theorem submitFlaw_plateFrame (f : ListedFlaw) (s : State) : PlateFrame s (submitFlaw f s) := by
  unfold submitFlaw
  split
  · exact .ofSched s _
  · split
    · exact .ofSched s _
    · exact (PlateFrame.ofSched s _).trans (issueEvent_logFrame _ _ _).plate

/-- Routing a flaw (R78). -/
theorem routeFlaw_plateFrame (f : Flaw) (s : State) : PlateFrame s (routeFlaw f s) := by
  have h : PlateFrame s (tallyAdd (.flaw f.cls) 1 (handGroup [.flaw (offerCapture f s).1] (offerCapture f s).2)) :=
    ((offerCapture_plateFrame f s).trans (handGroup_logFrame _ _).plate).trans (tallyAdd_logFrame _ _ _).plate
  unfold routeFlaw
  dsimp only
  split
  · exact h
  · have h2 := h.trans (PlateFrame.ofSched _ _ : PlateFrame _ (offerPlates (offerCapture f s).1 _))
    split
    · exact h2.trans (submitFlaw_plateFrame _ _)
    · exact h2

theorem raiseFlaw_plateFrame (f : Flaw) (s : State) : PlateFrame s (raiseFlaw f s) :=
  (PlateFrame.ofBlobs s _).trans (routeFlaw_plateFrame _ _)

theorem raiseFlaws_plateFrame (fs : List Flaw) (s : State) : PlateFrame s (raiseFlaws fs s) :=
  PlateFrame.foldl (fun s f => raiseFlaw_plateFrame f s) fs s

end Sys2Proof.Machine
end

