-- ==== Sys2Proof/Laws/Plates.lean ====
section
/-! SUPPORT. What the Blob Tracker's act, an evaluation, a retirement, an activation and the Capture Engine can touch. -/

namespace Sys2Proof.Machine

/-! ## The Blob Tracker's act -/

theorem closeBlob_plateFrame (s : State) (x : Blob × Bool) : PlateFrame s (closeBlob s x) := by
  unfold closeBlob
  split
  · exact (tallyAdd_logFrame _ _ s).plate
  · exact raiseFlaw_plateFrame _ s

theorem feedDense_plateFrame (l : Nat) (d : List Run) (o : Bool) (s : State) : PlateFrame s (feedDense l d o s) := by
  unfold feedDense
  split
  · exact .refl s
  · dsimp only
    split
    · exact .ofBlobs s _
    · exact (PlateFrame.ofBlobs s _).trans (issueEvent_logFrame _ _ _).plate

theorem testDense_plateFrame (l : Nat) (s : State) : PlateFrame s (testDense l s) := by
  unfold testDense
  split
  · exact .refl s
  · split
    · exact (PlateFrame.ofBlobs s _).trans (raiseFlaw_plateFrame _ _)
    · split
      · exact (PlateFrame.ofBlobs s _).trans (raiseFlaw_plateFrame _ _)
      · exact .refl s

theorem takeCoverage_plateFrame (l g : Nat) (u : Bool) (s : State) : PlateFrame s (takeCoverage l g u s) := by
  unfold takeCoverage
  split
  · split
    · exact setGap_plateFrame _ _ s
    · exact .refl s
  · split
    · exact setGap_plateFrame _ _ s
    · split
      · exact (setGap_plateFrame _ _ s).trans (raiseFlaw_plateFrame _ _)
      · exact setGap_plateFrame _ _ s

theorem takeCoverages_plateFrame (l g : Nat) (us : List Bool) (s : State) : PlateFrame s (takeCoverages l g us s) := by
  induction us generalizing g s with
  | nil => exact .refl s
  | cons u us ih => exact (takeCoverage_plateFrame l g u s).trans (ih _ _)

theorem splitGaps_plateFrame (c : Nat) (a : Bool) (s : State) : PlateFrame s (splitGaps c a s).2 := by
  unfold splitGaps
  dsimp only
  refine PlateFrame.foldl (fun t g => ?_) _ s
  split
  · exact setGap_plateFrame _ _ t
  · exact .refl t

theorem takeSplits_plateFrame (l : Nat) (s : State) : PlateFrame s (takeSplits l s) := by
  unfold takeSplits
  exact (PlateFrame.ofBlobs s _).trans (PlateFrame.foldl
    (fun s c => (splitGaps_plateFrame c false s).trans (raiseFlaws_plateFrame _ _)) _ _)

/-- The act over a line touches neither the line, nor the columns, nor the orders (R64). -/
theorem blobAct_plateFrame (l : Nat) (rs os : List Run) (us : List Bool) (s : State) :
    PlateFrame s (blobAct l rs os us s) := by
  unfold blobAct
  exact (((((((PlateFrame.ofBlobs s _).trans (feedDense_plateFrame ..)).trans (PlateFrame.ofBlobs _ _)).trans
    (PlateFrame.foldl (fun s x => closeBlob_plateFrame s x) _ _)).trans (testDense_plateFrame _ _)).trans
    (takeCoverages_plateFrame _ _ _ _))).trans (takeSplits_plateFrame _ _)

/-! ## Tickets -/

theorem issueNull_plateFrame (j q : Nat) (s : State) : PlateFrame s (issueNull j q s) := by constructor <;> rfl

theorem trySeal_plateFrame (n : Nat) (s : State) : PlateFrame s (trySeal n s) := by
  unfold trySeal
  split
  · exact .refl s
  · dsimp only
    split
    · exact ((modSlot_plateFrame _ _ s).trans (modPlate_plateFrame _ _ _)).trans (issueOwn_logFrame _ _ _ _).plate
    · exact .refl s

theorem pumpSeals_plateFrame (s : State) : PlateFrame s (pumpSeals s) :=
  PlateFrame.foldl (f := fun s (p : Plate) => trySeal p.num s) (fun s p => trySeal_plateFrame p.num s) _ s

theorem withdrawTicket_plateFrame (d : Bool) (p : Plate) (s : State) : PlateFrame s (withdrawTicket d p s) := by
  unfold withdrawTicket
  dsimp only
  split
  · exact (modSlot_plateFrame _ _ s).trans (modSlot_plateFrame _ _ _)
  · split
    · exact (modSlot_plateFrame _ _ s).trans (issueNull_plateFrame _ _ _)
    · exact (modSlot_plateFrame _ _ s).trans (modSlot_plateFrame _ _ _)
  · exact modSlot_plateFrame _ _ s

theorem markMissed_plateFrame (p : Plate) (s : State) : PlateFrame s (markMissed p s) :=
  (modPlate_plateFrame _ _ s).trans (issueEvent_logFrame _ _ _).plate

/-! ## Decisions -/

theorem testRequest_plateFrame (p : Plan) (s : State) : PlateFrame s (testRequest p s) := by
  unfold testRequest
  split
  · split
    · exact (PlateFrame.ofSched s _).trans (issueEvent_logFrame _ _ _).plate
    · exact .refl s
  · exact .refl s

theorem jumpUnplanned_plateFrame (x : Nat) (s : State) : PlateFrame s (jumpUnplanned x s) := by constructor <;> rfl

theorem enterPlate_plateFrame (q : Plate) (s : State) : PlateFrame s (enterPlate q s) := by constructor <;> rfl

theorem giveCut_plateFrame (c : Nat) (s : State) : PlateFrame s (giveCut c s).2 := by
  unfold giveCut
  split
  · exact splitGaps_plateFrame _ _ s
  · exact .ofBlobs s _

theorem tallyDecision_plateFrame (q : Plate) (s : State) : PlateFrame s (tallyDecision q s) := by
  have h := (((tallyAdd_logFrame (.decided q.kind) 1 s).trans (tallyAdd_logFrame .decidedLength (q.cut - q.start) _)).trans
    (tallyAdd_logFrame .sAdvance (q.cut - q.start) _)).plate
  unfold tallyDecision
  dsimp only
  split
  · exact h.trans (tallyAdd_logFrame _ _ _).plate
  · exact h

theorem decidePlate_plateFrame (p : Plan) (c : Nat) (k : PlateKind) (f u : Bool) (s : State) :
    PlateFrame s (decidePlate p c k f u s) := by
  unfold decidePlate
  exact ((((((enterPlate_plateFrame _ s).trans (removePassed_plateFrame _ _)).trans (giveCut_plateFrame _ _)).trans
    (pumpSeals_plateFrame _)).trans (tallyDecision_plateFrame _ _)).trans (PlateFrame.ofSched _ _)).trans
    (raiseFlaws_plateFrame _ _)

theorem finishDecision_plateFrame (p : Plan) (c : Choice) (f : Bool) (s : State) :
    PlateFrame s (finishDecision p c f s) := by
  unfold finishDecision
  dsimp only
  split
  · exact decidePlate_plateFrame ..
  · split
    · split
      · exact ((PlateFrame.ofSched s _).trans (issueEvent_logFrame _ _ _).plate).trans (decidePlate_plateFrame ..)
      · exact decidePlate_plateFrame ..
    · exact (issueEvent_logFrame _ _ s).plate.trans (jumpUnplanned_plateFrame _ _)

theorem starve_plateFrame (p : Plan) (s : State) : PlateFrame s (starve p s) :=
  (issueEvent_logFrame _ _ s).plate.trans (jumpUnplanned_plateFrame _ _)

theorem evaluateOnce_plateFrame (p : Plan) (s : State) : PlateFrame s (evaluateOnce p s).2 := by
  unfold evaluateOnce
  dsimp only
  split
  · split
    · exact (testRequest_plateFrame p s).trans (starve_plateFrame _ _)
    · exact testRequest_plateFrame p s
  · split
    · exact (testRequest_plateFrame p s).trans (finishDecision_plateFrame ..)
    · exact testRequest_plateFrame p s

theorem evaluateLoop_plateFrame (p : Plan) (n : Nat) (s : State) : PlateFrame s (evaluateLoop p n s) := by
  induction n generalizing s with
  | zero => exact .refl s
  | succ n ih =>
    unfold evaluateLoop
    dsimp only
    split
    · exact (evaluateOnce_plateFrame p s).trans (ih _)
    · exact evaluateOnce_plateFrame p s

/-- An evaluation touches neither E, nor A, nor the columns, nor the orders (R101). -/
theorem evaluate_plateFrame (s : State) : PlateFrame s (evaluate s) := by
  unfold evaluate
  split
  · split
    · exact evaluateLoop_plateFrame ..
    · exact .refl s
  · exact .refl s

/-! ## Retirement, activation, RESTART and disable -/

theorem tallyPiece_plateFrame (s : State) (q : Piece) : PlateFrame s (tallyPiece s q) :=
  (((tallyAdd_logFrame _ _ s).trans (tallyAdd_logFrame _ _ _)).trans (tallyAdd_logFrame _ _ _)).plate

theorem tallyRetirement_plateFrame (p : Plate) (s : State) : PlateFrame s (tallyRetirement p s) := by
  unfold tallyRetirement
  dsimp only
  generalize hu : tallyAdd (.retired p.state) 1 s = u
  have h : PlateFrame s u := hu ▸ (tallyAdd_logFrame _ _ s).plate
  exact (h.trans (PlateFrame.foldl tallyPiece_plateFrame p.pieces u)).trans (PlateFrame.ofTally _ _)

theorem retirePlate_plateFrame (p : Plate) (s : State) : PlateFrame s (retirePlate p s) :=
  (((handGroup_logFrame _ s).plate.trans (tallyRetirement_plateFrame p _)).trans (PlateFrame.ofSched _ _)).trans
    (modSlot_plateFrame _ _ _)

theorem retireLoop_plateFrame (n : Nat) (s : State) : PlateFrame s (retireLoop n s) := by
  induction n generalizing s with
  | zero => exact .refl s
  | succ n ih =>
    unfold retireLoop
    split
    · split
      · exact ((retirePlate_plateFrame _ s).trans (evaluate_plateFrame _)).trans (ih _)
      · exact .refl s
    · exact .refl s

theorem plateChanged_plateFrame (s : State) : PlateFrame s (plateChanged s) :=
  (gradeTest_plateFrame s).trans (retireLoop_plateFrame _ _)

theorem examineIfChanged_plateFrame {s t : State} (h : PlateFrame s t) : PlateFrame s (examineIfChanged s t) := by
  unfold examineIfChanged
  split
  · exact h
  · exact h.trans (plateChanged_plateFrame _)

/-- With the queue's plates as they were, the head is not examined (R114). -/
@[simp] theorem examineIfChanged_self (s : State) : examineIfChanged s s = s := if_pos rfl

theorem takeTicket_plateFrame (q : ReadPortion) (s : State) : PlateFrame s (takeTicket q s) := by
  unfold takeTicket
  split
  · split
    · exact (modPlate_plateFrame _ _ s).trans (plateChanged_plateFrame _)
    · exact .refl s
  · exact .refl s

theorem missPlate_plateFrame (s : State) (n : Nat) : PlateFrame s (missPlate s n) := by
  unfold missPlate
  split
  · split
    · exact (markMissed_plateFrame _ s).trans (plateChanged_plateFrame _)
    · exact .refl s
  · exact .refl s

/-- The misses of an increase of E touch neither E, nor A, nor the columns, nor the orders (R135). -/
theorem takeMisses_plateFrame (s : State) : PlateFrame s (takeMisses s) :=
  PlateFrame.foldl (fun s n => missPlate_plateFrame s n) _ s

/-- With no miss due, none is taken (R135). -/
theorem takeMisses_of_none {s : State} (h : ∀ p ∈ s.sched.queue, missDue s p = false) : takeMisses s = s := by
  have e : s.sched.queue.filter (missDue s) = [] := by simpa [List.filter_eq_nil_iff] using h
  simp [takeMisses, e]

theorem activate_plateFrame (s : State) : PlateFrame s (activate s) := by
  unfold activate
  split
  · exact ((PlateFrame.ofSched s _).trans (evaluate_plateFrame _)).trans (plateChanged_plateFrame _)
  · exact .refl s

theorem abandonPlate_plateFrame (d : Bool) (s : State) (p : Plate) : PlateFrame s (abandonPlate d s p) :=
  ((PlateFrame.ofBlobs s _).trans (withdrawTicket_plateFrame d p _)).trans (tallyAdd_logFrame _ _ _).plate

theorem disableScheduler_plateFrame (s : State) : PlateFrame s (disableScheduler s) := by
  have h : PlateFrame s (s.sched.queue.foldl (abandonPlate true) s) :=
    PlateFrame.foldl (fun s p => abandonPlate_plateFrame true s p) _ s
  exact h.trans (by constructor <;> rfl)

theorem abandonSuffix_plateFrame (s : State) : PlateFrame s (abandonSuffix s) := by
  have h : PlateFrame s ((abandonedPlates s).foldl (abandonPlate false) s) :=
    PlateFrame.foldl (fun s p => abandonPlate_plateFrame false s p) _ s
  exact h.trans (PlateFrame.ofSched _ _)

theorem resumeFrom_plateFrame (g : List Plate) (s : State) : PlateFrame s (resumeFrom g s) := by
  unfold resumeFrom
  split
  · exact .ofSched s _
  · exact .refl s

theorem raiseStart_plateFrame (p : Plan) (s : State) : PlateFrame s (raiseStart p s) := by
  unfold raiseStart
  split
  · exact jumpUnplanned_plateFrame _ s
  · exact removePassed_plateFrame _ s

theorem restartPlates_plateFrame (p : Plan) (s : State) : PlateFrame s (restartPlates p s) :=
  (((abandonSuffix_plateFrame s).trans (resumeFrom_plateFrame _ _)).trans (raiseStart_plateFrame p _)).trans
    (issueEvent_logFrame _ _ _).plate

/-! ## The Capture Engine -/

theorem missSegment_plateFrame (cs : CapStream) (s : State) : PlateFrame s (missSegment cs s) := by
  constructor <;> rfl

theorem advanceCapStream_plateFrame (n f : Nat) (s : State) : PlateFrame s (advanceCapStream n f s) := by
  induction f generalizing s with
  | zero => exact .refl s
  | succ f ih =>
    unfold advanceCapStream
    split
    · exact .refl s
    · split
      · exact .refl s
      · split
        · exact .refl s
        · split
          · exact .refl s
          · exact (missSegment_plateFrame _ s).trans (ih _)
          · exact (PlateFrame.ofCap s _).trans (issueReads_logFrame _ _ _).plate

theorem advanceRows_plateFrame (f : Nat) (s : State) : PlateFrame s (advanceRows f s) := by
  induction f generalizing s with
  | zero => exact .refl s
  | succ f ih =>
    unfold advanceRows
    split
    · exact .refl s
    · split
      · exact ((PlateFrame.ofCap s _).trans (issueOwn_logFrame _ _ _ _).plate).trans (ih _)
      · exact .refl s

theorem advanceHeader_plateFrame (s : State) : PlateFrame s (advanceHeader s) := by
  unfold advanceHeader
  split
  · exact .refl s
  · split
    · exact (PlateFrame.ofCap s _).trans (issueOwn_logFrame _ _ _ _).plate
    · exact .refl s

theorem testSegments_plateFrame (s : State) : PlateFrame s (testSegments s) := by
  unfold testSegments
  split
  · exact .refl s
  · exact .ofCap s _

/-- The Capture Engine's advance touches the copy and the port (R159 to R161). -/
theorem advanceCapture_plateFrame (s : State) : PlateFrame s (advanceCapture s) := by
  unfold advanceCapture
  split
  · exact .refl s
  · exact (((testSegments_plateFrame s).trans (PlateFrame.foldl (fun s cs => advanceCapStream_plateFrame _ _ s) _ _)).trans
      (advanceRows_plateFrame _ _)).trans (advanceHeader_plateFrame _)

theorem dropCopy_plateFrame (s : State) : PlateFrame s (dropCopy s) := by
  unfold dropCopy
  split
  · exact .refl s
  · exact ((PlateFrame.ofCap s _).trans (withdrawOwn_logFrame _ _).plate).trans (unpinAll_plateFrame _)

theorem dropCopyOf_plateFrame (n : Nat) (s : State) : PlateFrame s (dropCopyOf n s) := by
  unfold dropCopyOf
  split
  · split
    · exact dropCopy_plateFrame s
    · exact .refl s
  · exact .refl s

end Sys2Proof.Machine
end

