-- ==== Sys2Proof/Laws/Writes.lean ====
section
/-! SUPPORT. What tracking, the anchor page's actions, enable and disable, and the taking of writes can touch; and that a quiet
state has nothing further to be done. -/

namespace Sys2Proof.Machine

/-! ## Tracking (chapter 1) -/

theorem loseSlot_plateFrame (n k : Nat) (s : State) : PlateFrame s (loseSlot n k s) :=
  ((modDir_plateFrame n k _ s).trans (withdrawNotes_logFrame n k _).plate).trans (tallyAdd_logFrame _ _ _).plate

theorem rejectSlot_plateFrame (n k : Nat) (s : State) : PlateFrame s (rejectSlot n k s) := by constructor <;> rfl

theorem setFill_plateFrame (n : Nat) (f : Option Fill) (s : State) : PlateFrame s (setFill n f s) := by
  constructor <;> rfl

theorem breakFill_plateFrame (n : Nat) (s : State) : PlateFrame s (breakFill n s) := by
  unfold breakFill
  split
  · exact ((setFill_plateFrame _ _ s).trans (loseSlot_plateFrame _ _ _)).trans (issueEvent_logFrame _ _ _).plate
  · exact .refl s

theorem giveUp_plateFrame (n k : Nat) (s : State) : PlateFrame s (giveUp n k s) := by
  unfold giveUp
  dsimp only
  split
  · exact ((((withdrawNotes_logFrame n k s).trans (tallyAdd_logFrame _ _ _)).trans
      (issueEvent_logFrame _ _ _)).plate).trans (modDir_plateFrame _ _ _ _)
  · exact modDir_plateFrame _ _ _ s

theorem pinAccepted_plateFrame (n k x : Nat) (s : State) : PlateFrame s (pinAccepted n k x s) := by
  unfold pinAccepted
  split
  · exact modDir_plateFrame _ _ _ s
  · exact .refl s

theorem beginFill_plateFrame (n k x c l : Nat) (t : Taking) : PlateFrame t.state (beginFill n k x c l t).state := by
  unfold beginFill
  dsimp only
  refine PlateFrame.trans ?_ (pinAccepted_plateFrame _ _ _ _)
  refine PlateFrame.trans (PlateFrame.trans ?_ (modStream_plateFrame _ _ _)) (modDir_plateFrame _ _ _ _)
  split
  · split
    · exact (tallyAdd_logFrame _ _ _).plate
    · exact .refl _
  · exact .refl _

theorem takeHeader_plateFrame (n : Nat) (p : Portion) (t : Taking) : PlateFrame t.state (takeHeader n p t).state := by
  have h : PlateFrame t.state
      (breakFill n (if (dirEntry t.state n p.slot).busy then giveUp n p.slot t.state else t.state)) := by
    refine PlateFrame.trans ?_ (breakFill_plateFrame _ _)
    split
    · exact giveUp_plateFrame _ _ _
    · exact .refl _
  unfold takeHeader
  dsimp only
  generalize hu : breakFill n (if (dirEntry t.state n p.slot).busy then giveUp n p.slot t.state else t.state) = u at h ⊢
  split
  · exact (h.trans (rejectSlot_plateFrame _ _ _)).trans (issueEvent_logFrame _ _ _).plate
  · split
    · exact (h.trans (rejectSlot_plateFrame _ _ _)).trans (issueEvent_logFrame _ _ _).plate
    · exact h.trans (beginFill_plateFrame _ _ _ _ _ { notes := t.notes, state := u })

theorem takeContinuation_plateFrame (n : Nat) (p : Portion) (t : Taking) :
    PlateFrame t.state (takeContinuation n p t).state := by
  unfold takeContinuation
  split
  · exact .refl _
  · split
    · dsimp only
      split
      · exact (setFill_plateFrame _ _ _).trans (modDir_plateFrame _ _ _ _)
      · exact setFill_plateFrame _ _ _
    · exact breakFill_plateFrame _ _

theorem takePortion_plateFrame (n : Nat) (t : Taking) (p : Portion) : PlateFrame t.state (takePortion n t p).state := by
  unfold takePortion
  split
  · exact takeHeader_plateFrame n p t
  · exact takeContinuation_plateFrame n p t

/-- Taking a stream write touches the stream's record, the tallies, the records and the port (R2 to R6). -/
theorem takeStreamWrite_plateFrame (n : Nat) (w : UpWrite) (s : State) : PlateFrame s (takeStreamWrite n w s).state := by
  have h : ∀ (l : List Portion) (t : Taking), PlateFrame t.state (l.foldl (takePortion n) t).state := by
    intro l
    induction l with
    | nil => exact fun t => .refl _
    | cons p l ih => exact fun t => (takePortion_plateFrame n t p).trans (ih _)
  unfold takeStreamWrite
  exact h _ { notes := [], state := s }

theorem passReady_plateFrame (n : Nat) (f : Nat → DirEntry → Bool) (s : State) : PlateFrame s (passReady n f s) := by
  constructor <;> rfl

theorem seedFailed_plateFrame (n k : Nat) (s : State) : PlateFrame s (seedFailed n k s) := by constructor <;> rfl

theorem startSeed_plateFrame (n k : Nat) (s : State) : PlateFrame s (startSeed n k s) := by
  unfold startSeed
  dsimp only
  split
  · exact seedFailed_plateFrame _ _ s
  · exact (modStream_plateFrame _ _ s).trans (issueReads_logFrame _ _ _).plate

theorem lateTest_plateFrame (n k : Nat) (s : State) : PlateFrame s (lateTest n k s) := by
  unfold lateTest
  split
  · exact modDir_plateFrame _ _ _ s
  · exact .refl s

theorem becomeReady_plateFrame (n k : Nat) (s : State) : PlateFrame s (becomeReady n k s) := by
  have h := (modStream_plateFrame n (fun r => { r with lastReady := s.enc.e }) s).trans
    (modDir_plateFrame n k (fun e => { e with state := .ready, awaiting := false, failed := false }) _)
  unfold becomeReady
  dsimp only
  split
  · split
    · exact h.trans (startSeed_plateFrame _ _ _)
    · exact h
  · exact ((h.trans (modStream_plateFrame _ _ _)).trans (issueEvent_logFrame _ _ _).plate).trans (lateTest_plateFrame _ _ _)
  · exact h.trans (lateTest_plateFrame _ _ _)
  · exact h
  · exact h

theorem resolveNote_plateFrame (o : Bool) (s : State) (x : FillNote) : PlateFrame s (resolveNote o s x) := by
  have h : PlateFrame s (if o then s else modDir x.stream x.slot (fun e => { e with failed := true }) s) := by
    split
    · exact .refl s
    · exact modDir_plateFrame _ _ _ s
  unfold resolveNote
  dsimp only
  generalize hu : (if o then s else modDir x.stream x.slot (fun e => { e with failed := true }) s) = u at h ⊢
  split
  · split
    · exact (h.trans (loseSlot_plateFrame _ _ _)).trans (issueEvent_logFrame _ _ _).plate
    · exact h.trans (becomeReady_plateFrame _ _ _)
  · exact h

/-! ## BoardFrame -/

/-- The strap pins, the encoder, the window cache, the lanes, the grade table, the columns and the queue of commands are as
before. -/
structure BoardFrame (s t : State) : Prop where
  straps : t.straps = s.straps
  enc : t.enc = s.enc
  window : t.window = s.window
  lanes : t.lanes = s.lanes
  grades : t.grades = s.grades
  columns : t.det.columns = s.det.columns
  counts : t.det.streakCounts = s.det.streakCounts
  pending : t.pending = s.pending

theorem BoardFrame.refl (s : State) : BoardFrame s s := by constructor <;> rfl

theorem BoardFrame.trans {s t u : State} (h : BoardFrame s t) (k : BoardFrame t u) : BoardFrame s u :=
  ⟨k.straps.trans h.straps, k.enc.trans h.enc, k.window.trans h.window, k.lanes.trans h.lanes,
   k.grades.trans h.grades, k.columns.trans h.columns, k.counts.trans h.counts, k.pending.trans h.pending⟩

theorem PlateFrame.board {s t : State} (h : PlateFrame s t) : BoardFrame s t :=
  ⟨h.straps, h.enc, h.window, h.lanes, h.grades, by rw [h.det], by rw [h.det], h.pending⟩

theorem LogFrame.board {s t : State} (h : LogFrame s t) : BoardFrame s t := h.plate.board

theorem BoardFrame.foldl {α : Type} {f : State → α → State} (h : ∀ s a, BoardFrame s (f s a)) (l : List α) (s : State) :
    BoardFrame s (l.foldl f s) := by
  induction l generalizing s with
  | nil => exact .refl s
  | cons a l ih => exact (h s a).trans (ih _)

theorem BoardFrame.foldr {α : Type} {f : α → State → State} (h : ∀ s a, BoardFrame s (f a s)) (l : List α) (s : State) :
    BoardFrame s (l.foldr f s) := by
  induction l with
  | nil => exact .refl s
  | cons a l ih => exact ih.trans (h _ a)

theorem endHold_boardFrame (n : Nat) (a b : TakeMode) (s : State) : BoardFrame s (endHold n a b s) := by
  unfold endHold
  split
  · constructor <;> rfl
  · exact .refl s

theorem abandonHold_boardFrame (n : Nat) (s : State) : BoardFrame s (abandonHold n s) :=
  (endHold_boardFrame n .untracked .untracked s).trans (by constructor <;> rfl)

theorem stopStream_boardFrame (n : Nat) (s : State) : BoardFrame s (stopStream n s) := by
  unfold stopStream
  split
  · exact .refl s
  · have h := (((dropCopyOf_plateFrame n s).board.trans (abandonHold_boardFrame n _)).trans
      (withdrawStream_logFrame n _).board).trans (modStream_plateFrame n (fun _ => StreamRec.off) _).board
    have k := h.trans (disown_logFrame (· == .seed n) _).board
    exact ⟨k.straps, k.enc, k.window, k.lanes, k.grades, k.columns, k.counts, k.pending⟩

theorem abandonLine_boardFrame (s : State) : BoardFrame s (abandonLine s) := by constructor <;> rfl

theorem setPhase_boardFrame (p : OrderPhase) (s : State) : BoardFrame s (setPhase p s) := by constructor <;> rfl

theorem abandonOrder_boardFrame (s : State) : BoardFrame s (abandonOrder s) := by
  unfold abandonOrder
  split <;> first
    | exact .refl s
    | exact setPhase_boardFrame _ s
    | exact (setPhase_boardFrame _ s).trans (disown_logFrame _ _).board

theorem enablePart_boardFrame (s : State) : BoardFrame s (enablePart s) := by
  unfold enablePart
  dsimp only
  refine BoardFrame.trans ?_ (activate_plateFrame _).board
  split <;> constructor <;> rfl

theorem disablePart_boardFrame (s : State) : BoardFrame s (disablePart s) := by
  have h1 : BoardFrame s ((List.range 8).foldr stopStream (dropCopy s)) :=
    (dropCopy_plateFrame s).board.trans (BoardFrame.foldr (fun s n => stopStream_boardFrame n s) _ _)
  have h2 := h1.trans (abandonLine_boardFrame _)
  have h3 := h2.trans (PlateFrame.ofBlobs _ (clearBlobs (abandonLine
    ((List.range 8).foldr stopStream (dropCopy s))).blobs)).board
  exact (h3.trans (disableScheduler_plateFrame _).board).trans (abandonOrder_boardFrame _)

theorem writeControl_boardFrame (v : Nat) (s : State) : BoardFrame s (writeControl v s) := by
  have h : BoardFrame s { s with anchor := { s.anchor with control := BitVec.ofNat 32 v } } := by constructor <;> rfl
  unfold writeControl
  dsimp only
  generalize { s with anchor := { s.anchor with control := BitVec.ofNat 32 v } } = s1 at h ⊢
  have k : BoardFrame s (if !enabled s && enabled s1 then enablePart s1
      else if enabled s && !enabled s1 then disablePart s1 else s1) := by
    split
    · exact h.trans (enablePart_boardFrame s1)
    · split
      · exact h.trans (disablePart_boardFrame s1)
      · exact h
  generalize (if !enabled s && enabled s1 then enablePart s1
      else if enabled s && !enabled s1 then disablePart s1 else s1) = s2 at k ⊢
  split
  · exact k.trans (formLogLost_logFrame s2).board
  · exact k

theorem ringSet_boardFrame (s : State) : BoardFrame s (ringSet s) :=
  BoardFrame.trans (by constructor <;> rfl) (abandonOrder_boardFrame _)

theorem writeOrderSize_boardFrame (v : Nat) (s : State) : BoardFrame s (writeOrderSize v s) := by
  unfold writeOrderSize
  split
  · exact (issueEvent_logFrame _ _ s).board
  · exact BoardFrame.trans (by constructor <;> rfl) (ringSet_boardFrame _)

theorem writeOrderTail_boardFrame (v : Nat) (s : State) : BoardFrame s (writeOrderTail v s) := by
  unfold writeOrderTail
  split
  · exact (issueEvent_logFrame _ _ s).board
  · dsimp only
    split <;> constructor <;> rfl

theorem writeLogRead_boardFrame (v : Nat) (s : State) : BoardFrame s (writeLogRead v s) := by
  unfold writeLogRead
  split
  · constructor <;> rfl
  · exact (issueEvent_logFrame _ _ s).board

theorem actOn_boardFrame {f : Nat → State → State} (h : ∀ v s, BoardFrame s (f v s)) (v : Option Nat) (s : State) :
    BoardFrame s (actOn v f s) := by
  unfold actOn
  split
  · exact h _ s
  · exact .refl s

/-- The anchor page's actions (R174). -/
theorem latchAnchor_boardFrame (w : UpWrite) (s : State) : BoardFrame s (latchAnchor w s) := by
  unfold latchAnchor
  refine BoardFrame.trans (BoardFrame.trans (BoardFrame.trans (BoardFrame.trans (BoardFrame.trans (BoardFrame.trans
    (BoardFrame.trans (BoardFrame.trans (BoardFrame.trans
      (actOn_boardFrame writeControl_boardFrame _ s) (actOn_boardFrame ?_ _ _))
      (actOn_boardFrame writeOrderSize_boardFrame _ _)) (actOn_boardFrame writeOrderTail_boardFrame _ _))
      (actOn_boardFrame ?_ _ _)) (actOn_boardFrame writeLogRead_boardFrame _ _)) (actOn_boardFrame ?_ _ _))
      (actOn_boardFrame ?_ _ _)) (actOn_boardFrame ?_ _ _)) (actOn_boardFrame ?_ _ _)
  · exact fun v s => BoardFrame.trans (by constructor <;> rfl) (ringSet_boardFrame _)
  · exact fun v s => by constructor <;> rfl
  · exact fun v s => by constructor <;> rfl
  · exact fun v s => by constructor <;> rfl
  · exact fun v s => by constructor <;> rfl
  · exact fun v s => by constructor <;> rfl

theorem testDeviation_plateFrame (p : Plate) (m : Nat) (s : State) : PlateFrame s (testDeviation p m s) := by
  unfold testDeviation
  dsimp only
  split
  · exact (modPlate_plateFrame _ _ s).trans (issueEvent_logFrame _ _ _).plate
  · exact .refl s

theorem settlePlate_plateFrame (p : Plate) (c m : Nat) (s : State) : PlateFrame s (settlePlate p c m s) := by
  unfold settlePlate
  dsimp only
  refine PlateFrame.trans ?_ (plateChanged_plateFrame _)
  split
  · exact (modPlate_plateFrame _ _ s).trans (testDeviation_plateFrame _ _ _)
  · exact modPlate_plateFrame _ _ s

theorem confirmPlate_plateFrame (j c e m : Nat) (s : State) : PlateFrame s (confirmPlate j c e m s) := by
  have h : PlateFrame s (confirmOther j c e m s) := by
    unfold confirmOther
    split <;> exact (issueEvent_logFrame _ _ s).plate
  unfold confirmPlate
  split
  · exact h
  · split
    · exact h
    · split <;> first
        | exact settlePlate_plateFrame _ _ _ s
        | exact h
        | exact (issueEvent_logFrame _ _ s).plate
        | (split
           · exact settlePlate_plateFrame _ _ _ s
           · exact (issueEvent_logFrame _ _ s).plate)

theorem takeStatus_plateFrame (w : UpWrite) (s : State) : PlateFrame s (takeStatus w s) := by
  unfold takeStatus decodeStatus
  split
  · split
    · dsimp only
      split
      · exact confirmPlate_plateFrame ..
      · exact (issueEvent_logFrame _ _ s).plate
    · exact .refl s
  · exact .refl s

theorem refuseWrite_boardFrame (w : UpWrite) (s : State) : BoardFrame s (refuseWrite w s) := by
  have h : BoardFrame s (if bodyRefused s w then issueEvent .guardTicket [w.addr, w.data.length, w.tag] s else s) := by
    split
    · exact (issueEvent_logFrame _ _ s).board
    · exact .refl s
  unfold refuseWrite
  dsimp only
  generalize (if bodyRefused s w then issueEvent .guardTicket [w.addr, w.data.length, w.tag] s else s) = s1 at h ⊢
  have k : BoardFrame s (if statusRefused s w then issueEvent .guardStatus [w.addr, w.data.length, w.tag] s1 else s1) := by
    split
    · exact h.trans (issueEvent_logFrame _ _ s1).board
    · exact h
  exact ⟨k.straps, k.enc, k.window, k.lanes, k.grades, k.columns, k.counts, k.pending⟩

theorem passWrite_boardFrame (w : UpWrite) (b : Bool) (s : State) : BoardFrame s (passWrite w b s) := by
  unfold passWrite
  dsimp only
  refine BoardFrame.trans ?_ (latchAnchor_boardFrame _ _)
  refine BoardFrame.trans ?_ (takeStatus_plateFrame _ _).board
  refine BoardFrame.trans ?_ (forwardPass_logFrame _ _).board
  split
  · exact (takeStreamWrite_plateFrame _ _ _).board
  · exact .refl s

theorem queueWrite_plateFrame (n : Nat) (w : UpWrite) (s : State) : PlateFrame s (queueWrite n w s) := by
  unfold queueWrite
  split
  · split
    · exact modStream_plateFrame _ _ s
    · exact .refl s
  · exact .refl s

theorem holdWrite_plateFrame (n : Nat) (w : UpWrite) (s : State) : PlateFrame s (holdWrite n w s) := by
  unfold holdWrite
  split
  · exact queueWrite_plateFrame n w s
  · exact (modStream_plateFrame _ _ s).trans (tallyAdd_logFrame _ _ _).plate

theorem judgeWrite_boardFrame (w : UpWrite) (m : TakeMode) (s : State) : BoardFrame s (judgeWrite w m s) := by
  unfold judgeWrite
  split
  · exact refuseWrite_boardFrame w s
  · split
    · exact passWrite_boardFrame _ _ s
    · exact passWrite_boardFrame _ _ s
    · split
      · exact (holdWrite_plateFrame _ _ s).board
      · exact passWrite_boardFrame _ _ s

/-- Taking a write leaves the encoder, the window cache, the lanes, the columns and the queue of commands (R2, R174). -/
theorem takeWrite_boardFrame (w : UpWrite) (m : TakeMode) (s : State) : BoardFrame s (takeWrite w m s) := by
  unfold takeWrite
  split
  · exact (queueWrite_plateFrame _ _ s).board
  · exact judgeWrite_boardFrame _ _ s

theorem takeLetGo_boardFrame (x : LetGo) (s : State) : BoardFrame s (takeLetGo x s) := by
  unfold takeLetGo
  split
  · exact (queueWrite_plateFrame _ _ s).board
  · exact takeWrite_boardFrame _ _ s

theorem arriveWrite_boardFrame (w : UpWrite) (s : State) : BoardFrame s (arriveWrite w s) := by
  unfold arriveWrite
  split
  · exact .refl s
  · exact takeWrite_boardFrame w .arrive s

/-- With no write let go that has still to be taken, a write that arrives is taken (R10, R11). -/
theorem arriveWrite_of_none_waiting {s : State} (h : s.toTake = []) (w : UpWrite) :
    arriveWrite w s = takeWrite w .arrive s := by simp [arriveWrite, waitsBehind, h]

/-- What is taken next of the writes let go was among them, can be taken, and leaves the others in order (R11). -/
theorem nextLetGo_spec {s : State} {stuck : List Nat} {xs rest : List LetGo} {x : LetGo}
    (h : nextLetGo s stuck xs = some (x, rest)) :
    takeable s x = true ∧ x.stream ∉ stuck ∧ ∃ a b, xs = a ++ x :: b ∧ rest = a ++ b ∧ ∀ y ∈ a, y.stream ≠ x.stream := by
  induction xs generalizing stuck rest with
  | nil => simp [nextLetGo] at h
  | cons y ys ih =>
    simp only [nextLetGo] at h
    split at h
    · rename_i hc
      obtain ⟨⟨z, r⟩, hz, he⟩ := Option.map_eq_some_iff.mp h
      obtain ⟨rfl, rfl⟩ := Prod.mk.inj he
      obtain ⟨ht, hs, a, b, rfl, rfl, ha⟩ := ih hz
      refine ⟨ht, fun m => hs (List.mem_cons_of_mem _ m), y :: a, b, rfl, rfl, ?_⟩
      intro v hv
      rcases List.mem_cons.mp hv with rfl | hv
      · exact fun e => hs (e ▸ List.mem_cons_self)
      · exact ha v hv
    · rename_i hc
      simp only [Bool.or_eq_true, not_or, List.contains_iff_mem, Bool.not_eq_true', Bool.not_eq_false] at hc
      obtain ⟨rfl, rfl⟩ := Prod.mk.inj (Option.some.inj h)
      exact ⟨hc.2, hc.1, [], ys, rfl, rfl, by simp⟩

theorem drain_boardFrame (f : Nat) (s : State) : BoardFrame s (drain f s) := by
  induction f generalizing s with
  | zero => exact .refl s
  | succ f ih =>
    unfold drain
    split
    · exact .refl s
    · exact BoardFrame.trans (BoardFrame.trans (BoardFrame.trans (by constructor <;> rfl) (takeLetGo_boardFrame _ _))
        (refreshStatus_logFrame _ _).board) (ih _)

theorem settleHolds_boardFrame (f : Nat) (s : State) : BoardFrame s (settleHolds f s) := by
  induction f generalizing s with
  | zero => exact .refl s
  | succ f ih =>
    have h := ((testSegments_plateFrame s).board.trans (drain_boardFrame 1024 _)).trans (advanceCapture_plateFrame _).board
    unfold settleHolds
    dsimp only
    split
    · exact (h.trans (endHold_boardFrame _ _ _ _)).trans (ih _)
    · exact h

theorem finish_boardFrame (b s : State) : BoardFrame s (finish b s) :=
  (refreshStatus_logFrame b s).board.trans (settleHolds_boardFrame 256 _)

theorem writeAnswered_boardFrame (tag : Nat) (o : Bool) (s : State) : BoardFrame s (writeAnswered tag o s) := by
  unfold writeAnswered
  split
  · exact BoardFrame.trans (by constructor <;> rfl) (BoardFrame.foldl (fun s x => (resolveNote_plateFrame o s x).board) _ _)
  · exact .refl s

/-! ## Quiet states -/

theorem releasable_of_no_hold {s : State} {n : Nat} (h : (stream s n).hold = none) : releasable s n = false := by
  simp [releasable, h]

/-- With nothing let go, no copy and no hold, nothing is left to be done (R11, R159). -/
theorem settleHolds_of_quiet {s : State} (h : Quiet s) (f : Nat) : settleHolds (f + 1) s = s := by
  obtain ⟨hh, hc, ht⟩ := h
  have hs : testSegments s = s := by simp [testSegments, hc]
  have hd : drain 1024 s = s := by simp [drain, ht, nextLetGo]
  have hf : (List.range 8).find? (releasable s) = none := by
    simp [List.find?_eq_none, releasable_of_no_hold (hh _)]
  simp [settleHolds, hs, hd, advanceCapture, hc, hf]

/-- A change of the Record Writer, the tallies and the port alone leaves a quiet state quiet. -/
theorem LogFrame.quiet {s t : State} (f : LogFrame s t) (h : Quiet s) : Quiet t := by
  obtain ⟨hh, hc, ht⟩ := h
  exact ⟨fun n => by simpa [stream, f.streams] using hh n, f.cap ▸ hc, f.toTake ▸ ht⟩

/-- In a quiet state a command's end is the status block refresh alone. -/
theorem finish_of_quiet {b s : State} (h : Quiet s) : finish b s = refreshStatus b s := by
  simp [finish, settleHolds_of_quiet ((refreshStatus_logFrame b s).quiet h) 255]

/-- A refresh with no field changed does nothing (R184). -/
theorem refreshStatus_of_eq {b s : State} (h : statusFields s = statusFields b) : refreshStatus b s = s := by
  simp [refreshStatus, h]

end Sys2Proof.Machine
end

