-- ==== Sys2Proof/Laws/PerInstr.lean ====
section
/-! SUPPORT. The per-command family `Unspelled`: the table gives no row any bits, so no word spells the command. -/

namespace Sys2Proof.Laws

/-- No word spells the command (spec/opcode_table.json: each row's "fields" list is empty). -/
def Unspelled.Statement (i : Instr) : Prop := ∀ nbits w : Nat, decodeTableWord nbits w ≠ some i

/-- No word spells any command. -/
theorem unspelled (i : Instr) : Unspelled.Statement i := by intro n w h; simp [decodeTableWord] at h

theorem Unspelled.pinReset : Unspelled.Statement (.pinReset) := unspelled _
theorem Unspelled.forwardCount : Unspelled.Statement (.forwardCount) := unspelled _
theorem Unspelled.reverseCount : Unspelled.Statement (.reverseCount) := unspelled _
theorem Unspelled.invalidTransition : Unspelled.Statement (.invalidTransition) := unspelled _
theorem Unspelled.headerWrite (w : UpWrite) : Unspelled.Statement (.headerWrite w) := unspelled _
theorem Unspelled.continuationWrite (w : UpWrite) : Unspelled.Statement (.continuationWrite w) := unspelled _
theorem Unspelled.completingWriteResponse (tag : Nat) (okay : Bool) : Unspelled.Statement (.completingWriteResponse tag okay) := unspelled _
theorem Unspelled.holdExpired (stream : Fin 8) : Unspelled.Statement (.holdExpired stream) := unspelled _
theorem Unspelled.lineTimeout (stream : Fin 8) : Unspelled.Statement (.lineTimeout stream) := unspelled _
theorem Unspelled.streamLapsed (stream : Fin 8) : Unspelled.Statement (.streamLapsed stream) := unspelled _
theorem Unspelled.seedFetchDone (stream : Fin 8) (bursts : List ReadResult) : Unspelled.Statement (.seedFetchDone stream bursts) := unspelled _
theorem Unspelled.lineAssembly : Unspelled.Statement (.lineAssembly) := unspelled _
theorem Unspelled.assemblyTimeout : Unspelled.Statement (.assemblyTimeout) := unspelled _
theorem Unspelled.pixelFetchDone (results : PixelResults) : Unspelled.Statement (.pixelFetchDone results) := unspelled _
theorem Unspelled.forcingReached : Unspelled.Statement (.forcingReached) := unspelled _
theorem Unspelled.starved : Unspelled.Statement (.starved) := unspelled _
theorem Unspelled.sealFailedCutPoint : Unspelled.Statement (.sealFailedCutPoint) := unspelled _
theorem Unspelled.sealWriteResponse (slot : Nat) (okay : Bool) : Unspelled.Statement (.sealWriteResponse slot okay) := unspelled _
theorem Unspelled.nullWriteResponse (slot : Nat) (okay : Bool) : Unspelled.Statement (.nullWriteResponse slot okay) := unspelled _
theorem Unspelled.ticketRead (r : UpRead) : Unspelled.Statement (.ticketRead r) := unspelled _
theorem Unspelled.guardWrite (w : UpWrite) : Unspelled.Statement (.guardWrite w) := unspelled _
theorem Unspelled.statusWrite (w : UpWrite) : Unspelled.Statement (.statusWrite w) := unspelled _
theorem Unspelled.cutMissed (plate : Nat) : Unspelled.Statement (.cutMissed plate) := unspelled _
theorem Unspelled.statusBlockGuard (w : UpWrite) : Unspelled.Statement (.statusBlockGuard w) := unspelled _
theorem Unspelled.passThrough (e : PassEvent) : Unspelled.Statement (.passThrough e) := unspelled _
theorem Unspelled.arbiterGrant : Unspelled.Statement (.arbiterGrant) := unspelled _
theorem Unspelled.enable (w : UpWrite) : Unspelled.Statement (.enable w) := unspelled _
theorem Unspelled.disable (w : UpWrite) : Unspelled.Statement (.disable w) := unspelled _
theorem Unspelled.logClear (w : UpWrite) : Unspelled.Statement (.logClear w) := unspelled _
theorem Unspelled.orderRingSet (w : UpWrite) : Unspelled.Statement (.orderRingSet w) := unspelled _
theorem Unspelled.orderTail (w : UpWrite) : Unspelled.Statement (.orderTail w) := unspelled _
theorem Unspelled.logRead (w : UpWrite) : Unspelled.Statement (.logRead w) := unspelled _
theorem Unspelled.noticeEnable (w : UpWrite) : Unspelled.Statement (.noticeEnable w) := unspelled _
theorem Unspelled.noticeAck (w : UpWrite) : Unspelled.Statement (.noticeAck w) := unspelled _
theorem Unspelled.captureRelease (w : UpWrite) : Unspelled.Statement (.captureRelease w) := unspelled _
theorem Unspelled.anchorWrite (w : UpWrite) : Unspelled.Statement (.anchorWrite w) := unspelled _
theorem Unspelled.orderFetch : Unspelled.Statement (.orderFetch) := unspelled _
theorem Unspelled.orderFetchDone (result : ReadResult) : Unspelled.Statement (.orderFetchDone result) := unspelled _
theorem Unspelled.nop : Unspelled.Statement (.nop) := unspelled _
theorem Unspelled.badOrder : Unspelled.Statement (.badOrder) := unspelled _
theorem Unspelled.fence : Unspelled.Statement (.fence) := unspelled _
theorem Unspelled.fenceWrite : Unspelled.Statement (.fenceWrite) := unspelled _
theorem Unspelled.fenceWriteResponse (okay : Bool) : Unspelled.Statement (.fenceWriteResponse okay) := unspelled _
theorem Unspelled.refresh : Unspelled.Statement (.refresh) := unspelled _
theorem Unspelled.refreshFetchDone (result : ReadResult) : Unspelled.Statement (.refreshFetchDone result) := unspelled _
theorem Unspelled.streamStart : Unspelled.Statement (.streamStart) := unspelled _
theorem Unspelled.streamStop : Unspelled.Statement (.streamStop) := unspelled _
theorem Unspelled.profileLoad : Unspelled.Statement (.profileLoad) := unspelled _
theorem Unspelled.laneAssign : Unspelled.Statement (.laneAssign) := unspelled _
theorem Unspelled.laneRelease : Unspelled.Statement (.laneRelease) := unspelled _
theorem Unspelled.tableLoad : Unspelled.Statement (.tableLoad) := unspelled _
theorem Unspelled.tableLoadFetchDone (result : ReadResult) : Unspelled.Statement (.tableLoadFetchDone result) := unspelled _
theorem Unspelled.planSet : Unspelled.Statement (.planSet) := unspelled _
theorem Unspelled.cutRequest : Unspelled.Statement (.cutRequest) := unspelled _
theorem Unspelled.restart : Unspelled.Statement (.restart) := unspelled _
theorem Unspelled.shiftClose : Unspelled.Statement (.shiftClose) := unspelled _
theorem Unspelled.completionWriteResponse (okay : Bool) : Unspelled.Statement (.completionWriteResponse okay) := unspelled _
theorem Unspelled.reportWriteResponse (okays : List Bool) : Unspelled.Statement (.reportWriteResponse okays) := unspelled _
theorem Unspelled.captureSegmentReadDone (stream : Fin 8) (bursts : List ReadResult) : Unspelled.Statement (.captureSegmentReadDone stream bursts) := unspelled _
theorem Unspelled.captureRowWriteDone (okay : Bool) : Unspelled.Statement (.captureRowWriteDone okay) := unspelled _
theorem Unspelled.captureHeaderWriteDone (okay : Bool) : Unspelled.Statement (.captureHeaderWriteDone okay) := unspelled _
theorem Unspelled.logWriteResponse (okays : List Bool) : Unspelled.Statement (.logWriteResponse okays) := unspelled _
theorem Unspelled.statusBlockWriteResponse (okay : Bool) : Unspelled.Statement (.statusBlockWriteResponse okay) := unspelled _

end Sys2Proof.Laws
end

