-- ==== Sys2Proof/Laws/Windows.lean ====
section
/-! SUPPORT. What a REFRESH leaves in the window cache for the parts whose validity depends on one another: the stream entries and
entry 8 (R180, R123). -/

namespace Sys2Proof.Machine

/-- Each stream entry after a REFRESH: as read or as cached, valid unless its ring tells against it. -/
theorem refreshedWindow_streams_getElem? (s : State) (selector n : Nat) (table : List Byte) :
    (refreshedWindow s selector table).streams[n]? = s.window.streams[n]?.map (fun x =>
      let y := fetchedStream s selector table n x
      let ticket := fetchedTicket s selector table
      if replaces s selector n && ringsClash s selector n y ticket ticket.valid then { y with valid := false } else y) := by
  simp [refreshedWindow, Function.comp_def]

/-- Entry 8 after a REFRESH is valid exactly if it is so by itself and, being replaced, clashes with no stream entry. -/
theorem refreshedWindow_ticket_valid (s : State) (selector : Nat) (table : List Byte) :
    (refreshedWindow s selector table).ticket.valid = true ↔
      (fetchedTicket s selector table).valid = true ∧
      (replaces s selector 8 = true → ∀ n x, s.window.streams[n]? = some x →
        let y := fetchedStream s selector table n x
        ringsClash s selector n y (fetchedTicket s selector table) y.valid = false) := by
  unfold refreshedWindow
  by_cases h : replaces s selector 8 = true
  · simp only [h, Bool.true_and]
    split <;> simp_all [List.any_eq_true, List.mem_iff_getElem?]
  · simp [h]

end Sys2Proof.Machine
end

