-- ==== Sys2Proof/WellFormed.lean ====
section
/-! DEFINITION. Which commands a bus, an encoder or a memory can deliver: spans inside the 40-bit address space, source tags
of four bytes, read data of whole beats. `exec` is total and asks none of it; statements about whole commands may. -/

namespace Sys2Proof

/-- An upstream write has at least one byte, lies in the 40-bit address space and carries a four-byte source tag. -/
def UpWrite.wellFormed (w : UpWrite) : Bool :=
  decide (0 < w.data.length) && decide (w.addr + w.data.length ≤ Config.addressEnd) && decide (w.tag ≤ Config.wordTop)

/-- An upstream read has at least one byte, lies in the 40-bit address space and carries a four-byte source tag. -/
def UpRead.wellFormed (r : UpRead) : Bool :=
  decide (0 < r.len) && decide (r.addr + r.len ≤ Config.addressEnd) && decide (r.tag ≤ Config.wordTop)

/-- A burst of a pixel, seed or capture fetch is 16 to 256 bytes in whole beats (R36, R159). -/
def ReadResult.burstWellFormed (b : ReadResult) : Bool :=
  decide (0 < b.data.length) && decide (b.data.length ≤ 256) && decide (b.data.length % 16 = 0)

/-- A read of `n` bytes returned them, or failed. -/
def ReadResult.hasLength (b : ReadResult) (n : Nat) : Bool :=
  !b.okay || decide (b.data.length = n)

/-- The form of what PASS_THROUGH carries. -/
def PassEvent.wellFormed : PassEvent → Bool
  | .write w => w.wellFormed
  | .read r => r.wellFormed
  | .writeResponse tag _ => decide (tag ≤ Config.wordTop)
  | .readResponse tag b => decide (tag ≤ Config.wordTop) && (!b.okay || decide (0 < b.data.length))

/-- The form of a command's operands. -/
def Instr.wellFormed : Instr → Bool
  | .pinReset | .forwardCount | .reverseCount | .invalidTransition => true
  | .headerWrite w | .continuationWrite w => w.wellFormed
  | .completingWriteResponse tag _ => decide (tag ≤ Config.wordTop)
  | .holdExpired _ | .lineTimeout _ | .streamLapsed _ => true
  | .seedFetchDone _ bursts => bursts.all ReadResult.burstWellFormed
  | .lineAssembly | .assemblyTimeout => true
  | .pixelFetchDone results => results.bursts.all ReadResult.burstWellFormed
  | .forcingReached | .starved | .sealFailedCutPoint => true
  | .sealWriteResponse slot _ | .nullWriteResponse slot _ => decide (slot < 256)
  | .ticketRead r => r.wellFormed
  | .guardWrite w | .statusWrite w => w.wellFormed
  | .cutMissed plate => decide (1 ≤ plate) && decide (plate ≤ Config.wordTop)
  | .statusBlockGuard w => w.wellFormed
  | .passThrough e => e.wellFormed
  | .arbiterGrant => true
  | .enable w | .disable w | .logClear w | .orderRingSet w | .orderTail w | .logRead w | .noticeEnable w | .noticeAck w
  | .captureRelease w | .anchorWrite w => w.wellFormed
  | .orderFetch => true
  | .orderFetchDone b => b.hasLength 64
  | .nop | .badOrder | .fence | .fenceWrite | .fenceWriteResponse _ | .refresh => true
  | .refreshFetchDone b => b.hasLength 64 || b.hasLength 832
  | .streamStart | .streamStop | .profileLoad | .laneAssign | .laneRelease | .tableLoad => true
  | .tableLoadFetchDone b => b.hasLength 512
  | .planSet | .cutRequest | .restart | .shiftClose | .completionWriteResponse _ => true
  | .reportWriteResponse okays => decide (0 < okays.length) && decide (okays.length ≤ 4)
  | .captureSegmentReadDone _ bursts => bursts.all ReadResult.burstWellFormed
  | .captureRowWriteDone _ | .captureHeaderWriteDone _ => true
  | .logWriteResponse okays => decide (0 < okays.length) && decide (okays.length ≤ 5)
  | .statusBlockWriteResponse _ => true

end Sys2Proof
end

