-- ==== Sys2Proof/Tests/Slice0.lean ====
section
/-! SUPPORT. The model's own tests. Expected results are the spec's: each worked sequence and worked table is named where it is used.
The witnesses show, for each statement of Certificates/Slice0 with hypotheses, states and operands that meet them. -/

namespace Sys2Proof.Tests

open Sys2Proof Sys2Proof.Machine

/-! ## WellFormed: what each check refuses -/

def longTag : Nat := 2 ^ 32

theorem test_wellFormed_accepts : (Instr.headerWrite { addr := 2 ^ 40 - 1, tag := 2 ^ 32 - 1, data := [none] }).wellFormed = true ∧
    (Instr.ticketRead { addr := 0, tag := 0, len := 64 }).wellFormed = true ∧
    (Instr.pixelFetchDone { bursts := [{ okay := true, data := List.replicate 256 0 }], early := [0] }).wellFormed = true ∧
    (Instr.cutMissed 1).wellFormed = true := by decide +kernel

theorem test_wellFormed_write : (Instr.headerWrite { addr := 0, tag := 0, data := [] }).wellFormed = false ∧
    (Instr.headerWrite { addr := 2 ^ 40, tag := 0, data := [none] }).wellFormed = false ∧
    (Instr.enable { addr := 0, tag := longTag, data := [none] }).wellFormed = false := by decide +kernel

theorem test_wellFormed_read : (Instr.ticketRead { addr := 0, tag := 0, len := 0 }).wellFormed = false ∧
    (Instr.ticketRead { addr := 2 ^ 40 - 63, tag := 0, len := 64 }).wellFormed = false ∧
    (Instr.ticketRead { addr := 0, tag := longTag, len := 64 }).wellFormed = false := by decide +kernel

theorem test_wellFormed_response : (Instr.completingWriteResponse longTag true).wellFormed = false ∧
    (Instr.passThrough (.writeResponse longTag true)).wellFormed = false ∧
    (Instr.passThrough (.readResponse longTag { okay := false, data := [] })).wellFormed = false ∧
    (Instr.passThrough (.readResponse 0 { okay := true, data := [] })).wellFormed = false := by decide +kernel

theorem test_wellFormed_burst : (Instr.seedFetchDone 0 [{ okay := true, data := [] }]).wellFormed = false ∧
    (Instr.pixelFetchDone { bursts := [{ okay := true, data := List.replicate 272 0 }], early := [] }).wellFormed = false ∧
    (Instr.captureSegmentReadDone 0 [{ okay := true, data := List.replicate 15 0 }]).wellFormed = false := by decide +kernel

theorem test_wellFormed_fetch : (Instr.orderFetchDone { okay := true, data := List.replicate 63 0 }).wellFormed = false ∧
    (Instr.refreshFetchDone { okay := true, data := List.replicate 65 0 }).wellFormed = false ∧
    (Instr.tableLoadFetchDone { okay := true, data := List.replicate 511 0 }).wellFormed = false := by decide +kernel

theorem test_wellFormed_number : (Instr.sealWriteResponse 256 true).wellFormed = false ∧
    (Instr.nullWriteResponse 256 true).wellFormed = false ∧ (Instr.cutMissed 0).wellFormed = false ∧
    (Instr.cutMissed (2 ^ 32)).wellFormed = false ∧ (Instr.reportWriteResponse []).wellFormed = false ∧
    (Instr.reportWriteResponse (List.replicate 5 true)).wellFormed = false ∧ (Instr.logWriteResponse []).wellFormed = false ∧
    (Instr.logWriteResponse (List.replicate 6 true)).wellFormed = false := by decide +kernel

/-! ## Small states -/

/-- A window table entry: ring at 0x10000, four slots of 1024 bytes, columns 0 to 15, source tag 7. -/
def win : StreamWindow :=
  { valid := true, base := 0x10000, slotSize := 1024, slotCount := 4, colBase := 0, winStart := 0, winStop := 16,
    stagger := 0, policy := .hold, holdLimit := 10, lineTimeout := 24, recover := true, tag := 7 }

/-- A plan: that of chapter 6's worked sequences. -/
def plan : Plan :=
  { nominal := 12800, minPlate := 4000, pitch := 2400, guard := 200, strip := 8000, distance := 80000, margin := 2000,
    slack := 1000, missWindow := 512, tolerance := 20, mode := .avoid, gapPolicy := .grade, missAction := .keep }

/-- An enabled part: stream 0 RUNNING with an empty directory, the anchor page at 0x100000, a ticket ring of 32 slots at
0x40000 with source tag 9; E 100, A 90; three columns. -/
def base : State :=
  { State.reset with
    straps := 0x100
    enc := { State.reset.enc with e := 100 }
    anchor := { State.reset.anchor with control := 1 }
    window := { Window.blank with
      header := { valid := true, silence := 16, timeout := 16 }
      streams := win :: List.replicate 7 { win with base := 0x20000, colBase := 100, tag := 8 }
      ticket := { valid := true, base := 0x40000, count := 32, tag := 9 } }
    streams := { StreamRec.off with state := .running, dir := List.replicate 4 DirEntry.blank, lastStamp := some 95 } ::
      List.replicate 7 StreamRec.off
    tickets := List.replicate 32 SlotRec.blank
    det := { columns := List.replicate 3 Column.blank, streakCounts := [0], runs := [] }
    asm := { a := 90, record := none, analysing := false }
    arb := { passWaiting := [], ownWaiting := [], count := 0, passOut := [], ownOut := [] } }

/-- The state after a command. -/
def after (c : Instr) (s : State) : State :=
  match exec c s with
  | .next t => t
  | _ => s

/-- An order's 64 bytes from its kind and its fields, each a byte's offset and value. -/
def order (kind : Nat) (fields : List (Nat × Nat)) : List Byte :=
  (List.range 64).map (fun i =>
    match ((0, kind) :: fields).find? (fun f => f.1 == i) with
    | some f => BitVec.ofNat 8 f.2
    | none => 0)

/-- An order ready to be executed. -/
def ready (o : List Byte) (s : State) : State := { s with orders := { s.orders with phase := .ready o } }

/-- Little-endian bytes of a field, as `order` takes them. -/
def field (off size v : Nat) : List (Nat × Nat) := (List.range size).map (fun i => (off + i, v / 256 ^ i % 256))

/-- The code a completing order carries. -/
def code (s : State) : Nat :=
  match s.orders.phase with
  | .completing c => c
  | _ => 0

/-! ## Worked sequences of the spec -/

/-- Chapter 1, "one line into a ring": stream 3, W1 of 1,024 bytes with a good header, W2 of 1,088 bytes at offset 1,024. -/
def ring3 : State :=
  { base with
    enc := { base.enc with e := 10195 }
    asm := { base.asm with a := 10000 }
    window := { base.window with streams := base.window.streams.set 3 { win with
      base := 0x40000000, slotSize := 2112, slotCount := 8, colBase := 4000, winStart := 64, winStop := 1984, stagger := 12,
      holdLimit := 40 } }
    streams := List.replicate 3 StreamRec.off ++ [{ StreamRec.off with
      state := .running, lastStamp := some 10202
      dir := List.replicate 8 { DirEntry.blank with stamp := some 10195, state := .done } }] ++ List.replicate 4 StreamRec.off }

/-- Stamp 10,203 = 0x27DB, pixel count 2,048 = 0x0800, check 0xDB + 0x27 + 0x08 = 0x10A. -/
def w1 : UpWrite :=
  { addr := 0x400018C0, tag := 7
    data := ([0xDB, 0x27, 0, 0, 0, 0, 0, 8] ++ List.replicate 22 0 ++ [0x0A, 0x01] ++ List.replicate 992 0).map some }

def w2 : UpWrite := { addr := 0x400018C0 + 1024, tag := 7, data := List.replicate 1088 (some 0) }

theorem test_header_begins_fill : (stream (after (.headerWrite w1) ring3) 3).fill =
    some { slot := 3, remaining := 1056, next := 1024, start := 10195 } ∧
    (stream (after (.headerWrite w1) ring3) 3).lastStamp = some 10203 := by decide +kernel

theorem test_continuation_completes :
    (stream (after (.continuationWrite w2) (after (.headerWrite w1) ring3)) 3).fill = none ∧
    (dirEntry (after (.continuationWrite w2) (after (.headerWrite w1) ring3)) 3 3).awaiting = true := by decide +kernel

theorem test_wrong_offset_breaks :
    (dirEntry (after (.continuationWrite { w2 with addr := w2.addr + 16 }) (after (.headerWrite w1) ring3)) 3 3).state = .lost := by
  decide +kernel

/-- Chapter 2, "the encoder over a surge", step 2: three reverse counts, five forward counts. -/
theorem test_backlash_paid_off :
    ((List.replicate 3 Instr.reverseCount ++ List.replicate 5 Instr.forwardCount).foldl (fun s c => after c s)
      { base with enc := { base.enc with e := 81000 } }).enc.e = 81002 := by decide +kernel

/-- Chapter 2, "a short slot and its bursts". -/
theorem test_bursts : bursts 0x40001920 1836 =
    [(0x40001920, 256), (0x40001A20, 256), (0x40001B20, 256), (0x40001C20, 256), (0x40001D20, 256), (0x40001E20, 256),
     (0x40001F20, 224), (0x40002000, 80)] := by decide +kernel

def prof (dark bright minRun shift : Nat) : Profile := { Profile.reset with dark := dark, bright := bright, minRun := minRun, shift := shift }

/-- Chapter 3, "three pixels against one reference" and "at the limits". -/
theorem test_reference_steps :
    ([150, 180, 170].map (fun p => ((stepColumn (prof 20 24 2 6) (.covered p)
      { ref := 45000, age := 3, streak := false, clearRun := 0 }).1.ref))) = [45000, 45016, 44977] ∧
    refStep 4 65280 0 = 61200 ∧ refStep 10 0 255 = 63 ∧ refStep 4 0 255 = 4080 ∧ refStep 10 26623 100 = 26623 ∧
    refStep 6 25577 100 = 25577 := by decide +kernel

/-- Chapter 3, "a smear becomes a streak": streak lines n = 1 and n = 13, and the line that enters the streak. -/
theorem test_streak_steps :
    stepColumn (prof 20 24 2 4) (.covered 136) { ref := 45000, age := 0, streak := true, clearRun := 0 } =
      ({ ref := 44364, age := 0, streak := true, clearRun := 0 }, .broken true) ∧
    stepColumn (prof 20 24 2 4) (.covered 136) { ref := 39513, age := 0, streak := true, clearRun := 0 } =
      ({ ref := 39220, age := 0, streak := true, clearRun := 1 }, .broken true) ∧
    (stepColumn { prof 20 24 2 4 with streakLimit := 64 } (.covered 136) { ref := 45000, age := 63, streak := false, clearRun := 0 }).1
      = { ref := 45000, age := 0, streak := true, clearRun := 0 } := by decide +kernel

/-- Chapter 3, "one stretch of a line": columns 6,000 to 6,014; runs a to e (b is discarded by its width). -/
theorem test_runs : formRuns 6000 none
      [.clear, .flagged .dark 26, .flagged .dark 35, .clear, .flagged .dark 55, .flagged .bright 26, .flagged .bright 36,
       .broken true, .flagged .bright 25, .flagged .bright 29, .clear, .flagged .dark 33, .flagged .dark 43,
       .flagged .dark 45, .clear] =
    [{ c0 := 6001, c1 := 6002, polarity := .dark, peak := 35, sum := 61 },
     { c0 := 6004, c1 := 6004, polarity := .dark, peak := 55, sum := 55 },
     { c0 := 6005, c1 := 6006, polarity := .bright, peak := 36, sum := 62 },
     { c0 := 6008, c1 := 6009, polarity := .bright, peak := 29, sum := 54 },
     { c0 := 6011, c1 := 6013, polarity := .dark, peak := 45, sum := 121 }] := by decide +kernel

/-- Chapter 4, "two blobs merge and close": lines 1,000 and 1,001. -/
def blobs0 : State := { base with blobs := { base.blobs with nextBlob := 41, table := List.replicate 3 .free } }

def dark (c0 c1 peak sum : Nat) : Run := { c0 := c0, c1 := c1, polarity := .dark, peak := peak, sum := sum }

def blobs1 : State :=
  blobAct 1001 [dark 103 111 40 300] [] [] (blobAct 1000 [dark 100 104 30 120, dark 110 112 25 70] [] [] blobs0)

def merged : Blob :=
  { num := 41, polarity := .dark, y0 := 1000, last := 1001, c0 := 100, c1 := 112, prev := some (103, 111), cur := none,
    area := 17, peak := 40, sum := 490, gap := 2, profile := 0, continuation := false }

theorem test_blobs_merge : blobs1.blobs.table = [.opened merged, .free, .free] := by decide +kernel

theorem test_elongation : elongation 5 14 = 44 := by decide +kernel

/-- Chapter 5, "building a lane layout": orders 1, 4 and 6. -/
def lanes4 : LaneMap := { State.reset.lanes with groups := (State.reset.lanes.groups.set 18 (some 2)).set 20 (some 3) }

theorem test_lane_orders :
    (laneAssign (order 6 [(0x10, 1), (0x11, 2), (0x12, 1), (0x13, 3), (0x14, 0), (0x15, 1), (0x16, 2)]) State.reset.lanes).2.groups
      = List.replicate 3 (some 1) ++ List.replicate 61 none ∧
    (laneAssign (order 6 [(0x10, 3), (0x11, 1), (0x12, 2), (0x13, 2), (0x14, 18), (0x15, 19)]) lanes4).1 = .conflict ∧
    (laneAssign (order 6 [(0x10, 3), (0x11, 2), (0x12, 3), (0x13, 1), (0x14, 23)]) lanes4).1 = .noncontiguous := by
  decide +kernel

/-- Chapter 5, "a clamped load": marks for Td, min run, k, streak limit and min area. -/
theorem test_clamped_load : clampProfile (order 5 ([(0x10, 5), (0x11, 0), (0x12, 24), (0x13, 20), (0x14, 3), (0x15, 2)]
      ++ field 0x16 2 5000 ++ field 0x18 2 0)) =
    ({ dark := 1, bright := 24, minRun := 16, shift := 4, streakLimit := 4095, gap := 2, minArea := 1 }, 0x5D) := by
  decide +kernel

/-- Chapter 6, "four decisions and a strip". -/
theorem test_provisional_cuts :
    let f1 : AvoidSpan := { y0 := 109500, y1 := 109540 }
    let f2 : AvoidSpan := { y0 := 112000, y1 := 112010 }
    let f3 : AvoidSpan := { y0 := 130000, y1 := 130020 }
    chooseCut plan 100000 112800 .nominal [f1] = { cut := 109300, kind := .short, needed := 109500 } ∧
    chooseCut plan 109300 122100 .nominal [f1, f2] = { cut := 112210, kind := .cullet, needed := 116409 } ∧
    chooseCut plan 112210 125010 .nominal [] = { cut := 125010, kind := .nominal, needed := 125209 } ∧
    chooseCut plan 125010 137810 .nominal [f3] = { cut := 129800, kind := .short, needed := 130000 } ∧
    chooseCut plan 129800 142600 .nominal [f3] = { cut := 132200, kind := .cullet, needed := 136399 } := by decide +kernel

def plateOf (num start cut seq : Nat) (st : PlateState) : Plate :=
  { num := num, start := start, cut := cut, kind := .nominal, forced := false, unverified := false, replanned := false,
    deviation := false, lateConfirmed := false, lanes := [], seq := seq, distance := 80000, margin := 2000,
    missWindow := 512, tolerance := 20, missAction := .keep, state := st, final := false, pieces := [], fenced := false }

/-- Chapter 6, "a RESTART", with chapter 7's ring of 32 slots. -/
def restart0 : State :=
  { base with
    enc := { base.enc with e := 700000 }
    asm := { base.asm with a := 690000 }
    sched := { base.sched with
      plan := some plan, active := true, start := 645900, nextPlate := 525, nextSeq := 1125, request := some 650000
      queue := [plateOf 520 600000 612800 1120 .taken, plateOf 521 612800 625600 1121 .sealed,
        plateOf 522 625600 629900 1122 .sealed, plateOf 523 629900 633100 1123 .sealing, plateOf 524 633100 645900 1124 .decided] } }

theorem test_restart : let r := restartPlates plan restart0
    r.sched.queue.map (·.num) = [520] ∧ r.sched.start = 622001 ∧ r.sched.nextPlate = 521 ∧ r.sched.nextSeq = 1121 ∧
    r.sched.replan = some 645900 ∧ r.sched.request = none ∧ tallyOf r.tally .unplannedLength = 9201 ∧
    tallyOf r.tally .abandoned = 4 ∧ r.tickets.map (·.write) = [.none, .nulling, .nulling] ++ List.replicate 29 .none ∧
    (slotRec r 3).nullPending = some 1123 ∧ (slotRec r 4).nullPending = none := by decide +kernel

/-- Chapter 7, "from seal to confirmation", step 6: plate 412 TAKEN, measured 189,326 against 189,300. -/
def confirm0 : State :=
  { base with
    enc := { base.enc with e := 189309 }
    window := { base.window with ticket := { valid := true, base := 0x20000000, count := 64, tag := 9 } }
    tickets := (List.replicate 64 SlotRec.blank).set 52 { SlotRec.blank with occupant := some 412 }
    sched := { base.sched with active := true, plan := some plan, start := 400000, queue := [plateOf 412 100000 109300 1012 .taken] } }

def confirmWrite : UpWrite :=
  { addr := 0x20000D30, tag := 9
    data := ([1, 0, 0, 0, 0xF4, 0x03, 0, 0, 0x8E, 0xE3, 0x02, 0, 0, 0, 0, 0] : List Byte).map some }

theorem test_confirmation : ((after (.statusWrite confirmWrite) confirm0).sched.queue.map
    (fun p => (p.num, p.state, p.deviation))) = [(412, .cut, true)] := by decide +kernel

/-- Chapter 7, "the sequence wrap", with 32 slots. -/
theorem test_sequence_wrap : nextSequence base 4294967295 = 32 ∧ slotOf base 4294967295 = 31 ∧ slotOf base 32 = 0 := by
  decide +kernel

/-- Chapter 8, "one piece from decision to grade", and flaws f and g. -/
def class8 (kill1 : Bool) (core edge : Nat) : ClassGrade :=
  { avoid := false, capture := false, kill1 := kill1, kill2 := false, kill3 := false, core := core, edge := edge }

def grades8 : GradeTable :=
  { GradeTable.reset with
    classes := (GradeTable.reset.classes.set 2 (class8 false 10 4)).set 4 (class8 true 40 40)
    prime := 20, standard := 60, second := 150, bandColumns := 64, bandLines := 128, cap := 2, loaded := true }

def flaw8 (source : Source) (cls c0 c1 y0 y1 : Nat) : Offer := { source := source, cls := cls, y0 := y0, y1 := y1, c0 := c0, c1 := c1 }

def piece8 (fs : List Offer) : List Piece :=
  (newPieces [{ label := 2, kind := .sale, first := 3, count := 16 }] 125010 129800).map
    (fun q => fs.foldl (fun q f => applyToPiece grades8 125010 129800 f q) q)

def flaws8 : List Offer :=
  [flaw8 .blob 2 2000 2030 126500 126540, flaw8 .blob 2 3100 3112 127900 127960, flaw8 .blob 2 4830 4850 128200 128230,
   flaw8 .blob 4 1500 1540 128900 128960, flaw8 .gap 9 2560 2815 129100 129130]

theorem test_piece_account : ((piece8 flaws8).map (fun q => (q.points, q.kill1, q.uncovered, q.flaws, q.area)))
    = [(64, true, true, 5, 19619840)] ∧ (piece8 flaws8).map (pointsGrade grades8) = [3] ∧
    (piece8 (flaws8.take 3)).map (pointsGrade grades8) = [2] ∧
    (piece8 [flaw8 .blob 2 4790 4810 128000 128000]).map (·.points) = [10] ∧
    (piece8 [flaw8 .blob 2 3000 3010 129700 129850]).map (·.points) = [4] := by decide +kernel

/-- Chapter 9, "windows at the edges". -/
theorem test_capture_windows : windowFirst 1980 2010 = 1867 ∧ windowFirst 16300 16340 = 16128 ∧ windowFirst 20 80 = 0 := by
  decide +kernel

/-- Chapter 10, "a shift of five lanes": the yield and the record's length. -/
theorem test_prime_yield : primeYield ((State.reset.tally.add (.areaByGrade 1) 4299161600).add (.areaByGrade 2) 1038950400) = 805 ∧
    reportUnits 5 = 13 := by decide +kernel

/-- Chapter 11, "an overflow and its clearing": write index 62, log of 64, three records handed over, then LOG_READ 62,
LOG_CLEAR. -/
def log0 : State :=
  { base with
    window := { base.window with log := { valid := true, base := 0x80000, code := 0 } }
    writer := { base.writer with writeIndex := 62, readIndex := 0, nextSeq := 1000 } }

def log1 : State :=
  issueEvent .resumed [] (handGroup [.event .resumed [], .event .resumed [], .event .resumed []] log0)

def control (v : Byte) : UpWrite := { addr := 0x100000, tag := 0, data := [some v] }

theorem test_log_overflow : log1.writer.overflow = true ∧ log1.writer.lost = 4 ∧ log1.writer.nextSeq = 1004 ∧
    let s := after (.logClear (control 3)) (after (.logRead { addr := 0x100020, tag := 0, data := [some 62, some 0, some 0, some 0] }) log1)
    s.writer.overflow = false ∧ s.writer.lost = 4 ∧ s.writer.inFlight.map (fun g => g.records.map (·.seq)) = some [1004] ∧
    tallyOf s.tally .recordsLost = 4 := by decide +kernel

/-! ## Witnesses: states and operands that meet the hypotheses of the statements

A clause about a condition on numbers has its witness at the boundary. -/

/-- Nothing is held, copied or let go, as a test that computes. -/
def calm (s : State) : Bool := s.streams.all (fun r => r.hold.isNone) && s.cap.copy.isNone && s.toTake.isEmpty

theorem stream_mem_or_off (s : State) (n : Nat) : stream s n ∈ s.streams ∨ stream s n = StreamRec.off := by
  unfold stream
  rw [List.getD_eq_getElem?_getD]
  cases h : s.streams[n]? with
  | none => exact .inr rfl
  | some r => exact .inl (List.mem_of_getElem? h)

theorem no_holds {s : State} (h : s.streams.all (fun r => r.hold.isNone) = true) : ∀ n, (stream s n).hold = none := by
  intro n
  rcases stream_mem_or_off s n with m | m
  · exact Option.isNone_iff_eq_none.mp (List.all_eq_true.mp h _ m)
  · rw [m]; rfl

theorem quiet_of_calm {s : State} (h : calm s = true) : Quiet s := by
  simp only [calm, Bool.and_eq_true, Option.isNone_iff_eq_none, List.isEmpty_iff] at h
  exact ⟨no_holds h.1.1, h.1.2, h.2⟩

/-- Only the first stream holds a write. -/
theorem others_hold_none {s : State} {r : StreamRec} {rs : List StreamRec} (h : s.streams = r :: rs)
    (g : rs.all (fun x => x.hold.isNone) = true) : ∀ m, m ≠ 0 → (stream s m).hold = none := by
  intro m hm
  obtain ⟨k, rfl⟩ := Nat.exists_eq_succ_of_ne_zero hm
  unfold stream
  rw [h, List.getD_eq_getElem?_getD, List.getElem?_cons_succ]
  cases e : rs[k]? with
  | none => rfl
  | some x => exact Option.isNone_iff_eq_none.mp (List.all_eq_true.mp g x (List.mem_of_getElem? e))

theorem awaited_here {s : State} {p : Purpose → Bool} {x : OwnTxn} {left : List OwnTxn} (h : s.arb.ownOut = x :: left)
    (hp : p x.purpose = true) (hx : x.live = true) : Awaited s p x left :=
  ⟨[], left, h, rfl, by simp, hp, hx⟩

def own (p : Purpose) (b : OwnBody) : OwnTxn := { purpose := p, live := true, addr := 0x40000, body := b }

def granted (p : Purpose) (b : OwnBody) (s : State) : State := { s with arb := { s.arb with ownOut := [own p b] } }

/-- A capture copy into slot 1 from stream 0, its first window line being read. -/
def copy1 : Copy :=
  { slot := 1, flaw := 3, x0 := 0, yw := 92, nextRow := 0, rowsOut := 0, headerOut := false
    streams := [{ stream := 0, first := 0, last := 15, stagger := 0, winStart := 0, colBase := 0, next := 0,
                  reading := some 16, segments := [], gone := List.replicate 256 false }]
    missing := List.replicate 256 false }

def copying (p : Purpose) (b : OwnBody) : State :=
  granted p b { base with cap := { slots := [.free, .filling, .free, .free], copy := some copy1 } }

theorem witness_StepRunsFrontCommand : base.pending = [] := by decide +kernel

/-- The scheduler is active from S = 200,000; E is at the forcing position 200,000 + 12,800 + 80,000 - 2,000 - 1,000. -/
def scheduled (e : Nat) (plates : List Plate) : State :=
  { base with
    enc := { base.enc with e := e }
    sched := { base.sched with plan := some plan, active := true, start := 200000, nextPlate := 40, nextSeq := 40, queue := plates } }

/-- E at its top; the inactive scheduler; a plate whose miss point 189,812 the next count reaches. -/
theorem witness_ForwardCount : ({ base with enc := { base.enc with e := 2 ^ 48 - 1 } } : State).enc.e ≤ Config.encoderTop ∧
    (base.sched.active = false ∧ ∀ p ∈ base.sched.queue, missDue base p = false) ∧
    ∀ st ∈ [PlateState.sealed, .taken],
      let s := scheduled 189811 [plateOf 40 100000 109300 40 st]
      let t := { s with enc := s.enc.forward }
      s.enc.backlash = 0 ∧ s.enc.e < Config.encoderTop ∧ 109300 + 80000 + 512 ≤ s.enc.e + 1 ∧ evaluate t = t := by
  decide +kernel

/-- The count that reaches the miss point makes the plate MISSED (R135). -/
theorem test_miss_in_forward_count : ∀ e ∈ [189810, 189811],
    ((after .forwardCount (scheduled e [plateOf 40 100000 109300 40 .taken])).sched.queue.map (·.state) = [.missed] ↔
      e = 189811) := by decide +kernel

theorem witness_ReverseCountAndInvalidTransition :
    ({ base with enc := { base.enc with backlash := 64 } } : State).enc.backlash ≤ Config.backlashTop := by decide +kernel

theorem witness_OnlyForwardCountMovesE : ∃ t, exec .forwardCount base = .next t := ⟨_, rfl⟩

/-! Ring Tracker -/

/-- A slot header for a stamp and a pixel count below 128, with its check (R190). -/
def hdr (stamp count : Byte) : List Byte := [stamp, 0, 0, 0, 0, 0, count, 0] ++ List.replicate 22 0 ++ [stamp + count, 0]

def hw (stamp : Byte) : UpWrite := { addr := 0x10000, tag := 7, data := (hdr stamp 16).map some }

theorem goodHeader_hw (stamp : Byte) (h : stamp = 96 ∨ stamp = 104 ∨ stamp = 105) :
    GoodHeader 1024 (hw stamp).data stamp.toNat 16 := by
  rcases h with rfl | rfl | rfl
  · exact ⟨hdr 96 16, by decide +kernel⟩
  · exact ⟨hdr 104 16, by decide +kernel⟩
  · exact ⟨hdr 105 16, by decide +kernel⟩

def shortHeader : UpWrite := { addr := 0x10000, tag := 7, data := List.replicate 31 (some 0) }

theorem headerWriteFor_base : HeaderWriteFor base (hw 96) 0 0 ∧ HeaderWriteFor base (hw 104) 0 0 ∧
    HeaderWriteFor base (hw 105) 0 0 ∧ HeaderWriteFor base shortHeader 0 0 := by
  unfold HeaderWriteFor PlainWrite; decide +kernel

/-- The least and the greatest stamp that fit, the next one that does not, and a header of 31 bytes. -/
theorem witness_HeaderWriteTaken : Quiet base ∧ HeaderWriteFor base (hw 96) 0 0 ∧ HeaderWriteFor base (hw 105) 0 0 ∧
    HeaderWriteFor base shortHeader 0 0 ∧ (dirEntry base 0 0).busy = false ∧ (stream base 0).fill = none ∧
    GoodHeader (streamWindow base 0).slotSize (hw 96).data 96 16 ∧ StampFits base 0 96 ∧ StampFits base 0 104 ∧
    GoodHeader (streamWindow base 0).slotSize (hw 105).data 105 16 ∧ ¬ StampFits base 0 105 ∧ ¬ StampFits base 0 95 ∧
    ∀ stamp count, ¬ GoodHeader (streamWindow base 0).slotSize shortHeader.data stamp count := by
  refine ⟨quiet_of_calm (by decide +kernel), headerWriteFor_base.1, headerWriteFor_base.2.2.1, headerWriteFor_base.2.2.2,
    by decide +kernel, by decide +kernel, goodHeader_hw 96 (by decide), ?_, ?_, goodHeader_hw 105 (by decide), ?_, ?_, ?_⟩
  · unfold StampFits; decide +kernel
  · unfold StampFits; decide +kernel
  · unfold StampFits; decide +kernel
  · unfold StampFits; decide +kernel
  · rintro stamp count ⟨bytes, h, e, -⟩
    have := congrArg List.length e
    simp [shortHeader, h] at this

/-- Slot 0 of stream 0 is READY with stamp 95. -/
def readySlot : State :=
  modDir 0 0 (fun e => { e with stamp := some 95, state := .ready }) base

def skipSlot : State :=
  { readySlot with window := { readySlot.window with streams := readySlot.window.streams.set 0 { win with policy := .skip } } }

/-- Stream 0 holds a write since E 90, with `n` writes queued behind it. -/
def holding (n : Nat) : State :=
  modStream 0 (fun r => { r with hold := some { start := 90, held := hw 96, queue := List.replicate n (hw 96) } }) readySlot

theorem releasable_none {s : State} (h : ∀ m < 8, releasable s m = false) (l : s.streams.length = 8) :
    ∀ m, releasable s m = false := by
  intro m
  by_cases k : m < 8
  · exact h m k
  · unfold releasable stream
    rw [List.getD_eq_getElem?_getD, List.getElem?_eq_none (by omega)]; rfl

/-- Slot 0 of stream 0 is filled, its completion outstanding, under SKIP. -/
def awaitingSkip : State := modDir 0 0 (fun e => { e with state := .filling, awaiting := true }) skipSlot

/-- Slot 0 of stream 0 is DONE and pinned by the active copy. -/
def pinned : State :=
  modDir 0 0 (fun e => { e with stamp := some 92, state := .done, pin := true }) (copying .captureRow (.write []))

def pinnedSkip : State :=
  { pinned with window := { pinned.window with streams := pinned.window.streams.set 0 { win with policy := .skip } } }

/-- Slot 0 is being filled: 16 bytes remain from offset 64 on, since E 76. -/
def filling : State :=
  modStream 0 (fun r => { r with fill := some { slot := 0, remaining := 16, next := 64, start := 76 } })
    (modDir 0 0 (fun e => { e with stamp := some 95, pixels := 48, state := .filling }) base)

/-- The header write of stamp 96 to slot 1. -/
def hw1 : UpWrite := { hw 96 with addr := 0x10400 }

theorem witness_BusyHeaderWrite :
    (Quiet readySlot ∧ HeaderWriteFor readySlot (hw 96) 0 0 ∧ (dirEntry readySlot 0 0).busy = true ∧
      (streamWindow readySlot 0).policy = .hold) ∧
    (Quiet skipSlot ∧ HeaderWriteFor skipSlot (hw 96) 0 0 ∧ (dirEntry skipSlot 0 0).state = .ready ∧
      (stream skipSlot 0).fill = none ∧ (streamWindow skipSlot 0).policy = .skip ∧
      GoodHeader (streamWindow skipSlot 0).slotSize (hw 96).data 96 16 ∧ StampFits skipSlot 0 96) ∧
    (Quiet awaitingSkip ∧ HeaderWriteFor awaitingSkip (hw 96) 0 0 ∧ (dirEntry awaitingSkip 0 0).state = .filling ∧
      (dirEntry awaitingSkip 0 0).awaiting = true ∧ (stream awaitingSkip 0).fill = none ∧ StampFits awaitingSkip 0 96) ∧
    ((∀ m, (stream pinnedSkip m).hold = none) ∧ pinnedSkip.toTake = [] ∧ HeaderWriteFor pinnedSkip (hw 96) 0 0 ∧
      (dirEntry pinnedSkip 0 0).state = .done ∧ (dirEntry pinnedSkip 0 0).pin = true ∧
      (streamWindow pinnedSkip 0).policy = .skip ∧ StampFits pinnedSkip 0 96) ∧
    (Quiet filling ∧ HeaderWriteFor filling hw1 0 1 ∧ (dirEntry filling 0 1).busy = false ∧
      (stream filling 0).fill = some { slot := 0, remaining := 16, next := 64, start := 76 } ∧
      GoodHeader (streamWindow filling 0).slotSize hw1.data 96 16 ∧ StampFits filling 0 96) ∧
    ∀ n ∈ [14, 15], (holding n).cap.copy = none ∧ (holding n).toTake = [] ∧ (∀ m, releasable (holding n) m = false) ∧
      holderOf (holding n) 7 = some 0 ∧
      (stream (holding n) 0).hold = some { start := 90, held := hw 96, queue := List.replicate n (hw 96) } := by
  refine ⟨⟨quiet_of_calm (by decide +kernel), by unfold HeaderWriteFor PlainWrite; decide +kernel, by decide +kernel, by decide +kernel⟩,
    ⟨quiet_of_calm (by decide +kernel), by unfold HeaderWriteFor PlainWrite; decide +kernel, by decide +kernel, by decide +kernel,
      by decide +kernel, goodHeader_hw 96 (by decide), by unfold StampFits; decide +kernel⟩,
    ⟨quiet_of_calm (by decide +kernel), by unfold HeaderWriteFor PlainWrite; decide +kernel, by decide +kernel, by decide +kernel,
      by decide +kernel, by unfold StampFits; decide +kernel⟩,
    ⟨no_holds (by decide +kernel), by decide +kernel, by unfold HeaderWriteFor PlainWrite; decide +kernel,
      by decide +kernel, by decide +kernel, by decide +kernel, by unfold StampFits; decide +kernel⟩,
    ⟨quiet_of_calm (by decide +kernel), by unfold HeaderWriteFor PlainWrite; decide +kernel, by decide +kernel, by decide +kernel,
      goodHeader_hw 96 (by decide), by unfold StampFits; decide +kernel⟩, ?_⟩
  intro n hn
  simp only [List.mem_cons, List.not_mem_nil, or_false] at hn
  rcases hn with rfl | rfl <;>
    exact ⟨by decide +kernel, by decide +kernel, releasable_none (by decide +kernel) (by decide +kernel), by decide +kernel,
      by decide +kernel⟩

/-- Stream 0 holds a write for the slot that the active copy has pinned. -/
def holdingPinned : State :=
  modStream 0 (fun r => { r with hold := some { start := 90, held := hw 96, queue := [] } }) pinned

/-- Slot 1 is READY too; behind the held write are the header write for it and one with a foreign tag. -/
def holdingTwo : State :=
  modStream 0 (fun r => { r with hold := some { start := 90, held := hw 96, queue := [hw1, { hw1 with tag := 5 }] } })
    (modDir 0 1 (fun e => { e with stamp := some 94, state := .ready }) readySlot)

/-- The second busy slot starts a new hold at E 100, and the write behind it stays queued although its tag is foreign (R11). -/
theorem test_hold_begins_anew : (stream (after (.holdExpired 0) holdingTwo) 0).hold =
      some { start := 100, held := hw1, queue := [{ hw1 with tag := 5 }] } ∧
    tallyOf (after (.holdExpired 0) holdingTwo).tally (.held 0) = 1 := by decide +kernel

def hw5 : UpWrite := { hw 96 with addr := 0x20000, tag := 5 }

/-- Stream 1 of source tag 5 holds a write with `n` behind it; stream 0 has let a write of that tag go. -/
def lettingGo (n : Nat) : State :=
  { modStream 1 (fun _ => { StreamRec.off with
      state := .running, dir := List.replicate 4 { DirEntry.blank with stamp := some 95, state := .ready }
      hold := some { start := 95, held := hw5, queue := List.replicate n hw5 } }) base with
    window := { base.window with
      streams := base.window.streams.set 1 { win with base := 0x20000, colBase := 100, tag := 5 } }
    toTake := [{ stream := 0, write := { hw 96 with tag := 5 }, mode := .arrive }] }

/-- The write let go takes the sixteenth place, or waits for one; a write of its tag is not accepted before it (R10, R11). -/
theorem test_let_go_waits : ∀ n ∈ [14, 15], let s := after (.passThrough (.write hw5)) (lettingGo n)
    s.toTake.length = (if n = 15 then 1 else 0) ∧ ((stream s 1).hold.map (fun h => h.queue.length)) = some 15 ∧
    s.arb.passWaiting = [] := by decide +kernel

theorem witness_HoldAnew :
    (holdingTwo.cap.copy = none ∧ holdingTwo.toTake = [] ∧ (∀ m, m ≠ (0 : Fin 8).val → (stream holdingTwo m).hold = none) ∧
      (stream holdingTwo 0).hold = some { start := 90, held := hw 96, queue := [hw1, { hw1 with tag := 5 }] } ∧
      90 + (streamWindow holdingTwo 0).holdLimit ≤ holdingTwo.enc.e ∧ HeaderWriteFor holdingTwo (hw 96) 0 0 ∧
      (dirEntry holdingTwo 0 0).state = .ready ∧ (stream holdingTwo 0).fill = none ∧
      GoodHeader (streamWindow holdingTwo 0).slotSize (hw 96).data 96 16 ∧ StampFits holdingTwo 0 96 ∧
      HeaderWriteFor holdingTwo hw1 0 1 ∧ (dirEntry holdingTwo 0 1).busy = true ∧
      (streamWindow holdingTwo 0).policy = .hold) ∧
    ((lettingGo 15).cap.copy = none ∧ (∀ i, releasable (lettingGo 15) i = false) ∧
      (lettingGo 15).toTake = [{ stream := 0, write := { hw 96 with tag := 5 }, mode := .arrive }] ∧
      (stream (lettingGo 15) 0).hold = none ∧ holderOf (lettingGo 15) 5 = some 1 ∧
      (stream (lettingGo 15) 1).hold = some { start := 95, held := hw5, queue := List.replicate 15 hw5 }) := by
  refine ⟨⟨by decide +kernel, by decide +kernel, others_hold_none rfl (by decide +kernel), by decide +kernel, by decide +kernel,
      by unfold HeaderWriteFor PlainWrite; decide +kernel, by decide +kernel, by decide +kernel, goodHeader_hw 96 (by decide),
      by unfold StampFits; decide +kernel, by unfold HeaderWriteFor PlainWrite; decide +kernel, by decide +kernel,
      by decide +kernel⟩,
    by decide +kernel, releasable_none (by decide +kernel) (by decide +kernel), by decide +kernel, by decide +kernel,
    by decide +kernel, by decide +kernel⟩

/-- The hold of E 90 under a limit of 10 expires at E 100; one that began at 91 does not. -/
theorem witness_HoldExpired :
    (holdingPinned.toTake = [] ∧ (∀ m, m ≠ (0 : Fin 8).val → (stream holdingPinned m).hold = none) ∧
      (stream holdingPinned 0).hold = some { start := 90, held := hw 96, queue := [] } ∧
      90 + (streamWindow holdingPinned 0).holdLimit ≤ holdingPinned.enc.e ∧ HeaderWriteFor holdingPinned (hw 96) 0 0 ∧
      (dirEntry holdingPinned 0 0).state = .done ∧ (dirEntry holdingPinned 0 0).pin = true ∧
      (stream holdingPinned 0).fill = none ∧ StampFits holdingPinned 0 96) ∧
    ((holding 0).cap.copy = none ∧ (holding 0).toTake = [] ∧ (∀ m, m ≠ (0 : Fin 8).val → (stream (holding 0) m).hold = none) ∧
      (stream (holding 0) 0).hold = some { start := 90, held := hw 96, queue := [] } ∧
      90 + (streamWindow (holding 0) 0).holdLimit ≤ (holding 0).enc.e ∧ HeaderWriteFor (holding 0) (hw 96) 0 0 ∧
      (dirEntry (holding 0) 0 0).state = .ready ∧ (stream (holding 0) 0).fill = none ∧
      GoodHeader (streamWindow (holding 0) 0).slotSize (hw 96).data 96 16 ∧ StampFits (holding 0) 0 96) ∧
    ({ holding 0 with enc := { base.enc with e := 99 } } : State).enc.e < 90 + (streamWindow (holding 0) 0).holdLimit := by
  refine ⟨⟨by decide +kernel, others_hold_none rfl (by decide +kernel), by decide +kernel, by decide +kernel,
      by unfold HeaderWriteFor PlainWrite; decide +kernel, by decide +kernel, by decide +kernel, by decide +kernel,
      by unfold StampFits; decide +kernel⟩,
    ⟨by decide +kernel, by decide +kernel, others_hold_none rfl (by decide +kernel), by decide +kernel, by decide +kernel,
    by unfold HeaderWriteFor PlainWrite; decide +kernel, by decide +kernel, by decide +kernel, goodHeader_hw 96 (by decide),
    by unfold StampFits; decide +kernel⟩, by decide +kernel⟩

def cw (off n : Nat) : UpWrite := { addr := 0x10000 + off, tag := 7, data := List.replicate n (some 0) }

/-- The rest of slot 0, and a header of 32 bytes at the start of slot 1. -/
def split : UpWrite :=
  { addr := 0x10040, tag := 7, data := List.replicate 960 (some 0) ++ (hdr 96 16).map some }

theorem witness_ContinuationWrite : (PlainWrite filling split ∧ streamOf filling split = some 0 ∧
      0 + 1 < (stream filling 0).dir.length ∧ 0 + 1 < (streamWindow filling 0).slotCount ∧
      (dirEntry filling 0 1).busy = false ∧ split.addr = slotAddr (streamWindow filling 0) 0 + 64 ∧ 64 < 1024 ∧
      16 ≤ 1024 - 64 ∧ split.data.length - (1024 - 64) = 32 ∧
      GoodHeader 1024 (split.data.drop (1024 - 64)) 96 16 ∧ StampFits filling 0 96) ∧ Quiet filling ∧ (∀ x ∈ [(64, 15), (64, 16), (80, 16)],
      PlainWrite filling (cw x.1 x.2) ∧ streamOf filling (cw x.1 x.2) = some 0 ∧
      (cw x.1 x.2).addr = slotAddr (streamWindow filling 0) 0 + x.1 ∧ 0 < x.1 ∧ 0 < (cw x.1 x.2).data.length ∧
      x.1 + (cw x.1 x.2).data.length ≤ (streamWindow filling 0).slotSize) ∧
    (stream filling 0).fill = some { slot := 0, remaining := 16, next := 64, start := 76 } ∧
    0 < (stream filling 0).dir.length ∧ (dirEntry filling 0 0).state = .filling :=
  ⟨⟨by unfold PlainWrite; decide +kernel, by decide +kernel, by decide +kernel, by decide +kernel, by decide +kernel,
      by decide +kernel, by decide, by decide, by decide +kernel, ⟨hdr 96 16, by decide +kernel⟩,
      by unfold StampFits; decide +kernel⟩,
    quiet_of_calm (by decide +kernel), by unfold PlainWrite; decide +kernel, by decide +kernel⟩

/-- The completing write of slot 0 is granted; its stamp 91 is the first ahead of A. -/
def completing : State :=
  { modDir 0 0 (fun e => { e with stamp := some 91, pixels := 48, state := .filling, awaiting := true }) base with
    arb := { base.arb with passOut := [.write (cw 64 16) [{ stream := 0, slot := 0, completing := true }]] } }

/-- Stream 0 in a state, its slot 0's fill of so many pixels completing. -/
def completingIn (st : StreamState) (pixels : Nat) : State :=
  modDir 0 0 (fun e => { e with pixels := pixels }) (modStream 0 (fun r => { r with state := st }) completing)

/-- A stamp of 90, the analysis line's own; a stream LAPSED, and SEEDING with its seed span full and one pixel short, and with
its seed fetch in flight; an earlier write of the fill failed; the write is not the last of its fill. -/
theorem witness_CompletingWriteResponse :
    (let s := modDir 0 0 (fun e => { e with stamp := some 90 }) completing
     calm s = true ∧ stampOf s 0 0 ≤ s.asm.a + (streamWindow s 0).stagger) ∧
    (∀ x ∈ [(StreamState.lapsed, 16), (.seeding, 16), (.seeding, 15)], calm (completingIn x.1 x.2) = true ∧
      (stream (completingIn x.1 x.2) 0).state = x.1 ∧ (stream (completingIn x.1 x.2) 0).seed = none ∧
      (dirEntry (completingIn x.1 x.2) 0 0).failed = false ∧ (dirEntry (completingIn x.1 x.2) 0 0).pixels = x.2 ∧
      (streamWindow (completingIn x.1 x.2) 0).winStop = 16) ∧
    (let s := modStream 0 (fun r => { r with seed := some { slot := 1, stamp := 90 } }) (completingIn .seeding 16)
     calm s = true ∧ (stream s 0).seed.isSome = true) ∧
    (let s := modDir 0 0 (fun e => { e with failed := true }) completing
     calm s = true ∧ (dirEntry s 0 0).failed = true) ∧
    (let t := PassTxn.write (cw 64 8) [{ stream := 0, slot := 0, completing := false }]
     let s := { filling with arb := { filling.arb with passOut := [t] } }
     calm s = true ∧ s.arb.passOut = [] ++ t :: []) ∧ Quiet completing ∧
    completing.arb.passOut = [] ++ .write (cw 64 16) [{ stream := 0, slot := 0, completing := true }] :: [] ∧
    (cw 64 16).tag = 7 ∧ (∀ x ∈ ([] : List PassTxn), x.isWrite 7 = false) ∧ (stream completing 0).state = .running ∧
    0 < (stream completing 0).dir.length ∧ (dirEntry completing 0 0).failed = false ∧
    completing.asm.a + (streamWindow completing 0).stagger < stampOf completing 0 0 :=
  ⟨by decide +kernel, by decide +kernel, by decide +kernel, by decide +kernel, by decide +kernel, quiet_of_calm (by decide +kernel), rfl, rfl, by decide, by decide +kernel⟩

def faulting : State :=
  { filling with window := { filling.window with streams := filling.window.streams.set 0 { win with recover := false } } }

/-- A fill of E 76 under a timeout of 24; silence since E 84 under a limit of 16. -/
theorem witness_LineTimeoutAndLapse :
    (∀ s ∈ [filling, faulting], (stream s 0).fill = some { slot := 0, remaining := 16, next := 64, start := 76 } ∧
      76 + (streamWindow s 0).lineTimeout ≤ s.enc.e) ∧ Quiet filling ∧ Quiet faulting ∧
    (streamWindow filling 0).recover = true ∧ (streamWindow faulting 0).recover = false ∧
    faulting.tally.counts.length = tallyPlaces ∧ 0 < (stream faulting 0).dir.length ∧
    (let s := modStream 0 (fun r => { r with lastReady := 84 }) base
     Quiet s ∧ (stream s 0).state = .running ∧
      max (stream s 0).runningSince (stream s 0).lastReady + s.window.header.silence ≤ s.enc.e) :=
  ⟨by decide +kernel, quiet_of_calm (by decide +kernel), quiet_of_calm (by decide +kernel), by decide +kernel, by decide +kernel,
    by decide +kernel, by decide +kernel, quiet_of_calm (by decide +kernel), by decide +kernel⟩

/-- Stream 0 is SEEDING, its seed fetch of 16 bytes granted. -/
def seeding : State :=
  { modStream 0 (fun r => { r with state := .seeding, seed := some { slot := 0, stamp := 95 } }) readySlot with
    arb := { base.arb with ownOut := [{ purpose := .seed 0, live := true, addr := 0x10020, body := .read 16 }] } }

theorem witness_SeedFetchDone : Quiet seeding ∧ (stream seeding (0 : Fin 8)).seed = some { slot := 0, stamp := 95 } ∧
    allGranted (· == .seed (0 : Fin 8)) seeding = some seeding.arb.ownOut ∧
    resultsFit seeding.arb.ownOut [{ okay := true, data := List.replicate 16 9 }] = true ∧
    resultsFit seeding.arb.ownOut [{ okay := false, data := [] }] = true ∧
    (dirEntry seeding 0 0).stamp = some 95 ∧ (dirEntry seeding 0 0).state = .ready :=
  ⟨quiet_of_calm (by decide +kernel), by decide +kernel, by decide +kernel, by decide +kernel, by decide +kernel,
    by decide +kernel, by decide +kernel⟩

/-! Line Assembler and Detection Unit -/

/-- Stream 0 stands WAITING for line 91, and E is at the timeout's position. -/
def waiting : State :=
  { modStream 0 (fun r => { r with lastStamp := some 90 }) base with enc := { base.enc with e := 170 } }

theorem witness_LineAssembled :
    (enabled base = true ∧ base.asm.record = none ∧ (∃ n < 8, (stream base n).state = .running) ∧ base.asm.a + 1 ≤ base.enc.e ∧
      ∀ e ∈ coverageRecord base (base.asm.a + 1), e.standing ≠ .waiting) ∧
    (enabled waiting = true ∧ waiting.asm.record = none ∧ waiting.asm.a + 1 + 63 + assemblyTimeout waiting ≤ waiting.enc.e ∧
      ∃ n < 8, (stream waiting n).state ≠ .off ∧ (standing waiting n (waiting.asm.a + 1)).1 = .waiting ∧
        (stream waiting n).episode = false) := by decide +kernel

/-- Line 91 in assembly with stream 0 MISSING, and so without a fetch. -/
def assembled : State := { base with asm := { base.asm with record := some (coverageRecord base 91) } }

/-- Line 91 in assembly, stream 0 PRESENT with slot 0 and slot 1 behind the line, its read granted. -/
def fetched (st : StreamState) (stopped : Bool) : State :=
  let s := modDir 0 1 (fun e => { e with stamp := some 90, state := .ready })
    (modDir 0 0 (fun e => { e with stamp := some 91, pixels := 16, state := .ready }) base)
  let r := (coverageRecord s 91).map (fun e => { e with stopped := stopped })
  let t := modStream 0 (fun x => { x with state := st }) s
  { t with asm := { s.asm with record := some r }, arb := { s.arb with ownOut := pixelReads s r } }

/-- A used slot and a slot behind the line; a failed fetch, of a stream in service and of one stopped after the failure. -/
theorem witness_PixelFetchDone :
    (∀ st ∈ [StreamState.running, .lapsed], let s := fetched st false
      calm s = true ∧ s.asm.record.isSome = true ∧ allGranted Purpose.isPixel s = some s.arb.ownOut ∧
      resultsFit s.arb.ownOut [{ okay := true, data := List.replicate 16 9 }] = true ∧ (stream s 0).state = st ∧
      (∀ e ∈ s.asm.record.getD [], e.standing = .present ∧ e.stopped = false ∧ e.stamp = 91 ∧ e.stream = 0 ∧ e.slot = 0) ∧
      (dirEntry s 0 0).state = .ready ∧ (dirEntry s 0 0).stamp = some 91 ∧
      (dirEntry s 0 1).state = .ready ∧ (dirEntry s 0 1).stamp = some 90 ∧ 90 < 91 + (streamWindow s 0).stagger) ∧
    (∀ stopped ∈ [false, true], let s := fetched .running stopped
      resultsFit s.arb.ownOut [{ okay := false, data := [] }] = true ∧ ∀ e ∈ s.asm.record.getD [],
        fetchReported [0] s.arb.ownOut [{ okay := false, data := [] }] e = true ∧
        (fetchReported [] s.arb.ownOut [{ okay := false, data := [] }] e = true ↔ stopped = false)) ∧
    Quiet assembled ∧ assembled.asm.record = some (coverageRecord base 91) ∧
    allGranted Purpose.isPixel assembled = some [] ∧ resultsFit [] [] = true ∧ ∀ o, assembled.orders.phase ≠ .laneWait o :=
  ⟨by decide +kernel, by decide +kernel, quiet_of_calm (by decide +kernel), rfl, by decide +kernel, rfl,
    (fun _ h => nomatch h)⟩

theorem witness_ReferenceLevel : 65280 ≤ 65280 ∧ ({ Column.blank with ref := 65280 } : Column).streak = false := by decide

theorem witness_PixelClasses : 255 ≤ 255 ∧ Column.blank.ref ≤ 65280 ∧ 1 ≤ (prof 1 255 2 4).dark ∧ (prof 1 255 2 4).dark ≤ 255 ∧
    1 ≤ (prof 1 255 2 4).bright ∧ (prof 1 255 2 4).bright ≤ 255 := by decide

/-- A column at the top of every range, and a streak limit at its top; the pixel is CLEAR in one case and DARK in another. -/
theorem witness_ColumnStep : ColumnInv { ref := 65280, age := 4094, streak := false, clearRun := 64 } ∧
    ({ Profile.reset with streakLimit := 4095 } : Profile).streakLimit ≤ 4095 ∧
    pixelClass Profile.reset (contrast 65280 255) = .clear ∧ pixelClass Profile.reset (contrast 65280 225) = .dark ∧
    (4094 + 1 < 4095 + 1 ∧ 4095 ≤ 4094 + 1) ∧ (62 < 63 ∧ 63 ≤ 63) := by unfold ColumnInv; decide

/-! Lane Map -/

theorem orderReady_ready (o : List Byte) (s : State) (k : Nat) (h : orderKind o = k) : OrderReady (ready o s) k o := ⟨rfl, h⟩

def assign (label kind prof : Nat) (groups : List Nat) : List Byte :=
  order 6 ([(0x10, label), (0x11, kind), (0x12, prof), (0x13, groups.length)] ++ groups.mapIdx (fun i g => (0x14 + i, g)))

/-- The first two groups belong to label 2. -/
def laned : State := { base with lanes := { base.lanes with groups := [some 2, some 2] ++ List.replicate 62 none } }

/-- The last groups to a new label (in range, free, one run), group 0 (not free), groups 62 and 60 (no run), and label 16. -/
theorem witness_LaneAssign :
    (∀ o ∈ [assign 15 1 7 [63, 62], assign 15 1 7 [0], assign 15 1 7 [62, 60], assign 16 1 7 [63]],
      OrderReady (ready o laned) kindLaneAssign o ∧ (ready o laned).asm.analysing = false ∧
      (ready o laned).lanes.groups.length = 64) ∧
    (∀ i j k : Nat, i < j → j < k → (i ∈ [63, 62] ∨ groupLabel laned.lanes i = some 15) →
      (k ∈ [63, 62] ∨ groupLabel laned.lanes k = some 15) → (j ∈ [63, 62] ∨ groupLabel laned.lanes j = some 15)) ∧
    (∀ g ∈ [63, 62], groupLabel laned.lanes g = none) ∧ (∀ g ∈ [62, 60], groupLabel laned.lanes g = none) ∧
    groupLabel laned.lanes 0 ≠ none ∧
    ¬ ∀ i j k : Nat, i < j → j < k → (i ∈ [62, 60] ∨ groupLabel laned.lanes i = some 15) →
      (k ∈ [62, 60] ∨ groupLabel laned.lanes k = some 15) → (j ∈ [62, 60] ∨ groupLabel laned.lanes j = some 15) := by
  have none15 : ∀ g, groupLabel laned.lanes g ≠ some 15 := by
    intro g
    by_cases h : g < 64
    · revert g; decide +kernel
    · unfold groupLabel
      rw [List.getD_eq_getElem?_getD, List.getElem?_eq_none (by simp [laned]; omega)]
      simp
  refine ⟨?_, ?_, by decide +kernel, by decide +kernel, by decide +kernel, ?_⟩
  · unfold OrderReady; decide +kernel
  · intro i j k hij hjk hi hk
    simp only [none15, or_false, List.mem_cons, List.not_mem_nil] at hi hk
    omega
  · intro h
    have := h 60 61 62 (by decide) (by decide) (.inl (by decide)) (.inl (by decide))
    simp [none15] at this

def load (index : Nat) (values : List (Nat × Nat)) : List Byte := order 5 ((0x10, index) :: values)

/-- Labels 15 and 16, the label in use and one that is not; profile 8, a load that is kept whole, and one that is moved. -/
theorem witness_LaneReleaseAndProfileLoad :
    (∀ o ∈ [order 7 [(0x10, 16)], order 7 [(0x10, 15)], order 7 [(0x10, 2)]],
      OrderReady (ready o laned) kindLaneRelease o ∧ (ready o laned).asm.analysing = false) ∧
    some 15 ∉ laned.lanes.groups ∧ some 2 ∈ laned.lanes.groups ∧
    (∀ o ∈ [load 8 [], load 7 [], load 7 [(0x11, 1), (0x12, 255), (0x13, 16), (0x14, 4), (0x15, 7), (0x16, 64), (0x18, 1)]],
      OrderReady (ready o laned) kindProfileLoad o ∧ (ready o laned).asm.analysing = false) ∧
    (clampProfile (load 7 [(0x11, 1), (0x12, 255), (0x13, 16), (0x14, 4), (0x15, 7), (0x16, 64), (0x18, 1)])).2 = 0 ∧
    (clampProfile (load 7 [])).2 ≠ 0 := by unfold OrderReady; decide +kernel

/-! Plate Scheduler -/

/-- The plan of chapter 6 and a window end at the least and at the greatest distance from S. -/
theorem witness_ChosenCut : plan.fits = true ∧ 100000 + plan.pitch ≤ 102400 ∧ 112800 ≤ 100000 + plan.nominal ∧
    PlateKind.nominal ≠ .short ∧ PlateKind.nominal ≠ .cullet ∧ avoidSet plan 100000 112800 [] = [] ∧
    (chooseCut plan 100000 112800 .nominal [{ y0 := 109500, y1 := 109540 }]).kind = .short ∧
    (chooseCut plan 100000 112800 .nominal [{ y0 := 100200, y1 := 100300 }]).kind = .cullet := by decide

/-- A tracker of group 0 whose zone began below the cut 92, and one that begins at it; the cuts A + 1 and A + 2. -/
def gapped : State :=
  let zone (y : Nat) : Option GapZone := some { y0 := y, last := some y, continuation := false }
  { base with blobs := { base.blobs with gaps := zone 91 :: zone 92 :: List.replicate 62 none } }

theorem witness_DecisionTaken : gapped.blobs.gaps.length = 64 ∧ 91 ≤ gapped.asm.a + 1 ∧ gapped.asm.a + 1 < 92 ∧
    (splitGaps 92 false gapped).1.map (fun f => (f.c0, f.y0, f.y1, f.continued)) = [(0, 91, 91, true)] := by decide +kernel

def fullQueue : List Plate := (List.range 32).map (fun i => plateOf (8 + i) (1000 * i) (1000 * i + 1000) (8 + i) .sealed)

theorem witness_ForcedAndStarved : plan.fits = true ∧
    (∀ s ∈ [scheduled 289799 [], scheduled 289800 [], scheduled 289800 fullQueue, scheduled 289800 (fullQueue.take 31)],
      s.sched.plan = some plan ∧ s.sched.active = true) ∧
    forced (scheduled 289799 []) plan = false ∧ forced (scheduled 289800 []) plan = true ∧
    forced (scheduled 289800 fullQueue) plan = true ∧ (scheduled 289800 (fullQueue.take 31)).sched.queue.length < 32 ∧
    32 ≤ (scheduled 289800 fullQueue).sched.queue.length := by decide +kernel

/-- A FINAL plate with a cut point of 189,300 whose seal failed stands alone in the queue. -/
def failedPlate : Plate := { plateOf 412 100000 109300 1012 .sealFailed with final := true }

/-- The failed head's cut point is reached; a plate in slot 20 changes its state when its ticket is read, or when the null
rewrite of its slot is answered: the head is examined, and retires (R140). -/
def behindFailed (st : PlateState) : State :=
  let s := scheduled 189300 [failedPlate, plateOf 413 109300 122100 1044 st]
  let write := if st = .sealed then SlotWrite.none else .nulling
  { s with
    tickets := s.tickets.set 20 { SlotRec.blank with occupant := some 413, write := write }
    arb := { s.arb with ownOut := if st = .sealed then [] else [own (.nullWrite 20 1012 false false) (.write [])] } }

theorem test_head_examined :
    (after (.ticketRead { addr := 0x40500, tag := 9, len := 64 }) (behindFailed .sealed)).sched.queue.map
      (fun p => (p.num, p.state)) = [(413, .taken)] ∧
    (after (.nullWriteResponse 20 true) (behindFailed .decided)).sched.queue.map (fun p => (p.num, p.state)) =
      [(413, .sealing)] := by decide +kernel

theorem witness_SealFailedCutPoint : ∀ e ∈ [189299, 189300],
    (scheduled e [failedPlate]).sched.queue = [failedPlate] ∧ failedPlate.state = .sealFailed ∧ failedPlate.final = true ∧
    (scheduled e [failedPlate]).sched.active = true ∧ (scheduled e [failedPlate]).tally.counts.length = tallyPlaces ∧
    slotOf (scheduled e [failedPlate]) failedPlate.seq < (scheduled e [failedPlate]).tickets.length ∧
    evaluate (retirePlate failedPlate (scheduled e [failedPlate])) = retirePlate failedPlate (scheduled e [failedPlate]) ∧
    (189299 < cutPoint failedPlate ∧ cutPoint failedPlate ≤ 189300) := by decide +kernel

/-! Grader -/

theorem witness_PointsGrade : 0 < 1 ∧ 1 < 2 ∧ 2 < 3 ∧ (∀ q ∈ piece8 [],
    touches 125010 129800 q (flaw8 .dense 8 0 4863 129799 129799) = true ∧ (flaw8 .dense 8 0 4863 129799 129799).source = .dense) ∧
    piece8 [] ≠ [] := by decide +kernel

theorem witness_PieceArea : (newPieces [{ label := 2, kind := .sale, first := 0, count := 64 }] 0 65535).map (·.area) = [1073725440] ∧
    ({ label := 1, kind := .edge, first := 0, count := 3 } : LaneEntry).kind = .edge := by decide +kernel

/-! Ticket Unit -/

/-- Plate 40 is SEALING in slot 8; its seal is granted. The miss point is 189,812. -/
def sealing (e : Nat) : State :=
  granted (.sealWrite 8 40 40 false) (.write nullTicket)
    (modSlot 8 (fun r => { r with occupant := some 40, write := .sealing }) (scheduled e [plateOf 40 100000 109300 40 .sealing]))

def nulling : State := granted (.nullWrite 8 40 false false) (.write nullTicket) (modSlot 8 (fun r => { r with write := .nulling }) base)

def decided : State := scheduled 100 [plateOf 40 100000 109300 40 .decided]

theorem witness_SealAndNullResponses :
    (∀ e, Awaited (sealing e) (Purpose.seals 8) (own (.sealWrite 8 40 40 false) (.write nullTicket)) []) ∧
    (∀ e ∈ [189811, 189812], (slotRec (sealing e) 8).nullPending = none ∧
      plateNumbered (sealing e) 40 = some (plateOf 40 100000 109300 40 .sealing)) ∧
    189811 < 109300 + 80000 + 512 ∧ 109300 + 80000 + 512 ≤ 189812 ∧
    Awaited nulling (Purpose.nulls 8) (own (.nullWrite 8 40 false false) (.write nullTicket)) [] ∧ (slotRec nulling 8).nullPending = none ∧
    plateNumbered decided 40 = some (plateOf 40 100000 109300 40 .decided) ∧
    (slotRec decided (40 % decided.window.ticket.count)).write = .none ∧
    (slotRec decided (40 % decided.window.ticket.count)).nullPending = none ∧ 40 < 2 ^ 32 :=
  ⟨fun _ => awaited_here rfl rfl rfl, by decide +kernel, by decide, by decide, awaited_here rfl rfl rfl, by decide +kernel⟩

/-- A plate in the last slot, in a state; and no plate. -/
def lastSlot (st : PlateState) : State :=
  modSlot 31 (fun r => { r with occupant := some 40 }) (scheduled 100 [plateOf 40 100000 109300 31 st])

def cutterRead : UpRead := { addr := 0x40000 + 64 * 31, tag := 9, len := 64 }

theorem witness_TicketRead : ∀ st ∈ [PlateState.sealed, .taken, .sealing],
    enabled (lastSlot st) = true ∧ (lastSlot st).window.ticket.valid = true ∧
    (lastSlot st).tickets.length = (lastSlot st).window.ticket.count ∧ 31 < (lastSlot st).tickets.length ∧
    cutterRead.tag = (lastSlot st).window.ticket.tag ∧ cutterRead.addr = (lastSlot st).window.ticket.base + 64 * 31 ∧
    cutterRead.len = 64 ∧ occupant (lastSlot st) 31 = some (plateOf 40 100000 109300 31 st) ∧
    (offered (lastSlot st) 31 = false ↔ st = .sealing) := by decide +kernel

/-- The last body byte of the last slot, and the first and the last byte of the status block. -/
theorem witness_GuardedWrites : Quiet base ∧
    (let w : UpWrite := { addr := 0x40000 + 64 * 31 + 0x2F, tag := 0, data := [none] }
     bodyRefused base w = true ∧ statusRefused base w = false) ∧
    ∀ a ∈ [0x100800, 0x1008FF], bodyRefused base { addr := a, tag := 0, data := [none] } = false ∧
      statusRefused base { addr := a, tag := 0, data := [none] } = true :=
  ⟨quiet_of_calm (by decide +kernel), by decide +kernel, by decide +kernel⟩

/-- A status write of slot 31 with a code, an echo and a measured position of one byte above 189,300 - 84 = 0x02E330. -/
def statusBytes (c echo low : Byte) : List Byte := [c, 0, 0, 0, echo, 0, 0, 0, low, 0xE3, 0x02, 0, 0, 0, 0, 0]

def statusW (c echo low : Byte) : UpWrite :=
  { addr := 0x40000 + 64 * 31 + 0x30, tag := 9, data := (statusBytes c echo low).map some }

def statusWs : List UpWrite :=
  [statusW 1 31 0x60, statusW 1 31 0x88, statusW 1 31 0x5F, statusW 1 31 0x89, statusW 2 31 0, statusW 1 30 0, statusW 3 31 0]

/-- Slot 31 without an occupant, its retired sequence 31. -/
def retiredSlot : State := modSlot 31 (fun r => { r with retired := some 31 }) base

/-- A MISSED plate under RETIRE in the last slot; and a plate of sequence 63 in it, its retired sequence 31. -/
def retireSlot : State :=
  modPlate 40 (fun p => { p with missAction := .retire }) (lastSlot .missed)

def nextSlot (st : PlateState) : State :=
  modSlot 31 (fun r => { r with retired := some 31 }) (modPlate 40 (fun p => { p with seq := 63 }) (lastSlot st))

/-- The cut point is 189,300 = 0x02E374, the tolerance 20: 0x60 to 0x88 lie within it, 0x5F and 0x89 beyond it. -/
theorem witness_StatusWrite :
    (∀ s ∈ [lastSlot .sealed, lastSlot .taken, lastSlot .missed, lastSlot .cut, lastSlot .skipped, lastSlot .sealFailed,
        lastSlot .decided, lastSlot .sealing, retireSlot, nextSlot .sealed, retiredSlot], calm s = true ∧ ticketsGuarded s = true ∧
      ∀ w ∈ statusWs, w.tag = s.window.ticket.tag ∧ statusSlot s w.addr w.data.length = some 31 ∧ statusRefused s w = false ∧
        streamOf s w = none ∧ ∀ f ∈ controlFields, strobedIn w (anchorBase s + f.1) f.2 = false) ∧
    (∀ c echo low, (statusW c echo low).data = (statusBytes c echo low).map some ∧ (statusBytes c echo low).length = 16) ∧
    (occupant retireSlot 31).map (fun p => (p.state, p.missAction, p.seq)) = some (.missed, .retire, 31) ∧
    ((occupant (nextSlot .sealed) 31).map (·.seq) = some 63 ∧ (slotRec (nextSlot .sealed) 31).retired = some 31 ∧
      (slotRec (lastSlot .decided) 31).retired = none) ∧
    (∀ st ∈ [PlateState.sealed, .taken, .missed, .cut, .skipped, .sealFailed, .decided, .sealing],
      occupant (lastSlot st) 31 = some (plateOf 40 100000 109300 31 st) ∧ (plateOf 40 100000 109300 31 st).missAction = .keep) ∧
    occupant retiredSlot 31 = none ∧ (slotRec retiredSlot 31).retired = some 31 ∧
    (∀ x ∈ [(0x60 : Byte), 0x88], 189300 ≤ fieldAt (statusBytes 1 31 x) 8 6 + 20 ∧ fieldAt (statusBytes 1 31 x) 8 6 ≤ 189320) ∧
    fieldAt (statusBytes 1 31 0x5F) 8 6 + 20 < 189300 ∧ 189320 < fieldAt (statusBytes 1 31 0x89) 8 6 := by
  refine ⟨by decide +kernel, fun _ _ _ => ⟨rfl, rfl⟩, by decide +kernel, by decide +kernel, by decide +kernel, by decide +kernel,
    by decide +kernel, by decide +kernel, by decide +kernel⟩

theorem witness_CutMissed : ∀ st ∈ [PlateState.sealed, .taken, .cut],
    plateNumbered (scheduled 189812 [plateOf 40 100000 109300 40 st]) 40 = some (plateOf 40 100000 109300 40 st) ∧
    109300 + 80000 + 512 ≤ (scheduled 189812 []).enc.e ∧ (scheduled 189811 []).enc.e < 109300 + 80000 + 512 := by decide +kernel

/-! Traffic Classifier, arbiter and anchor page -/

def plainW : UpWrite := { addr := 0, tag := 3, data := [some 1] }

def passing (t : PassTxn) : State := { base with arb := { base.arb with passOut := [t] } }

/-- A read that ends at the ticket ring's first byte, and one that begins behind its last. -/
theorem witness_PassThrough : Quiet base ∧ PlainWrite base plainW ∧ streamOf base plainW = none ∧
    0x40000 - 16 + 16 ≤ base.window.ticket.base ∧ base.window.ticket.base + 64 * base.tickets.length ≤ 0x40800 ∧
    Quiet (passing (.write plainW [])) ∧ (passing (.write plainW [])).arb.passOut = [] ++ .write plainW [] :: [] ∧
    Quiet (passing (.read cutterRead [])) ∧ (passing (.read cutterRead [])).arb.passOut = [] ++ .read cutterRead [] :: [] ∧
    (∀ x ∈ ([] : List PassTxn), x.isWrite 3 = false ∧ x.isRead 9 = false) ∧ (nullTicket).length = cutterRead.len :=
  ⟨quiet_of_calm (by decide +kernel), by unfold PlainWrite; decide +kernel, by decide +kernel, by decide +kernel, by decide +kernel,
    quiet_of_calm (by decide +kernel), rfl, quiet_of_calm (by decide +kernel), rfl, by simp, by decide +kernel⟩

def queued (own : List OwnTxn) (pass : List PassTxn) (n : Nat) : State :=
  { base with arb := { base.arb with ownWaiting := own, passWaiting := pass, count := n } }

/-- Counts 7 and 8; a log write behind a status write and before another log write. -/
theorem witness_ArbiterGrant :
    (queued [] [.write plainW []] 0).arb.passWaiting = .write plainW [] :: [] ∧ (queued [] [.write plainW []] 0).arb.ownWaiting = [] ∧
    (∀ n ∈ [7, 8], (queued [own .log (.read 0)] [.write plainW []] n).arb.ownWaiting ≠ [] ∧
      ((queued [own .log (.read 0)] [.write plainW []] n).arb.count < 8 ↔ n = 7)) ∧
    (let t := own .log (.read 0)
     (queued [own .status (.read 0), t, t] [] 0).arb.ownWaiting = [own .status (.read 0)] ++ t :: [t] ∧
      (∀ y ∈ [own .status (.read 0)], t.purpose.rank < y.purpose.rank) ∧ ∀ y ∈ [t], t.purpose.rank ≤ y.purpose.rank) ∧
    base.arb.passWaiting = [] ∧ base.arb.ownWaiting = [] := by decide +kernel

/-- A write of some bytes to the anchor page. -/
def anchorW (off : Nat) (bytes : List Byte) : UpWrite := { addr := 0x100000 + off, tag := 0, data := bytes.map some }

def disabled : State := { base with anchor := { base.anchor with control := 0 } }

def planned : State := { disabled with sched := { disabled.sched with plan := some plan } }

theorem witness_Enable : Quiet disabled ∧ FieldWrite disabled (control 1) 0x00 ∧ enabled disabled = false ∧
    (latched (control 1) (anchorBase disabled + 0x00) 4 disabled.anchor.control.toNat).testBit 0 = true ∧
    (latched (control 1) (anchorBase disabled + 0x00) 4 disabled.anchor.control.toNat).testBit 1 = false ∧
    disabled.sched.plan = none ∧
    Quiet planned ∧ FieldWrite planned (control 1) 0x00 ∧ enabled planned = false ∧ planned.sched.plan.isSome = true ∧
    planned.window.ticket.valid = true ∧ planned.sched.active = false := by
  refine ⟨quiet_of_calm (by decide +kernel), ?_, by decide +kernel, by decide +kernel, by decide +kernel, by decide +kernel,
    quiet_of_calm (by decide +kernel), ?_, by decide +kernel⟩ <;> (unfold FieldWrite; decide +kernel)

theorem witness_Disable : (∀ c, base.orders.phase ≠ .completing c) ∧ Quiet base ∧ FieldWrite base (control 0) 0x00 ∧ enabled base = true ∧
    (latched (control 0) (anchorBase base + 0x00) 4 base.anchor.control.toNat).testBit 0 = false :=
  ⟨(fun _ h => nomatch h), quiet_of_calm (by decide +kernel), by unfold FieldWrite; decide +kernel, by decide +kernel⟩

def overflowed : State := { base with writer := { base.writer with overflow := true, lost := 4 } }

/-- The log is free, with one place left, and with none. -/
def logFree (unreadCount : Nat) : State :=
  { log0 with writer := { log0.writer with writeIndex := unreadCount, overflow := true, lost := 4 } }

theorem witness_LogClear : (∀ n ∈ [63, 64], calm (logFree n) = true ∧ FieldWrite (logFree n) (control 3) 0x00 ∧
      (logFree n).writer.overflow = true ∧ (logFree n).window.log.valid = true ∧ (logFree n).writer.inFlight = none ∧
      (1 ≤ logSize (logFree n) - unread (logFree n).writer ↔ n = 63)) ∧ ∀ s ∈ [base, overflowed], Quiet s ∧ FieldWrite s (control 3) 0x00 ∧
    (latched (control 3) (anchorBase s + 0x00) 4 s.anchor.control.toNat).testBit 0 = enabled s ∧
    (latched (control 3) (anchorBase s + 0x00) 4 s.anchor.control.toNat).testBit 1 = true ∧ s.window.log.valid = false := by
  have both : ∀ s ∈ [base, overflowed], calm s = true ∧ FieldWrite s (control 3) 0x00 ∧
    (latched (control 3) (anchorBase s + 0x00) 4 s.anchor.control.toNat).testBit 0 = enabled s ∧
    (latched (control 3) (anchorBase s + 0x00) 4 s.anchor.control.toNat).testBit 1 = true ∧ s.window.log.valid = false := by
    unfold FieldWrite; decide +kernel
  exact ⟨by unfold FieldWrite; decide +kernel, fun s h => ⟨quiet_of_calm (both s h).1, (both s h).2⟩⟩

/-- Ring size codes 6 and 7; a ring of 64 orders and the tails 63 and 64; an order current at head 0 and the tail 0. -/
theorem witness_OrderRing : Quiet base ∧ FieldWrite base (anchorW 0x08 [0, 0, 1, 0, 0, 0, 0, 0]) 0x08 ∧
    (∀ x ∈ [((0x10 : Nat), (6 : Byte)), (0x10, 7), (0x14, 63), (0x14, 64), (0x14, 0)], FieldWrite base (anchorW x.1 [x.2]) x.1) ∧
    (∀ v ∈ [(6 : Byte), 7], latched (anchorW 0x10 [v]) (anchorBase base + 0x10) 1 base.anchor.orderSize.toNat = v.toNat) ∧
    (∀ v ∈ [(63 : Byte), 64], latched (anchorW 0x14 [v]) (anchorBase base + 0x14) 4 base.anchor.orderTail.toNat = v.toNat) ∧
    ringSize base = 64 ∧ base.orders.phase = .idle ∧
    (let s := ready (order 0 []) base
     Quiet s ∧ FieldWrite s (anchorW 0x14 [0]) 0x14 ∧ s.orders.phase ≠ .idle ∧ s.orders.head = 0) := by
  refine ⟨quiet_of_calm (by decide +kernel), by unfold FieldWrite; decide +kernel, by unfold FieldWrite; decide +kernel,
    by decide +kernel, by decide +kernel, by decide +kernel, by decide +kernel, quiet_of_calm (by decide +kernel),
    by unfold FieldWrite; decide +kernel, by decide +kernel⟩

/-- LOG_READ at the log size of 64 behind the write index and one farther; a write to each of the other fields. -/
theorem witness_ControlFieldsLatched : Quiet log0 ∧
    (∀ x ∈ [((0x20 : Nat), [(0xFE : Byte), 0xFF, 0xFF, 0xFF]), (0x20, [0xFD, 0xFF, 0xFF, 0xFF]), (0x28, [0x1F]), (0x18, [0, 0, 1]),
      (0x24, [16]), (0x2C, [0x10]), (0x30, [0x0F])], FieldWrite log0 (anchorW x.1 x.2) x.1) ∧
    (let v := latched (anchorW 0x20 [0xFE, 0xFF, 0xFF, 0xFF]) (anchorBase log0 + 0x20) 4 log0.anchor.logRead.toNat
     (log0.writer.writeIndex + 2 ^ 32 - v) % 2 ^ 32 ≤ logSize log0) ∧
    (let v := latched (anchorW 0x20 [0xFD, 0xFF, 0xFF, 0xFF]) (anchorBase log0 + 0x20) 4 log0.anchor.logRead.toNat
     logSize log0 < (log0.writer.writeIndex + 2 ^ 32 - v) % 2 ^ 32) ∧
    (∀ k < 4, log0.cap.slots[k]? = some .free) ∧ 3 < 4 :=
  ⟨quiet_of_calm (by decide +kernel), by unfold FieldWrite; decide +kernel, by decide +kernel⟩

/-- OPEN blobs 41 and 42 and a STUB, their previous-line hulls at columns 103 to 111, 113 to 114 and 100 to 101. -/
def blob41 : Blob := merged

def blob42 : Blob := { merged with num := 42, prev := some (113, 114) }

def stub40 : Stub := { num := 40, polarity := .dark, last := 1001, prev := (100, 101), gap := 2 }

/-- A run that reaches none of them, one that just reaches blob 41, both blobs, and blob 41 and the STUB. -/
theorem witness_RunsAreMaximal : formRuns 0 none [.flagged .dark 30] = [newRun 0 .dark 30] ∧
    ([.flagged .dark 30] : List Mark)[0]? = some (.flagged .dark 30) ∧
    (∀ x ∈ [(dark 116 120 30 90, false, false, false), (dark 99 99 30 30, false, false, true), (dark 112 112 30 30, true, true, false),
        (dark 102 105 30 90, true, false, true), (dark 103 104 30 60, true, false, false)],
      qualifies 1002 x.1 (.opened blob41) = x.2.1 ∧ qualifies 1002 x.1 (.opened blob42) = x.2.2.1 ∧
      qualifies 1002 x.1 (.stub stub40) = x.2.2.2) ∧
    blob41.num < blob42.num ∧ .free ∉ [BlobEntry.opened blob41] ∧
    qualifies 1005 (dark 103 104 30 60) (.opened blob41) = false := by decide

/-! Order Unit -/

def phased (p : OrderPhase) (s : State) : State := { s with orders := { s.orders with phase := p } }

def fetching : State := granted .orderFetch (.read 64) (phased .fetching base)

/-- Orders without a not-before line, for the line A = 90 itself, and for the line after it. -/
theorem witness_OrderFetchAndCompletion :
    (let s := { base with anchor := { base.anchor with orderTail := 1 } }
     enabled s = true ∧ s.orders.phase = .idle ∧ s.orders.head ≠ orderTail s) ∧
    (Awaited fetching (· == .orderFetch) (own .orderFetch (.read 64)) [] ∧ fetching.orders.phase = .fetching) ∧
    (order 0 [(1, 1), (8, 90)]).length = 64 ∧ (∀ l ∈ orderNotBefore (order 0 [(1, 1), (8, 90)]), l ≤ fetching.asm.a) ∧
    (∃ l ∈ orderNotBefore (order 0 [(1, 1), (8, 91)]), fetching.asm.a < l) ∧
    (let s := granted .completion (.write [1, 0, 0, 0]) (phased (.completing 1) base)
     Awaited s (· == .completion) (own .completion (.write [1, 0, 0, 0])) [] ∧ s.orders.phase = .completing 1) := by
  refine ⟨by decide +kernel, ⟨awaited_here rfl rfl rfl, rfl⟩, by decide +kernel, by decide +kernel,
    ⟨91, by decide +kernel, by decide +kernel⟩, awaited_here rfl rfl rfl, rfl⟩

theorem witness_NopAndBadOrder : OrderReady (ready (order 0 []) base) kindNop (order 0 []) ∧
    (ready (order 13 []) base).orders.phase = .ready (order 13 []) ∧ 12 < orderKind (order 13 []) ∧ 65535 < 65536 :=
  ⟨orderReady_ready _ _ _ (by decide +kernel), rfl, by decide +kernel, by decide⟩

/-- The last word of the address space, the first address beyond it and an address that is no multiple of 4; a wait for
nothing, a wait for a status block write, and for a seal write in flight. -/
theorem witness_Fence :
    (∀ o ∈ [order 1 (field 0x10 8 (2 ^ 40 - 4)), order 1 (field 0x10 8 (2 ^ 40)), order 1 [(0x10, 2)]],
      OrderReady (ready o base) kindFence o) ∧
    fieldAt (order 1 (field 0x10 8 (2 ^ 40 - 4))) 0x10 8 = 2 ^ 40 - 4 ∧
    fieldAt (order 1 (field 0x10 8 (2 ^ 40))) 0x10 8 = 2 ^ 40 ∧ fieldAt (order 1 [(0x10, 2)]) 0x10 8 % 4 ≠ 0 ∧
    (∀ n ∈ [0, 1], (phased (.fenceWait 64 7 true n) base).orders.phase = .fenceWait 64 7 true n ∧
      (fenceClear base n = true ↔ n = 0)) ∧
    fenceClear (granted (.sealWrite 8 40 40 true) (.write nullTicket) base) 0 = false ∧
    ((∀ g ∈ base.writer.buffer, g.fenced = false) ∧ (∀ g ∈ base.writer.inFlight, g.fenced = false) ∧
      base.arb.ownWaiting ++ base.arb.ownOut = [] ∧ base.sched.queue = [] ∧
      ∀ r ∈ base.tickets, r.nullPending = none) ∧
    (let s := granted .fence (.write [7, 0, 0, 0]) (phased (.fenceWriting 64 true) base)
     Awaited s (· == .fence) (own .fence (.write [7, 0, 0, 0])) [] ∧ s.orders.phase = .fenceWriting 64 true) := by
  refine ⟨by unfold OrderReady; decide +kernel, by decide +kernel, by decide +kernel, by decide +kernel, by decide +kernel,
    by decide +kernel, by decide +kernel, awaited_here rfl rfl rfl, rfl⟩

/-- A stream entry: ring of 4 slots of 1,024 bytes at a base of so many 64 KiB, policy SKIP, window 0 to 16. -/
def entryBytes (hi : Nat) : List Byte :=
  order 0 ([(2, hi)] ++ field 0x08 2 1024 ++ field 0x0A 2 4 ++ field 0x10 2 16 ++ [(0x13, 1), (0x14, 10), (0x15, 24), (0x18, 7)])

def refreshing (k len : Nat) : State := granted .tableFetch (.read len) (phased (.refreshFetch k) base)

/-- An entry 9 for a log of 64 records at 0x80000. -/
def logEntry : List Byte := order 0 [(2, 8)]

def logBusy (s : State) : State :=
  { s with writer := { s.writer with inFlight := some { records := [], lostCount := none, fenced := false } } }

/-- Selectors 12, 13 and 14, and a table that ends at the address space's end and one that ends beyond it; entries of the OFF
stream 7 that are valid, that clash with the ticket ring at 0x40000 and that are invalid, and of the RUNNING stream 0. -/
theorem witness_Refresh :
    (∀ k ∈ [12, 13, 14], OrderReady (ready (order 2 [(0x10, k)]) base) kindRefresh (order 2 [(0x10, k)]) ∧
      fieldAt (order 2 [(0x10, k)]) 0x10 1 = k) ∧
    (let s := { base with anchor := { base.anchor with tablePtr := 0xFFFFFFFCC0 } }
     tablePtr s + 832 ≤ 2 ^ 40 ∧ tablePtr s + 64 + 832 > 2 ^ 40) ∧
    (∀ n, Awaited (refreshing n 64) (· == .tableFetch) (own .tableFetch (.read 64)) []) ∧
    7 < base.window.streams.length ∧ (stream (refreshing 7 64) 7).state = .off ∧ (stream (refreshing 0 64) 0).state ≠ .off ∧
    (∀ h ∈ [1, 4, 0], (entryBytes h).length = 64) ∧ (parseStream (entryBytes 1)).valid = true ∧
    (base.window.ticket.valid && ringsMeet (parseStream (entryBytes 1)) base.window.ticket) = false ∧
    (base.window.ticket.valid && ringsMeet (parseStream (entryBytes 4)) base.window.ticket) = true ∧
    (parseStream (List.replicate 64 0)).valid = false ∧
    Awaited (refreshing 13 832) (· == .tableFetch) (own .tableFetch (.read 832)) [] ∧
    partInUse (refreshing 9 64) 9 = false ∧ (refreshing 9 64).writer.inFlight = none ∧
    (∀ k ∈ [9, 13], (logBusy (refreshing k 64)).writer.inFlight ≠ none) ∧
    ((refreshedWindow (refreshing 9 64) 9 logEntry).log.valid = true ∧ (refreshing 9 64).writer.buffer = [] ∧
      (refreshing 9 64).writer.lost = 0 ∧ 2 ^ 32 - 1 < 2 ^ 32) := by
  refine ⟨by unfold OrderReady; decide +kernel, by decide +kernel, fun _ => awaited_here rfl rfl rfl, by decide +kernel,
    by decide +kernel, by decide +kernel, by decide +kernel, by decide +kernel, by decide +kernel, by decide +kernel,
    by decide +kernel, awaited_here rfl rfl rfl, by decide +kernel, by decide +kernel, by decide +kernel, by decide +kernel⟩

/-- A ticket ring of 32 slots at an address. -/
def ticketBytes (addr : Nat) : List Byte := order (addr % 256) (field 0 8 addr ++ field 0x08 2 32)

/-- A window table of which entries 7 and 8 are given. -/
def tableWith (seven eight : List Byte) : List Byte := List.replicate (8 * 64) 0 ++ seven ++ eight ++ List.replicate (3 * 64) 0

/-- REFRESH ALL of entries 7 and 8 (R180): the ticket ring in the last 64 bytes of the stream ring, which makes both invalid; the
stream entry invalid by itself too, by its RECOVER byte; the ticket ring in the anchor page too; and the ticket ring right
behind the stream ring, where both are valid. -/
theorem test_refresh_all_overlapping_rings :
    [(entryBytes 4, 0x40FC0), (order 0 ((0x16, 2) :: [(2, 4), (9, 4), (10, 4), (0x10, 16), (0x14, 10), (0x15, 24)]), 0x40000),
      (entryBytes 0x10, 0x100000), (entryBytes 4, 0x41000)].map (fun x =>
        let w := (after (.refreshFetchDone { okay := true, data := tableWith x.1 (ticketBytes x.2) }) (refreshing 13 832)).window
        (partValid w 7, partValid w 8)) =
    [(false, false), (false, false), (false, false), (true, true)] := by decide +kernel

/-- Stream 7's new ring and the new ticket ring overlap, one of them or neither invalid by itself; entry 8 replaced alone meets
the ring of the valid stream 0 at 0x10000, in its first and its last 64 bytes. -/
theorem witness_Refresh_rings :
    (∀ k, Awaited (refreshing k 832) (· == .tableFetch) (own .tableFetch (.read 832)) []) ∧
    (∀ k, Awaited (refreshing k 64) (· == .tableFetch) (own .tableFetch (.read 64)) []) ∧
    (∀ x ∈ [(entryBytes 4, 0x40FC0), (entryBytes 0x10, 0x100000), (entryBytes 4, 0x3F840)],
      (tableWith x.1 (ticketBytes x.2)).length = 832 ∧
      ringsMeet (parseStream (partBytes 13 7 (tableWith x.1 (ticketBytes x.2))))
        (parseTicket (refreshing 13 832) (partBytes 13 8 (tableWith x.1 (ticketBytes x.2)))) = true) ∧
    7 < (refreshing 13 832).window.streams.length ∧ (stream (refreshing 13 832) 7).state = .off ∧
    (refreshing 13 832).sched.queue = [] ∧ (refreshing 8 64).sched.queue = [] ∧ win.valid = true ∧
    win ∈ (refreshing 8 64).window.streams ∧
    ∀ a ∈ [0x10FC0, 0xF840], (ticketBytes a).length = 64 ∧ ringsMeet win (parseTicket (refreshing 8 64) (ticketBytes a)) = true := by
  refine ⟨fun _ => awaited_here rfl rfl rfl, fun _ => awaited_here rfl rfl rfl, by decide +kernel, by decide +kernel,
    by decide +kernel, by decide +kernel, by decide +kernel, by decide +kernel, by decide +kernel, by decide +kernel⟩

def startOf (n : Nat) : List Byte := order 3 [(0x10, n)]

/-- Stream 7's columns end where the part's do, one column beyond, and where they meet stream 0's. -/
def spanned (first : Nat) : State :=
  let w7 := { win with base := 0x20000, tag := 8, colBase := first }
  ready (startOf 7) { base with window := { base.window with streams := base.window.streams.set 7 w7 } }

/-- Stream 7's entry with its ring where stream 0's ends, one slot before, at the anchor page, and with stream 0's tag. -/
def ringed (addr tag : Nat) : State :=
  ready (startOf 7) { base with window := { base.window with
    streams := base.window.streams.set 7 { win with base := addr, tag := tag, colBase := 100 } } }

/-- Each of stream 7's rings and tags fails one check: it meets stream 0's ring, it meets the anchor page, or the tag is
stream 0's. -/
theorem witness_Overlap : (∀ x ∈ [(0x11000, 7, false, false, true), (0x10C00, 8, true, false, false), (0x100000, 8, false, true, false)],
      let s := ringed x.1 x.2.1
      OrderReady s kindStreamStart (startOf 7) ∧ (stream s 7).state = .off ∧ (streamWindow s 7).valid = true ∧
      s.window.header.valid = true ∧ spanLast (streamWindow s 7) < 16384 ∧
      spanLast (streamWindow s 0) < spanFirst (streamWindow s 7) ∧
      overlaps (streamWindow s 7).base (ringBytes (streamWindow s 7)) (streamWindow s 0).base
        (ringBytes (streamWindow s 0)) = x.2.2.1 ∧
      overlaps (streamWindow s 7).base (ringBytes (streamWindow s 7)) (anchorBase s) 4096 = x.2.2.2.1 ∧
      decide ((streamWindow s 0).tag = (streamWindow s 7).tag) = x.2.2.2.2) ∧
    ∀ m < 8, m ≠ 0 → (stream base m).state = .off := by unfold OrderReady; decide +kernel

def stopOf (n : Nat) : List Byte := order 4 [(0x10, n)]

/-- STREAM STOP of a stream that holds sixteen writes, and of the active copy's stream. -/
theorem witness_StreamStop :
    (let s := ready (stopOf 0) (holding 15)
     OrderReady s kindStreamStop (stopOf 0) ∧ s.cap.copy = none ∧ s.toTake = [] ∧ (stream s 0).state ≠ .off ∧
      (∀ m, m ≠ 0 → (stream s m).hold = none) ∧
      (stream s 0).hold = some { start := 90, held := hw 96, queue := List.replicate 15 (hw 96) } ∧ PlainWrite s (hw 96)) ∧
    (let s := ready (stopOf 0) (copying .captureRow (.write []))
     OrderReady s kindStreamStop (stopOf 0) ∧ (∀ m, (stream s m).hold = none) ∧ s.toTake = [] ∧ s.cap.copy = some copy1 ∧
      (stream s 0).state ≠ .off ∧ ∃ cs ∈ copy1.streams, cs.stream = 0) := by
  refine ⟨⟨by unfold OrderReady; decide +kernel, by decide +kernel, by decide +kernel, by decide +kernel,
      others_hold_none rfl (by decide +kernel), by decide +kernel, by unfold PlainWrite; decide +kernel⟩,
    by unfold OrderReady; decide +kernel, (quiet_of_calm (s := base) (by decide +kernel)).1, rfl, rfl, by decide +kernel,
    by decide +kernel⟩

/-- The hold's writes go on, the held one first, and the copy's slot is free (R12, R163). -/
theorem test_stop_frees : (after .streamStop (ready (stopOf 0) (holding 2))).arb.passWaiting.length = 3 ∧
    (after .streamStop (ready (stopOf 0) (copying .captureRow (.write [])))).cap.slots[1]? = some .free := by decide +kernel

theorem witness_StreamStartStop :
    (∀ n ∈ [7, 8, 0], OrderReady (ready (startOf n) base) kindStreamStart (startOf n) ∧ fieldAt (startOf n) 0x10 1 = n) ∧
    (∀ f ∈ [16368, 16369, 15], OrderReady (spanned f) kindStreamStart (startOf 7) ∧ (stream (spanned f) 7).state = .off ∧
      (streamWindow (spanned f) 7).valid = true ∧ (spanned f).window.header.valid = true) ∧
    spanLast (streamWindow (spanned 16368) 7) < 16384 ∧ 16384 ≤ spanLast (streamWindow (spanned 16369) 7) ∧
    (∀ m < 8, m ≠ 7 → (stream (spanned 16368) m).state ≠ .off →
      (spanLast (streamWindow (spanned 16368) 7) < spanFirst (streamWindow (spanned 16368) m) ∨
        spanLast (streamWindow (spanned 16368) m) < spanFirst (streamWindow (spanned 16368) 7)) ∧
      overlaps (streamWindow (spanned 16368) 7).base (ringBytes (streamWindow (spanned 16368) 7))
        (streamWindow (spanned 16368) m).base (ringBytes (streamWindow (spanned 16368) m)) = false ∧
      (streamWindow (spanned 16368) m).tag ≠ (streamWindow (spanned 16368) 7).tag) ∧
    overlaps 0x20000 (ringBytes (streamWindow (spanned 16368) 7)) (anchorBase (spanned 16368)) 4096 = false ∧
    spanFirst (streamWindow (spanned 15) 7) ≤ spanLast (streamWindow (spanned 15) 0) ∧
    (stream (ready (startOf 0) base) 0).state ≠ .off ∧
    (streamWindow (ready (startOf 7) { base with window := Window.blank }) 7).valid = false ∧
    (∀ n ∈ [7, 8, 0], OrderReady (ready (order 4 [(0x10, n)]) base) kindStreamStop (order 4 [(0x10, n)]) ∧
      calm (ready (order 4 [(0x10, n)]) base) = true) ∧ (stream base 7).state = .off := by
  refine ⟨by unfold OrderReady; decide +kernel, by unfold OrderReady; decide +kernel, by decide +kernel, by decide +kernel,
    by decide +kernel, by decide +kernel, by decide +kernel, by decide +kernel, by decide +kernel,
    by unfold OrderReady; decide +kernel, by decide +kernel⟩

/-- A table block: rules of polarity ANY but for rule `i`'s, limits 1, 2 and 3, and a coverage cap. -/
def tableBlock (i polarity cap : Nat) : List Byte :=
  (List.range 512).map (fun j =>
    if j = 16 * i then BitVec.ofNat 8 polarity
    else if j < 112 ∧ j % 16 = 0 then 3
    else if j = 0xC4 then 1 else if j = 0xC6 then 2 else if j = 0xC8 then 3 else if j = 0xCE then BitVec.ofNat 8 cap else 0)

def goodTable (data : List Byte) : Bool :=
  let g := parseGrades data
  decide (g.prime < g.standard) && decide (g.standard < g.second) && decide (1 ≤ g.cap ∧ g.cap ≤ 4) &&
    decide (g.bandLines ≤ 1023) && (List.range 7).all (fun i => decide (1 ≤ fieldAt data (16 * i) 1) && decide (fieldAt data (16 * i) 1 ≤ 3))

/-- The last block of the address space, one that ends 16 bytes beyond it, and one at no multiple of 16; a good table, a
polarity of 4 and a cap of 5. -/
theorem witness_TableLoad :
    (∀ a ∈ [2 ^ 40 - 512, 2 ^ 40 - 496, 8], OrderReady (ready (order 8 (field 0x10 8 a)) base) kindTableLoad (order 8 (field 0x10 8 a)) ∧
      fieldAt (order 8 (field 0x10 8 a)) 0x10 8 = a) ∧
    (let s := granted .tableLoadFetch (.read 512) (phased .tableFetch base)
     Awaited s (· == .tableLoadFetch) (own .tableLoadFetch (.read 512)) [] ∧ s.orders.phase = .tableFetch) ∧
    (∀ b ∈ [tableBlock 6 1 4, tableBlock 6 4 4, tableBlock 6 1 5], b.length = 512) ∧ goodTable (tableBlock 6 1 4) = true ∧
    goodTable (tableBlock 6 4 4) = false ∧ goodTable (tableBlock 6 1 5) = false := by
  refine ⟨by unfold OrderReady; decide +kernel, ⟨awaited_here rfl rfl rfl, rfl⟩, by decide +kernel, by decide +kernel,
    by decide +kernel, by decide +kernel⟩

/-- The plan of chapter 6 as an order, with a nominal length. -/
def planOrder (nominal : Nat) : List Byte :=
  order 9 (field 0x10 2 nominal ++ field 0x12 2 4000 ++ field 0x14 2 2400 ++ field 0x16 2 200 ++ field 0x18 2 4000
    ++ field 0x1A 4 80000 ++ field 0x1E 2 2000 ++ field 0x20 2 1000 ++ field 0x22 2 512
    ++ [(0x24, 20), (0x25, 1), (0x26, 2), (0x27, 2)])

/-- Nominal lengths of 4,000 (good) and 3,999 (not); the scheduler active, inactive with entry 8 valid, and with it invalid. -/
theorem witness_PlanSet :
    (∀ n ∈ [4000, 3999], OrderReady (ready (planOrder n) base) kindPlanSet (planOrder n) ∧
      ((parsePlan (planOrder n)).isSome = true ↔ n = 4000)) ∧
    (let s := ready (planOrder 4000) base
     s.sched.active = false ∧ enabled s = true ∧ s.window.ticket.valid = true) ∧
    (let s := ready (planOrder 4000) { base with window := Window.blank }
     s.sched.active = false ∧ s.window.ticket.valid = false) ∧
    (ready (planOrder 4000) (scheduled 100 [])).sched.active = true := by
  refine ⟨by unfold OrderReady; decide +kernel, by decide +kernel, by decide +kernel, by decide +kernel⟩

theorem witness_CutRequestAndRestart :
    (∀ s ∈ [base, scheduled 100 [], restart0], OrderReady (ready (order 10 []) s) kindCutRequest (order 10 []) ∧
      OrderReady (ready (order 11 []) s) kindRestart (order 11 [])) ∧
    (base.sched.request = none ∧ base.sched.active = false ∧ base.sched.queue = []) ∧
    (scheduled 100 []).sched.request = none ∧ restart0.sched.request ≠ none ∧
    restart0.sched.active = true ∧ restart0.sched.plan = some plan ∧
    (restart0.sched.queue.getLast?.map (·.cut)) = some 645900 := by
  refine ⟨by unfold OrderReady; decide +kernel, by decide +kernel, by decide +kernel, by decide +kernel, by decide +kernel,
    by decide +kernel, by decide +kernel⟩

/-- A flaw that an abandoned plate was offered is not offered to the plates decided in its place (R118, R153). -/
theorem test_spent_flaw :
    let f : ListedFlaw := { num := 1, source := .blob, cls := 2, y0 := 630000, y1 := 646000, c0 := 0, c1 := 3, avoid := false, spent := false }
    let r := restartPlates plan { restart0 with sched := { restart0.sched with flaws := [f] } }
    r.sched.flaws.map (·.spent) = [true] := by decide +kernel

/-! Tally Unit, Capture Engine, Record Writer -/

def reportable (r : ReportState) (valid : Bool) : State :=
  { base with tally := { base.tally with report := r }
              window := { base.window with report := { valid := valid, base := 0x90000, count := 8 } } }

def reporting (n : Nat) : State :=
  { reportable (.writing 5) true with arb := { base.arb with ownOut := List.replicate n (own .report (.write [])) } }

/-- One burst in flight fails while another is in flight and a third waits: the third is taken back, and REPORT_FAILED
follows when the second has ended, whatever its response (R171). -/
def reportFailing : State :=
  let s := reporting 2
  after (.reportWriteResponse [false]) { s with arb := { s.arb with ownWaiting := [own .report (.write [])] } }

theorem test_report_fails : reportFailing.tally.report = .failing 5 0x40000 ∧ reportFailing.arb.ownWaiting = [] ∧
    reportFailing.arb.ownOut.length = 1 ∧ reportFailing.writer.notices.fault = false ∧
    let t := after (.reportWriteResponse [true]) reportFailing
    t.tally.report = .idle ∧ t.arb.ownOut = [] ∧ t.writer.notices.fault = true ∧ t.writer.notices.report = false := by
  decide +kernel

theorem witness_ReportBurst :
    (let s := reporting 2
     s.arb.ownOut = [] ++ own .report (.write []) :: [own .report (.write [])] ∧ s.tally.report = .writing 5 ∧
      ∃ y ∈ [own .report (.write [])], y.live = true ∧ y.purpose = .report) ∧
    reportFailing.arb.ownOut = [] ++ own .report (.write []) :: [] ∧ (∀ n, reportFailing.orders.phase ≠ .shiftWait n) ∧
    ¬ ∃ y ∈ reportFailing.arb.ownWaiting, y.live = true ∧ y.purpose = .report := by
  have h := test_report_fails.2.1
  exact ⟨by decide +kernel, by decide +kernel, (fun n e => by have : reportFailing.orders.phase = .idle := by decide +kernel
                                                              rw [this] at e; exact nomatch e), by simp [h]⟩

theorem witness_ShiftReport :
    (∀ s ∈ [reportable .idle true, reportable .idle false, reportable (.writing 5) true],
      OrderReady (ready (order 12 []) s) kindShiftClose (order 12 [])) ∧
    ((reportable .idle true).tally.report = .idle ∧ (reportable .idle true).window.report.valid = true) ∧
    (reportable .idle false).window.report.valid = false ∧ (reportable (.writing 5) true).tally.report ≠ .idle ∧
    (reporting 2).tally.report = .writing 5 ∧ (∀ n, (reporting 2).orders.phase ≠ .shiftWait n) ∧
    (liveOut .report (reporting 2)).length = [true, true].length ∧ stillWaiting .report (reporting 2) = false ∧
    liveOut .report (reporting 2) = [own .report (.write [])] ++ own .report (.write []) :: [] ∧
    [true, false] = List.replicate [own .report (.write [])].length true ++ false :: [] := by
  refine ⟨by unfold OrderReady; decide +kernel, by decide +kernel, by decide +kernel, by decide +kernel, by decide +kernel,
    (fun _ h => nomatch h), by decide +kernel, by decide +kernel, by decide +kernel, by decide⟩

/-- The header write of a copy is answered; the write held for the pinned slot waits. -/
def heldByPin : State :=
  granted .captureHeader (.write []) holdingPinned

theorem test_pin_releases_hold : (after (.captureHeaderWriteDone true) heldByPin).cap.slots[1]? = some .locked ∧
    (stream (after (.captureHeaderWriteDone true) heldByPin) 0).fill.isSome = true ∧
    (dirEntry (after (.captureHeaderWriteDone true) heldByPin) 0 0).stamp = some 96 := by decide +kernel

/-- A copy whose first row has one segment of two bytes at column 4. -/
def copy2 : Copy :=
  { copy1 with streams := [{ stream := 0, first := 4, last := 5, stagger := 0, winStart := 0, colBase := 0, next := 1,
                             reading := none, segments := [(0, [7, 8])], gone := List.replicate 256 false }] }

theorem witness_CaptureRelease :
    (Awaited heldByPin (· == .captureHeader) (own .captureHeader (.write [])) [] ∧ heldByPin.cap.copy = some copy1 ∧
      heldByPin.toTake = [] ∧ (∀ m, m ≠ 0 → (stream heldByPin m).hold = none) ∧
      (stream heldByPin 0).hold = some { start := 90, held := hw 96, queue := [] } ∧ HeaderWriteFor heldByPin (hw 96) 0 0 ∧
      (dirEntry heldByPin 0 0).state = .done ∧ (dirEntry heldByPin 0 0).pin = true ∧ (stream heldByPin 0).fill = none ∧
      StampFits heldByPin 0 96 ∧ copy1.missing.count true = 0) ∧
    (∀ i ∈ [3, 4, 5, 6], (rowBytes copy2 0)[i]? = some (if i = 4 then 7 else if i = 5 then 8 else 0)) ∧
    (rowBytes copy2 1)[4]? = some 0 := by
  refine ⟨⟨awaited_here rfl rfl rfl, rfl, by decide +kernel, others_hold_none rfl (by decide +kernel), by decide +kernel,
    by unfold HeaderWriteFor PlainWrite; decide +kernel, by decide +kernel, by decide +kernel, by decide +kernel,
    by unfold StampFits; decide +kernel, by decide +kernel⟩, by decide +kernel, by decide +kernel⟩

/-- Line 92 of the window is being read, the last accepted stamp is 92, and A is 95. -/
def passedLines : State :=
  let s := copying (.captureRead 0) (.read 16)
  modStream 0 (fun r => { r with lastStamp := some 92 }) { s with asm := { s.asm with a := 95 } }

/-- A stamp of a passed line that comes late is neither pinned nor copied; that of the next line is pinned (R158, R160). -/
theorem test_late_stamp : ∀ stamp ∈ [(95 : Byte), 96],
    let s := after (.headerWrite { hw stamp with addr := 0x10400 }) (finish passedLines passedLines)
    (dirEntry s 0 1).stamp = some stamp.toNat ∧ (dirEntry s 0 1).pin = decide (stamp = 96) ∧
    s.cap.copy.map (fun c => c.missing.take 6) = some [false, true, true, true, false, false] := by decide +kernel

theorem witness_SegmentTest : let s := advanceCapture passedLines
    (match s.cap.copy with
     | some c => c.streams.all (fun cs => decide (cs.next < 3) && decide (4 < cs.gone.length) && unavailable s c cs 3 &&
         !unavailable s c cs 4)
     | none => false) = true := by decide +kernel

theorem witness_CaptureResponses :
    ((readingStream (copying (.captureRead 0) (.read 16)) (0 : Fin 8)).isSome = true ∧
      allGranted (· == .captureRead (0 : Fin 8)) (copying (.captureRead 0) (.read 16)) = some [own (.captureRead 0) (.read 16)] ∧
      resultsFit [own (.captureRead 0) (.read 16)] [{ okay := true, data := List.replicate 16 5 }] = true ∧
      resultsFit [own (.captureRead 0) (.read 16)] [{ okay := false, data := [] }] = true) ∧
    (Awaited (copying .captureRow (.write [])) (· == .captureRow) (own .captureRow (.write [])) [] ∧
      (copying .captureRow (.write [])).cap.copy = some copy1) ∧
    (Awaited (copying .captureHeader (.write [])) (· == .captureHeader) (own .captureHeader (.write [])) [] ∧
      (copying .captureHeader (.write [])).cap.copy = some copy1 ∧ (copying .captureHeader (.write [])).toTake = [] ∧
      ∀ n, (stream (copying .captureHeader (.write [])) n).hold = none) :=
  ⟨by decide +kernel, ⟨awaited_here rfl rfl rfl, rfl⟩, awaited_here rfl rfl rfl, rfl, rfl,
    (quiet_of_calm (s := base) (by decide +kernel)).1⟩

/-- A buffer of `n` records. -/
def oneRecord : LogGroup :=
  { records := [{ seq := 1004, e := 0, body := .event .logLost [4] }], lostCount := some 4, fenced := false }

def buffered (n : Nat) : State := { base with writer := { base.writer with buffer := List.replicate n oneRecord } }

theorem witness_EventHanded : bufferedRecords (buffered 63).writer < 64 ∧ 64 ≤ bufferedRecords (buffered 64).writer ∧
    (buffered 63).window.log.valid = false ∧
    (∀ n ∈ [63, 64], let s := { log0 with writer := { log0.writer with writeIndex := n } }
      s.window.log.valid = true ∧ s.writer.inFlight = none ∧ s.writer.buffer = [] ∧ s.writer.overflow = false ∧
      (1 ≤ logSize s - unread s.writer ↔ n = 63)) ∧
    2 ^ 32 - 2 + 1 < 2 ^ 32 := by decide +kernel

/-- A LOG_LOST group in flight. -/
def logging : State :=
  granted .log (.write []) { log0 with writer := { log0.writer with lost := 4, inFlight := some oneRecord } }

/-- Two more records wait in the buffer, no group in flight, the write index at so many, the overflow flag as given. -/
def loggingNext (n : Nat) (overflow : Bool) : State :=
  { logging with writer := { logging.writer with
      writeIndex := n, overflow := overflow, inFlight := none, buffer := List.replicate 2 { oneRecord with lostCount := none } } }

/-- One place is left for the next group, none, and the flag set. -/
theorem witness_LogNext :
    (∀ x ∈ [(63, false), (64, false), (63, true)], (loggingNext x.1 x.2).window.log.valid = true ∧
      (loggingNext x.1 x.2).writer.inFlight = none ∧ (loggingNext x.1 x.2).writer.buffer.length = 2 ∧
      (loggingNext x.1 x.2).writer.overflow = x.2 ∧
      (1 ≤ logSize (loggingNext x.1 x.2) - unread (loggingNext x.1 x.2).writer ↔ x.1 = 63)) ∧
    (buffered 2).window.log.valid = false ∧ logging.writer.inFlight ≠ none ∧ logging.writer.buffer = [] := by decide +kernel

/-- With one place left the first of the two records is taken, with none, or the flag set, both are lost. -/
theorem test_log_next :
    [(63, false), (64, false), (63, true)].map (fun x =>
      let t := pumpLog (loggingNext x.1 x.2)
      (t.writer.inFlight.isSome, t.writer.buffer.length, t.writer.lost)) =
    [(true, 1, 4), (false, 0, 6), (false, 0, 6)] := by decide +kernel

theorem witness_LogWriteResponse : logging.writer.inFlight.isSome = true ∧ stillWaiting .log logging = false ∧
    (liveOut .log logging).length = [true].length ∧ (liveOut .log logging).length = [false].length ∧
    (∀ k d, logging.orders.phase ≠ .refreshWait k d) :=
  ⟨by decide +kernel, by decide +kernel, by decide +kernel, by decide +kernel, (fun _ _ h => nomatch h)⟩

/-- The group in flight and a REFRESH that waits for it. -/
def loggingRefresh (k : Nat) : State :=
  { logging with orders := { logging.orders with phase := .refreshWait k (List.replicate (if k = 13 then 832 else 64) 0) } }

/-- The waiting REFRESH may be of the whole table, and of entry 9, which is never in use; a stream's entry is, in service. -/
theorem witness_LogWriteResponse_refresh : ∀ k ∈ [9, 13], (loggingRefresh k).writer.inFlight = some oneRecord ∧
    stillWaiting .log (loggingRefresh k) = false ∧ (liveOut .log (loggingRefresh k)).length = [true].length ∧
    partInUse (loggingRefresh k) 9 = false ∧ (loggingRefresh 0).writer.inFlight = some oneRecord ∧
    partInUse (loggingRefresh 0) 0 = true := by
  decide +kernel

def statusing : State := granted .status (.write []) base

theorem witness_StatusBlockKept :
    statusFields { base with enc := { base.enc with e := 101 } } ≠ statusFields base ∧ base.writer.statusOut = true ∧
    ({ base with writer := { base.writer with statusOut := false } } : State).writer.statusOut = false ∧
    Awaited statusing (· == .status) (own .status (.write [])) [] ∧ (∀ a v m n, statusing.orders.phase ≠ .fenceWait a v m n) ∧
    statusing.writer.statusPending = false :=
  ⟨by decide +kernel, by decide +kernel, by decide +kernel, awaited_here rfl rfl rfl, (fun _ _ _ _ h => nomatch h),
    by decide +kernel⟩

/-! Invariants: a state in service that meets each of them, and a step from it -/

def listedFlaw : ListedFlaw :=
  { num := 3, source := .blob, cls := 2, y0 := 990, y1 := 1000, c0 := 0, c1 := 3, avoid := true, spent := false }

/-- A part in service: two lane groups, a plate, a listed flaw, an OPEN blob and a capture copy; a forward count to come. -/
def service : State :=
  { copying .captureRow (.write []) with
    lanes := laned.lanes
    blobs := { base.blobs with table := .opened merged :: List.replicate 63 .free }
    asm := { base.asm with a := 1001 }
    enc := { base.enc with e := 1002 }
    sched := { (scheduled 100 [plateOf 40 900 1000 40 .taken]).sched with
      start := 1000
      flaws := [listedFlaw] }
    pending := [.forwardCount] }

theorem witness_PositionsKept : PositionsInv service ∧ ∃ t, step service = .next t :=
  ⟨by unfold PositionsInv; decide +kernel, _, rfl⟩

theorem witness_ColumnsKept : ColumnsInv service ∧ ∃ t, step service = .next t :=
  ⟨by unfold ColumnsInv ColumnInv; decide +kernel, _, rfl⟩

theorem witness_CapacityKept : CapacityInv { holding 15 with pending := [.forwardCount] } ∧ CapacityInv service ∧
    ∃ t, step service = .next t := by
  refine ⟨⟨by decide +kernel, by decide +kernel, by decide +kernel, by decide +kernel, ?_⟩,
    ⟨by decide +kernel, by decide +kernel, by decide +kernel, by decide +kernel, ?_⟩, _, rfl⟩
  · have all : (holding 15).streams.all (fun r => match r.hold with
      | some h => decide (h.queue.length + 1 ≤ 16)
      | none => true) = true := by decide +kernel
    intro r hr h hh
    have := List.all_eq_true.mp all r hr
    simp only [hh, decide_eq_true_eq] at this
    exact this
  · intro r hr h hh
    have all : service.streams.all (fun r => r.hold.isNone) = true := by decide +kernel
    have := List.all_eq_true.mp all r hr
    simp [hh] at this

/-- Slot 0 holds the last line that the window of a flaw from line 100 on needs, and slot 1 one line more. -/
def inWindow : State :=
  modDir 0 1 (fun e => { e with stamp := some 348, state := .done })
    (modDir 0 0 (fun e => { e with stamp := some 347, state := .done }) base)

/-- Under a stagger of 10 the slots hold the stamps of line -6, which the window of a flaw from line 2 on needs, and of -7. -/
def belowZero : State :=
  { modDir 0 1 (fun e => { e with stamp := some 3, state := .done })
      (modDir 0 0 (fun e => { e with stamp := some 4, state := .done }) base) with
    window := { base.window with streams := base.window.streams.set 0 { win with stagger := 10 } } }

theorem witness_CaptureKept : CaptureInv service ∧ (∃ t, step service = .next t) ∧
    (captureSlotFor { base with window := { base.window with capture := { valid := true, base := 0 } } } = some 0) ∧
    ((255 + 1) / 2 ≤ 128 ∧ 128 ≤ (255 + 1) / 2 ∧ (16256 + 16257) / 2 = 16256) ∧
    (let t := startCopy 0 1 0 3 100 inWindow
     (dirEntry t 0 0).pin = true ∧ (dirEntry t 0 1).pin = false) ∧
    (let t := startCopy 0 1 0 3 2 belowZero
     (dirEntry t 0 0).pin = true ∧ (dirEntry t 0 1).pin = false) :=
  ⟨by show _ ∧ _; decide +kernel, ⟨_, rfl⟩, by decide +kernel, by decide, by decide +kernel, by decide +kernel⟩

theorem witness_LaneMapKept : LaneMapInv service ∧ ∃ t, step service = .next t := by
  have two : ∀ g l, groupLabel service.lanes g = some l → g < 2 ∧ l = 2 := by
    intro g l h
    by_cases k : g < 64
    · revert h
      have all : ∀ g < 64, groupLabel service.lanes g = none ∨ (g < 2 ∧ groupLabel service.lanes g = some 2) := by decide +kernel
      rcases all g k with e | ⟨e, f⟩
      · rw [e]; simp
      · rw [f]; intro h; exact ⟨e, (Option.some.inj h).symm⟩
    · unfold groupLabel at h
      rw [List.getD_eq_getElem?_getD, List.getElem?_eq_none (by simp [service, laned]; omega)] at h
      simp at h
  refine ⟨⟨by decide +kernel, ?_, ?_, by decide +kernel⟩, _, rfl⟩
  · intro i j k l hij hjk _ hk
    have := (two k l hk).1
    omega
  · intro l hl
    simp [service, laned] at hl
    omega

/-- A flaw list of `n` entries that begin at line 990, and a flaw that begins with them. -/
def listed (n : Nat) : State :=
  { service with sched := { service.sched with flaws := List.replicate n listedFlaw } }

/-- With 127 entries there is a place, with 128 none; a flaw that ends at S, and one that ends before it; a blob of a class that
is captured, with a slot FREE and without. -/
theorem witness_FlawListKept : FlawListInv service ∧ (∃ t, step service = .next t) ∧
    (listed 127).sched.flaws.length < 128 ∧ 128 ≤ (listed 128).sched.flaws.length ∧ (listed 128).sched.zone = none ∧
    service.sched.active = true ∧ service.sched.start = 1000 ∧ service.blobs.nextFlaw < 2 ^ 32 - 1 ∧
    captureSlotFor service = none ∧ outsideSale service.lanes 0 3 = true :=
  ⟨by unfold FlawListInv; decide +kernel, ⟨_, rfl⟩, by decide +kernel⟩

/-- The blob of line 1,001 with a gap of 2 closes at the end of line 1,004, not of 1,003; a dense zone that ended on line
1,001 closes at the end of line 1,009, not of 1,008; one of 4,096 lines, and a blob, close by length. -/
theorem witness_BlobClosings :
    (closesByGap 1003 merged = false ∧ closesByGap 1004 merged = true) ∧
    (closesByLength { merged with y0 := 1000, last := 5095 } = true ∧
      closesByLength { merged with y0 := 1000, last := 5094 } = false) ∧
    (∀ l ∈ [1008, 1009], (1001 + 8 ≤ l ↔ l = 1009)) ∧
    (∀ e ∈ ([] : List BlobEntry) ++ List.replicate 63 .free, e = BlobEntry.free) ∧
    service.blobs.table = [] ++ .opened merged :: List.replicate 63 .free ∧ service.blobs.dense = none ∧
    1004 + 1 ∉ service.blobs.splits ∧ (profile service.lanes merged.profile).minArea ≤ merged.area := by decide +kernel

/-- The Blob Tracker's act over a line without runs. -/
def afterLine (l : Nat) : State := blobAct l [] [] [] service

theorem test_blob_closes :
    (afterLine 1003).blobs.table[0]? = some (.opened merged) ∧ (afterLine 1004).blobs.table[0]? = some .free ∧
    (afterLine 1004).blobs.nextFlaw = 2 := by decide +kernel

theorem witness_BlobsKept : PositionsInv service ∧ BlobsInv service ∧ ∃ t, step service = .next t := by
  refine ⟨witness_PositionsKept.1, ⟨by decide +kernel, ?_, by decide +kernel⟩, _, rfl⟩
  intro b hb
  simp [service] at hb
  subst hb
  decide

/-! ## The further clauses of statements with several: states and operands at the bounds of each -/

/-- PIN_RESET beside a status block write that is granted: the reset's write is the pending one, issued at the response (R184,
R186). -/
theorem test_reset_status_pending :
    let t := after .pinReset (granted .status (.write []) base)
    t.writer.statusPending = true ∧ t.arb.ownWaiting = [] ∧ (t.arb.ownOut.map (fun x => (x.purpose, x.live))) = [(.status, true)] ∧
    (let u := after (.statusBlockWriteResponse true) t
     u.writer.statusPending = false ∧ u.arb.ownOut = [] ∧ u.arb.ownWaiting.map (fun x => (x.purpose, x.addr)) = [(.status, 0x100800)]) ∧
    (after .pinReset base).writer.statusPending = false ∧ (after .pinReset base).arb.ownWaiting.length = 1 := by decide +kernel

/-- A first avoid flaw that leaves exactly the minimum plate, behind a farther one in the list, and one a line nearer. -/
theorem witness_ChosenCut_avoid :
    let far : AvoidSpan := { y0 := 110000, y1 := 110010 }
    let f (y : Nat) : AvoidSpan := { y0 := y, y1 := 104300 }
    (∀ y ∈ [104199, 104200], avoidSet plan 100000 112800 [far, f y] = [far] ++ f y :: [] ∧ (f y).y0 < far.y0) ∧
    100000 + plan.minPlate ≤ max 100000 (104200 - plan.guard) ∧ max 100000 (104199 - plan.guard) < 100000 + plan.minPlate ∧
    (∀ g ∈ [far, f 104199], ¬ (g.y0 < 104500 + plan.minPlate + plan.guard ∧ 104500 < g.y1 + plan.guard)) ∧
    avoidSet plan 100000 112800 [{ y0 := 0, y1 := 99799 }, { y0 := 113000, y1 := 113000 }] = [] ∧
    (avoidSet plan 100000 112800 [{ y0 := 0, y1 := 99800 }, { y0 := 112999, y1 := 113000 }]).length = 2 := by decide +kernel

/-- The OPEN blob of columns 3 to 9 is a candidate of a forced decision under a SALE lane, and of no other. -/
theorem witness_ChosenCut_candidates :
    let s := { service with lanes := { laned.lanes with lanes := laned.lanes.lanes.set 1 { kind := .sale, profile := 0 } } }
    (candidates s true).length = 2 ∧ (candidates s false).length = 1 ∧ (candidates service true).length = 1 := by decide +kernel

/-- The scheduler at E and A, with a request and a queue. -/
def evaluating (e a : Nat) (request : Option Nat) (plates : List Plate) : State :=
  let s := scheduled e plates
  { s with asm := { s.asm with a := a }, sched := { s.sched with request := request } }

/-- A request a line short of a cutter pitch, and at it; A a line short of the needed line 212,999, and at it; E short of the
forcing position and at it; a queue of 31 plates and of 32. -/
theorem witness_ForcedAndStarved_evaluated :
    (202399 < 200000 + plan.pitch ∧ 200000 + plan.pitch ≤ 202400) ∧
    (evaluationChoice plan (evaluating 289799 212998 none [])).needed = 212999 ∧
    (evaluateOnce plan (evaluating 289799 212998 none [])).1 = false ∧
    (evaluateOnce plan (evaluating 289799 212999 none (fullQueue.take 31))).1 = true ∧
    (evaluateOnce plan (evaluating 289800 90 none (fullQueue.take 31))).1 = true ∧
    (evaluateOnce plan (evaluating 289799 212999 none fullQueue)).1 = false ∧
    (evaluateOnce plan (evaluating 289800 90 none fullQueue)).1 = true ∧
    (evaluationChoice plan (evaluating 289799 212999 (some 202400) [])).kind = .requested := by decide +kernel

/-- The cut 205,000 stands at X0 = 205,000; it is LATE up to X0 = 212,800; the stretch is unplanned from 212,801 on. -/
theorem witness_ForcedAndStarved_finished :
    (earliestCut (scheduled 282999 []) plan = 205000 ∧ earliestCut (scheduled 290799 []) plan = 212800 ∧
      earliestCut (scheduled 290800 []) plan = 212801) ∧
    let c (k : PlateKind) : Choice := { cut := 205000, kind := k, needed := 205199 }
    let s (e : Nat) := evaluating e 300000 (some 205000) []
    ((finishDecision plan (c .requested) false (s 282999)).sched.queue.map (fun q => (q.cut, q.kind))) = [(205000, .requested)] ∧
    ((finishDecision plan (c .requested) false (s 290799)).sched.queue.map (fun q => (q.cut, q.kind))) = [(212800, .late)] ∧
    (finishDecision plan (c .requested) false (s 290799)).sched.request = none ∧
    (finishDecision plan (c .nominal) false (s 290799)).sched.request = some 205000 ∧
    (finishDecision plan (c .nominal) false (s 290800)).sched.queue = [] ∧
    (finishDecision plan (c .nominal) false (s 290800)).sched.start = 212801 := by decide +kernel

/-- Each row of R30 for line 91, the entry stamp and the last accepted stamp at the needed stamp and a line off it. -/
theorem witness_LineAssembled_standings :
    let row (entry last : Option Nat) (st : SlotState) (x : Nat) := standing (modDir 0 2 (fun e => { e with stamp := some x, state := st })
      (modStream 0 (fun r => { r with entryStamp := entry, lastStamp := last }) base)) 0 91
    standing base 1 91 = (.uncovered, 0) ∧ row (some 91) (some 95) .ready 91 = (.seeded, 0) ∧
    row (some 90) (some 95) .ready 91 = (.present, 2) ∧ row none (some 95) .filling 91 = (.waiting, 0) ∧
    row none (some 90) .ready 92 = (.waiting, 0) ∧ row none none .done 91 = (.waiting, 0) ∧
    row none (some 91) .done 91 = (.missing, 0) := by decide +kernel

/-- A span of two bytes across a 4 KiB boundary, and one of the last byte of a beat. -/
theorem witness_LineAssembled_bursts : bursts 0x1FFF 2 = [(0x1FF0, 16), (0x2000, 16)] ∧ bursts 0x2F 1 = [(0x20, 16)] ∧
    bursts 0x2F 0 = [] ∧ bursts 0x100 257 = [(0x100, 256), (0x200, 16)] := by decide +kernel

/-- A span of columns 4 to 5 with one pixel covered; a usable entry, a stopped one, and one whose burst failed. -/
theorem witness_PixelFetchDone_columns :
    (let e : CovEntry := { stream := 0, first := 4, last := 5, standing := .present, slot := 0, stamp := 91, pixels := 1, stopped := false }
     [3, 4, 5, 6].map (lineColumn [(e, [9])]) = [.outside, .covered 9, .uncovered, .outside]) ∧
    (∀ stopped ∈ [false, true], ∀ okay ∈ [false, true], let s := fetched .running stopped
      (s.asm.record.getD []).map (fun e => (entryPixels s s.arb.ownOut [{ okay := okay, data := List.replicate 16 9 }] e).length) =
        [if okay && !stopped then 16 else 0]) := by decide +kernel

/-- A line as long as the columns; a group of two columns of which one enters STREAK; STREAK counts for all 64 groups. -/
def streakDetection (streak : Bool) : Detection :=
  { columns := [{ ref := 25600, age := 4094, streak := streak, clearRun := 63 }, Column.blank]
    streakCounts := (if streak then 1 else 0) :: List.replicate 63 0, runs := [] }

/-- The 4095th flagged line begins a streak, and the 64th CLEAR one ends it: STREAK_ON and STREAK_OFF of group 0. -/
theorem witness_ColumnStep_pass :
    (∀ streak ∈ [false, true], [ColIn.covered 200, .outside].length = (streakDetection streak).columns.length ∧
      (streakDetection streak).streakCounts.length = 64 ∧
      (linePass State.reset.lanes [.covered 200, .outside] (streakDetection streak)).counts.length = 64 ∧
      (streakDetection streak).streakCounts[0]? = some (((streakDetection streak).columns.take 256).countP (·.streak))) ∧
    (linePass { State.reset.lanes with profiles := List.replicate 8 { Profile.reset with streakLimit := 4095 } } [.covered 200, .outside]
      (streakDetection false)).counts.take 2 = [1, 0] ∧
    (linePass State.reset.lanes [.covered 100, .outside] (streakDetection true)).counts.take 2 = [0, 0] ∧
    (linePass State.reset.lanes [.covered 100, .outside] (streakDetection true)).uncovered.take 2 = [true, false] ∧
    ((takePass 91 (linePass State.reset.lanes [.covered 100, .outside] (streakDetection true))
      { base with det := streakDetection true }).writer.buffer.map (fun g => g.records.map (·.body))) =
      [[.event .streakOff [0, 91, 0]]] := by decide +kernel

/-- A run as long as the min run of its profile, and one a column shorter. -/
theorem witness_RunsAreMaximal_kept : (∀ n ∈ [2, 3],
    (linePass { State.reset.lanes with profiles := List.replicate 8 { Profile.reset with minRun := 3 } }
      (List.replicate n (.covered 255)) { columns := List.replicate n Column.blank, streakCounts := [], runs := [] }).runs.length =
        n - 2) ∧ (List.replicate 3 (ColIn.covered 255)).length = (List.replicate 3 Column.blank).length := by decide +kernel

/-- A flaw whose last column is the piece's first, and one a column short of it; a plate that is FINAL and one that is not;
A at the closing line of the plate, settled and not, and a line before it. -/
theorem witness_PointsGrade_applied :
    ((piece8 []).map (fun q => (decide (max 0 (256 * q.first) ≤ min 768 (256 * (q.first + q.count) - 1)),
      decide (max 0 (256 * q.first) ≤ min 767 (256 * (q.first + q.count) - 1)))) = [(true, false)]) ∧
    (∀ d ∈ [0, 1], ∀ st ∈ [PlateState.cut, .taken], let s := { base with
        grades := grades8, asm := { base.asm with a := 108 - d }, sched := { base.sched with
          queue := [{ plateOf 40 90 100 40 st with pieces := piece8 [] }] } }
      (gradeTest s).sched.queue.map (fun p => (p.final, p.pieces.map (·.grade))) =
        [if d = 0 ∧ st = .cut then (true, [some 1]) else (false, [none])]) ∧
    failedPlate.final = true ∧ (plateOf 40 90 100 40 .cut).final = false := by decide +kernel

/-- Plates in all the states that leave something in their slots, at a disable. -/
def withdrawing : State :=
  let s := scheduled 100 [plateOf 40 100000 109300 30 .sealed, plateOf 41 109300 122100 31 .sealing, plateOf 42 122100 134900 32 .taken]
  { s with tickets := (((s.tickets.set 30 { SlotRec.blank with occupant := some 40 }).set 31
      { SlotRec.blank with occupant := some 41, write := .sealing }).set 0 { SlotRec.blank with occupant := some 42 }) }

theorem witness_Disable_tickets : SlotsApart withdrawing withdrawing.sched.queue ∧ Quiet withdrawing ∧
    FieldWrite withdrawing (control 0) 0x00 ∧ enabled withdrawing = true ∧ withdrawing.sched.queue ≠ [] ∧
    withdrawing.tally.counts.length = tallyPlaces ∧
    (let t := after (.disable (control 0)) withdrawing
     t.tickets.map (fun r => (r.occupant, r.noted)) = (none, false) :: List.replicate 29 (none, false) ++ [(none, true), (none, true)] ∧
     (slotRec t 31).nullPending = some 31 ∧ (slotRec t 30).write = .nulling) := by
  refine ⟨by unfold SlotsApart; decide +kernel, quiet_of_calm (by decide +kernel), by unfold FieldWrite; decide +kernel,
    by decide +kernel, by decide +kernel, by decide +kernel, by decide +kernel⟩

/-- RESTART with all of the queue gone but its first plate; with X0 behind and beyond where the first abandoned one began. -/
theorem witness_CutRequestAndRestart_slots : SlotsApart restart0 (restart0.sched.queue.drop 1) ∧
    restart0.tally.counts.length = tallyPlaces ∧ 612800 < restart0.enc.e + plan.margin + 1 - plan.distance ∧
    (restartPlates plan { restart0 with enc := { restart0.enc with e := 640000 } }).sched.start = 612800 := by
  refine ⟨by unfold SlotsApart; decide +kernel, by decide +kernel, by decide +kernel, by decide +kernel⟩

/-- A read of parts of two slots; of a status field alone; of null portions within the ring and beyond it; after a disable. -/
theorem witness_TicketRead_portions :
    let read (addr len : Nat) : UpRead := { addr := addr, tag := 9, len := len }
    (readPortions (lastSlot .sealed) (read (0x40000 + 64 * 30 + 47) 65)).map (fun q => (q.slot, q.offset, q.len, q.fromMemory, q.sealWhole)) =
      [(30, 0, 17, false, false), (31, 17, 48, true, true)] ∧
    (readPortions (lastSlot .sealing) (read (0x40000 + 64 * 31 + 48) 16)).map (·.fromMemory) = [true] ∧
    (readPortions (lastSlot .sealing) (read (0x40000 + 64 * 31) 128)).map (·.fromMemory) = [false] ∧
    (∀ t ∈ [7, 9], (after (.ticketRead { read (0x40000 + 64 * 30 + 60) 8 with tag := t }) (lastSlot .sealing)).arb.passWaiting =
      [.read { read (0x40000 + 64 * 30 + 60) 8 with tag := t } [(4, 4)]]) ∧
    (readPortions (after (.disable (control 0)) withdrawing) (read (0x40000 + 64 * 30) 64)).map (·.fromMemory) = [false] ∧
    (readPortions (after (.disable (control 0)) withdrawing) (read 0x40000 64)).map (·.fromMemory) = [true] := by decide +kernel

/-- No fill in progress: a write from the first byte behind a slot's start, and one of its last byte. -/
theorem witness_ContinuationWrite_untracked : Quiet base ∧ (stream base 0).fill = none ∧ ∀ x ∈ [(1, 1023), (1023, 1)],
    PlainWrite base (cw x.1 x.2) ∧ streamOf base (cw x.1 x.2) = some 0 ∧
    (cw x.1 x.2).addr = slotAddr (streamWindow base 0) 0 + x.1 ∧ x.1 + (cw x.1 x.2).data.length ≤ (streamWindow base 0).slotSize :=
  ⟨quiet_of_calm (by decide +kernel), by decide +kernel, by unfold PlainWrite; decide +kernel⟩

/-- A STUB at the last line of its gap, and a line beyond it. -/
theorem witness_BlobsKept_stub :
    let t : Stub := { num := 5, polarity := .dark, last := 90, prev := (3, 9), gap := 4 }
    let s := { base with blobs := { base.blobs with table := [.free] ++ .stub t :: [.free] } }
    (blobAct 94 [] [] [] s).blobs.table = [.free, .stub t, .free] ∧ (blobAct 95 [] [] [] s).blobs.table = [.free, .free, .free] ∧
    s.blobs.dense = none ∧ 94 + 1 ∉ s.blobs.splits ∧ 95 + 1 ∉ s.blobs.splits := by decide +kernel

end Sys2Proof.Tests
end

section
/-! SUPPORT. Every command keeps the sizes of the part's queues (`CapacityInv`): one lemma for each shared operation, each
from those of the operations it is made of. -/

namespace Sys2Proof.Machine

/-- If the queues have their sizes in `s`, they have them in `t`. -/
structure KeepsCapacity (s t : State) : Prop where
  keeps : CapacityInv s → CapacityInv t

theorem KeepsCapacity.refl (s : State) : KeepsCapacity s s := ⟨id⟩

theorem KeepsCapacity.trans {s t u : State} (h : KeepsCapacity s t) (k : KeepsCapacity t u) : KeepsCapacity s u :=
  ⟨k.keeps ∘ h.keeps⟩

/-- A choice between two updates that keep the sizes. -/
theorem KeepsCapacity.ite {s t u : State} {p : Prop} [Decidable p] (h : KeepsCapacity s t) (k : KeepsCapacity s u) :
    KeepsCapacity s (if p then t else u) := by
  split
  · exact h
  · exact k

theorem KeepsCapacity.foldl {α : Type} {f : State → α → State} (h : ∀ s a, KeepsCapacity s (f s a)) (l : List α)
    (s : State) : KeepsCapacity s (l.foldl f s) := by
  induction l generalizing s with
  | nil => exact .refl s
  | cons a l ih => exact (h s a).trans (ih _)

theorem KeepsCapacity.foldr {α : Type} {f : α → State → State} (h : ∀ s a, KeepsCapacity s (f a s)) (l : List α)
    (s : State) : KeepsCapacity s (l.foldr f s) := by
  induction l with
  | nil => exact .refl s
  | cons a l ih => exact ih.trans (h _ a)

/-! ### What changes one of the sizes -/

/-- What keeps the scheduler, the Record Writer, the port and the streams' records keeps the sizes. -/
theorem KeepsCapacity.ofRest {s t : State}
    (h : (t.sched, t.writer, t.arb, t.streams) = (s.sched, s.writer, s.arb, s.streams)) : KeepsCapacity s t := by
  simp only [Prod.mk.injEq] at h
  obtain ⟨hs, hw, ha, hr⟩ := h
  exact ⟨fun i => by simpa [CapacityInv, hs, hw, ha, hr] using i⟩

/-- The plate queue and the flaw list may only shrink. -/
theorem KeepsCapacity.ofSched {s : State} {x : Scheduler} (hq : x.queue.length ≤ s.sched.queue.length)
    (hf : x.flaws.length ≤ s.sched.flaws.length) : KeepsCapacity s { s with sched := x } := by
  refine ⟨?_⟩
  rintro ⟨q, f, rest⟩
  exact ⟨hq.trans q, hf.trans f, rest⟩

/-- A change of the scheduler that leaves the plate queue and the flaw list alone. -/
theorem KeepsCapacity.ofSchedBut {s : State} {x : Scheduler}
    (h : (x.queue, x.flaws) = (s.sched.queue, s.sched.flaws)) : KeepsCapacity s { s with sched := x } := by
  obtain ⟨hq, hf⟩ := Prod.mk.inj h
  exact .ofSched (by rw [hq]) (by rw [hf])

/-- The pending buffer may hold as much as it has places. -/
theorem KeepsCapacity.ofWriter {s : State} {w : RecordWriter} (h : CapacityInv s → bufferedRecords w ≤ Config.recordPlaces) :
    KeepsCapacity s { s with writer := w } := by
  refine ⟨fun i => ?_⟩
  have hb := h i
  obtain ⟨q, f, -, rest⟩ := i
  exact ⟨q, f, hb, rest⟩

/-- A change of the Record Writer that leaves the pending buffer alone. -/
theorem KeepsCapacity.ofWriterBut {s : State} {w : RecordWriter} (h : w.buffer = s.writer.buffer) :
    KeepsCapacity s { s with writer := w } :=
  .ofWriter (fun i => by simpa [bufferedRecords, h] using i.2.2.1)

/-- The arbiter's count may only fall. -/
theorem KeepsCapacity.ofArb {s : State} {a : Arbiter} (h : a.count ≤ s.arb.count) : KeepsCapacity s { s with arb := a } := by
  refine ⟨?_⟩
  rintro ⟨q, f, b, c, rest⟩
  exact ⟨q, f, b, h.trans c, rest⟩

/-- Each stream's record has the hold of one before. -/
theorem KeepsCapacity.ofStreams {s : State} {rs : List StreamRec}
    (h : ∀ r ∈ rs, ∃ r0 ∈ s.streams, HoldInv r0 → HoldInv r) : KeepsCapacity s { s with streams := rs } := by
  refine ⟨?_⟩
  rintro ⟨q, f, b, c, hold⟩
  refine ⟨q, f, b, c, fun r hr => ?_⟩
  obtain ⟨r0, h0, k⟩ := h r hr
  exact k (hold r0 h0)

/-- A member of a list of which one entry was changed. -/
theorem mem_modify_cases {α : Type} {f : α → α} {l : List α} {n : Nat} {x : α} (h : x ∈ l.modify n f) :
    ∃ y ∈ l, x = y ∨ x = f y := by
  obtain ⟨i, hi⟩ := List.mem_iff_getElem?.mp h
  rw [List.getElem?_modify] at hi
  obtain ⟨y, hy, rfl⟩ := Option.map_eq_some_iff.mp hi
  refine ⟨y, List.mem_of_getElem? hy, ?_⟩
  split
  · exact .inr rfl
  · exact .inl rfl

/-- A change of a stream's record that keeps its hold queue within its places. -/
theorem KeepsCapacity.modStream {f : StreamRec → StreamRec} {n : Nat} {s : State}
    (hf : ∀ r, HoldInv r → HoldInv (f r)) : KeepsCapacity s (modStream n f s) := by
  refine .ofStreams (fun r hr => ?_)
  obtain ⟨r0, h0, rfl | rfl⟩ := mem_modify_cases hr
  · exact ⟨r, h0, id⟩
  · exact ⟨r0, h0, hf r0⟩

/-- A record without a hold. -/
theorem holdInv_of_none {r : StreamRec} (h : r.hold = none) : HoldInv r := by simp [HoldInv, h]

theorem modDir_capacity (n k : Nat) (f : DirEntry → DirEntry) (s : State) : KeepsCapacity s (modDir n k f s) := by
  unfold modDir
  exact .modStream (by exact fun _ h => h)

/-! ### Records, transactions and the status block -/

theorem tallyAdd_capacity (k : TallyKey) (n : Nat) (s : State) : KeepsCapacity s (tallyAdd k n s) := .ofRest (by rfl)

theorem issueOwn_capacity (p : Purpose) (a : Nat) (b : OwnBody) (s : State) : KeepsCapacity s (issueOwn p a b s) :=
  (.ofArb (by exact le_rfl))

theorem issueReads_capacity (p : Purpose) (bs : List (Nat × Nat)) (s : State) : KeepsCapacity s (issueReads p bs s) := by
  unfold issueReads
  exact .foldl (fun s b => issueOwn_capacity p b.1 (.read b.2) s) bs s

theorem disown_capacity (p : Purpose → Bool) (s : State) : KeepsCapacity s (disown p s) := .ofArb (by exact le_rfl)

theorem withdrawOwn_capacity (p : Purpose → Bool) (s : State) : KeepsCapacity s (withdrawOwn p s) :=
  .ofArb (by dsimp only; split <;> omega)

theorem recallOwn_capacity (p : Purpose → Bool) (s : State) : KeepsCapacity s (recallOwn p s) :=
  .ofArb (by dsimp only; split <;> omega)

theorem clearOut_capacity (p : Purpose → Bool) (s : State) : KeepsCapacity s (clearOut p s) := .ofArb (by exact le_rfl)

theorem withdrawNotes_capacity (n k : Nat) (s : State) : KeepsCapacity s (withdrawNotes n k s) := .ofArb (by exact le_rfl)

theorem withdrawStream_capacity (n : Nat) (s : State) : KeepsCapacity s (withdrawStream n s) := .ofArb (by exact le_rfl)

theorem forwardPass_capacity (x : PassTxn) (s : State) : KeepsCapacity s (forwardPass x s) := .ofArb (by exact le_rfl)

theorem takeOut_capacity (rest : List PassTxn) (s : State) : KeepsCapacity s (takeOut rest s) := .ofArb (by exact le_rfl)

theorem answerOwn_capacity {p : Purpose → Bool} {s s1 : State} {x : OwnTxn} (h : answerOwn p s = some (x, s1)) :
    KeepsCapacity s s1 := by
  unfold answerOwn at h
  split at h
  · obtain ⟨-, rfl⟩ := Prod.mk.inj (Option.some.inj h)
    exact .ofArb (by exact le_rfl)
  · cases h

theorem setNotices_capacity (f : Notices → Notices) (s : State) : KeepsCapacity s (setNotices f s) := .ofWriterBut (by rfl)

theorem loseRecords_capacity (n : Nat) (s : State) : KeepsCapacity s (loseRecords n s) := by
  unfold loseRecords
  exact KeepsCapacity.trans (.ofWriterBut (by rfl)) (tallyAdd_capacity _ _ _)

theorem issueRecords_capacity (base size i : Nat) (rs : List LogRecord) (s : State) :
    KeepsCapacity s (issueRecords base size i rs s) := by
  induction rs generalizing i s with
  | nil => exact .refl s
  | cons r rs ih => exact (issueOwn_capacity _ _ _ s).trans (ih _ _)

/-- Groups are taken from the head: what stays in the buffer is an end of it (R181). -/
theorem takeGroups_capacity (gs : List LogGroup) (s : State)
    (h : (gs.map (fun g => g.records.length)).sum ≤ Config.recordPlaces) : KeepsCapacity s (takeGroups gs s) := by
  induction gs generalizing s with
  | nil => exact .ofWriter (fun _ => h)
  | cons g gs ih =>
    have hs : (gs.map (fun g => g.records.length)).sum ≤ Config.recordPlaces := by
      simp only [List.map_cons, List.sum_cons] at h
      omega
    unfold takeGroups
    exact .ite ((loseRecords_capacity _ s).trans (ih _ hs))
      ((KeepsCapacity.ofWriter (by exact fun _ => hs)).trans (issueRecords_capacity ..))

theorem pumpLog_capacity (s : State) : KeepsCapacity s (pumpLog s) := by
  unfold pumpLog
  split
  · exact ⟨fun i => (takeGroups_capacity _ s i.2.2.1).keeps i⟩
  · exact .refl s

@[simp] theorem numberRecords_length (e n : Nat) (bs : List RecordBody) : (numberRecords e n bs).length = bs.length := by
  induction bs generalizing n with
  | nil => rfl
  | cons b bs ih => simp [numberRecords, ih]

/-- A group that does not fit in the pending buffer is lost at once (R181). -/
theorem handGroup_capacity (bs : List RecordBody) (s : State) : KeepsCapacity s (handGroup bs s) := by
  unfold handGroup
  dsimp only
  split
  · rename_i hroom
    refine KeepsCapacity.trans (.ofWriter fun _ => ?_) (pumpLog_capacity _)
    simpa [bufferedRecords] using hroom
  · exact KeepsCapacity.trans (.ofWriterBut (by rfl)) (loseRecords_capacity _ _)

theorem issueEvent_capacity (k : EventKind) (fs : List Nat) (s : State) : KeepsCapacity s (issueEvent k fs s) :=
  (KeepsCapacity.ite (setNotices_capacity _ s) (.refl s)).trans (handGroup_capacity _ _)

/-- LOG_LOST stands alone in the pending buffer (R182). -/
theorem formLogLost_capacity (s : State) : KeepsCapacity s (formLogLost s) := by
  unfold formLogLost
  exact (((KeepsCapacity.ofWriter (by exact fun _ => Nat.zero_le _)).trans (loseRecords_capacity _ _)).trans
    (.ofWriter (by simp [bufferedRecords, Config.recordPlaces]))).trans
    ((setNotices_capacity _ _).trans (pumpLog_capacity _))

theorem issueStatus_capacity (s : State) : KeepsCapacity s (issueStatus s) := by
  unfold issueStatus
  exact KeepsCapacity.trans (.ofWriterBut (by rfl)) (issueOwn_capacity _ _ _ _)

theorem refreshStatus_capacity (b s : State) : KeepsCapacity s (refreshStatus b s) := by
  unfold refreshStatus promptStatus
  exact .ite (.refl s) (.ite (.ofWriterBut (by rfl)) (issueStatus_capacity s))

theorem completeMasked_capacity (c : Completion) (m : Nat) (s : State) : KeepsCapacity s (completeMasked c m s) := by
  unfold completeMasked
  exact KeepsCapacity.trans (.ofRest (by rfl)) (issueOwn_capacity _ _ _ _)

theorem complete_capacity (c : Completion) (s : State) : KeepsCapacity s (complete c s) := completeMasked_capacity c 0 s

/-! ### Flaws and the Blob Tracker -/

theorem pinDirectory_capacity (c : Copy) (cs : CapStream) (s : State) : KeepsCapacity s (pinDirectory c cs s) := by
  unfold pinDirectory
  exact .modStream (by exact fun _ h => h)

theorem startCopy_capacity (k flaw c0 c1 y0 : Nat) (s : State) : KeepsCapacity s (startCopy k flaw c0 c1 y0 s) := by
  unfold startCopy
  exact KeepsCapacity.trans (.ofRest (by rfl)) (.foldl (fun s cs => pinDirectory_capacity _ cs s) _ _)

@[simp] theorem insertFlaw_length (f : ListedFlaw) (fs : List ListedFlaw) : (insertFlaw f fs).length = fs.length + 1 := by
  induction fs with
  | nil => rfl
  | cons g gs ih => unfold insertFlaw; split <;> simp [ih]

/-- The flaw list takes a flaw while it has a place (R80). -/
theorem submitFlaw_capacity (f : ListedFlaw) (s : State) : KeepsCapacity s (submitFlaw f s) := by
  unfold submitFlaw
  split
  · rename_i hroom
    refine ⟨?_⟩
    rintro ⟨q, -, rest⟩
    exact ⟨q, (insertFlaw_length f _).trans_le hroom, rest⟩
  · split
    · exact .ofSchedBut (by rfl)
    · exact (KeepsCapacity.ofSchedBut (by rfl)).trans (issueEvent_capacity _ _ _)

theorem removePassed_capacity (l : Nat) (s : State) : KeepsCapacity s (removePassed l s) :=
  .ofSched le_rfl (List.length_filter_le _ _)

/-- A change of each queued plate. -/
theorem mapQueue_capacity (f : Plate → Plate) (s : State) :
    KeepsCapacity s { s with sched := { s.sched with queue := s.sched.queue.map f } } :=
  .ofSched (List.length_map f).le le_rfl

theorem offerCapture_capacity (f : Flaw) (s : State) : KeepsCapacity s (offerCapture f s).2 := by
  unfold offerCapture
  split
  · split
    · exact startCopy_capacity ..
    · exact tallyAdd_capacity _ _ s
  · exact .refl s

theorem offerPlates_capacity (f : Flaw) (s : State) : KeepsCapacity s (offerPlates f s) := by
  unfold offerPlates
  exact mapQueue_capacity _ s

theorem routeFlaw_capacity (f : Flaw) (s : State) : KeepsCapacity s (routeFlaw f s) := by
  have h := ((offerCapture_capacity f s).trans (handGroup_capacity [.flaw (offerCapture f s).1] _)).trans
    (tallyAdd_capacity (.flaw f.cls) 1 _)
  have k := h.trans (offerPlates_capacity (offerCapture f s).1 _)
  unfold routeFlaw
  exact .ite h (.ite (k.trans (submitFlaw_capacity _ _)) k)

theorem KeepsCapacity.ofBlobs (s : State) (x : BlobTracker) : KeepsCapacity s { s with blobs := x } := .ofRest (by rfl)

theorem raiseFlaw_capacity (f : Flaw) (s : State) : KeepsCapacity s (raiseFlaw f s) := by
  unfold raiseFlaw
  exact .trans (.ofRest (by rfl)) (routeFlaw_capacity _ _)

theorem raiseFlaws_capacity (fs : List Flaw) (s : State) : KeepsCapacity s (raiseFlaws fs s) := by
  unfold raiseFlaws
  exact .foldl (fun s f => raiseFlaw_capacity f s) fs s

theorem closeBlob_capacity (s : State) (x : Blob × Bool) : KeepsCapacity s (closeBlob s x) := by
  unfold closeBlob
  exact .ite (tallyAdd_capacity _ _ s) (raiseFlaw_capacity _ s)

theorem feedDense_capacity (l : Nat) (d : List Run) (o : Bool) (s : State) : KeepsCapacity s (feedDense l d o s) := by
  unfold feedDense
  split
  · exact .refl s
  · dsimp only
    split
    · exact .ofRest (by rfl)
    · exact .trans (.ofRest (by rfl)) (issueEvent_capacity _ _ _)

theorem testDense_capacity (l : Nat) (s : State) : KeepsCapacity s (testDense l s) := by
  unfold testDense
  split
  · exact .refl s
  · exact .ite (.trans (.ofRest (by rfl)) (raiseFlaw_capacity _ _)) (.ite (.trans (.ofRest (by rfl))
      (raiseFlaw_capacity _ _)) (.refl s))

theorem setGap_capacity (g : Nat) (z : Option GapZone) (s : State) : KeepsCapacity s (setGap g z s) := .ofRest (by rfl)

theorem takeCoverage_capacity (l g : Nat) (u : Bool) (s : State) : KeepsCapacity s (takeCoverage l g u s) := by
  unfold takeCoverage
  split
  · exact .ite (setGap_capacity _ _ s) (.refl s)
  · refine .ite (setGap_capacity _ _ s) ?_
    split
    · exact (setGap_capacity _ _ s).trans (raiseFlaw_capacity _ _)
    · exact setGap_capacity _ _ s

theorem takeCoverages_capacity (l g : Nat) (us : List Bool) (s : State) : KeepsCapacity s (takeCoverages l g us s) := by
  induction us generalizing g s with
  | nil => exact .refl s
  | cons u us ih => exact (takeCoverage_capacity l g u s).trans (ih _ _)

theorem splitGaps_capacity (c : Nat) (a : Bool) (s : State) : KeepsCapacity s (splitGaps c a s).2 := by
  refine KeepsCapacity.foldl (fun t g => ?_) _ s
  split
  · exact setGap_capacity _ _ t
  · exact .refl t

theorem takeSplits_capacity (l : Nat) (s : State) : KeepsCapacity s (takeSplits l s) := by
  unfold takeSplits
  exact .trans (.ofRest (by rfl)) (.foldl
    (fun s c => (splitGaps_capacity c false s).trans (raiseFlaws_capacity _ _)) _ _)

theorem blobAct_capacity (l : Nat) (rs os : List Run) (us : List Bool) (s : State) :
    KeepsCapacity s (blobAct l rs os us s) := by
  unfold blobAct
  exact (((((KeepsCapacity.trans (.ofRest (by rfl)) (feedDense_capacity ..)).trans (.ofBlobs _ _)).trans
    (.foldl closeBlob_capacity _ _)).trans (testDense_capacity _ _)).trans (takeCoverages_capacity _ _ _ _)).trans
    (takeSplits_capacity _ _)

/-! ### Tickets -/

theorem modSlot_capacity (j : Nat) (f : SlotRec → SlotRec) (s : State) : KeepsCapacity s (modSlot j f s) := .ofRest (by rfl)

theorem modPlate_capacity (n : Nat) (f : Plate → Plate) (s : State) : KeepsCapacity s (modPlate n f s) := by
  unfold modPlate
  exact mapQueue_capacity _ s

theorem issueNull_capacity (j q : Nat) (s : State) : KeepsCapacity s (issueNull j q s) := by
  unfold issueNull
  exact (modSlot_capacity _ _ s).trans (issueOwn_capacity _ _ _ _)

theorem trySeal_capacity (n : Nat) (s : State) : KeepsCapacity s (trySeal n s) := by
  unfold trySeal
  split
  · exact .refl s
  · exact .ite (((modSlot_capacity _ _ s).trans (modPlate_capacity _ _ _)).trans (issueOwn_capacity _ _ _ _)) (.refl s)

theorem pumpSeals_capacity (s : State) : KeepsCapacity s (pumpSeals s) := by
  unfold pumpSeals
  exact .foldl (fun s (p : Plate) => trySeal_capacity p.num s) _ s

theorem withdrawTicket_capacity (d : Bool) (p : Plate) (s : State) : KeepsCapacity s (withdrawTicket d p s) := by
  unfold withdrawTicket
  dsimp only
  split
  · exact (modSlot_capacity _ _ s).trans (modSlot_capacity _ _ _)
  · exact .ite ((modSlot_capacity _ _ s).trans (issueNull_capacity _ _ _))
      ((modSlot_capacity _ _ s).trans (modSlot_capacity _ _ _))
  · exact modSlot_capacity _ _ s

theorem markMissed_capacity (p : Plate) (s : State) : KeepsCapacity s (markMissed p s) := by
  unfold markMissed
  exact (modPlate_capacity _ _ s).trans (issueEvent_capacity _ _ _)

/-! ### Decisions -/

theorem testRequest_capacity (p : Plan) (s : State) : KeepsCapacity s (testRequest p s) := by
  unfold testRequest
  split
  · exact .ite (.trans (.ofSchedBut (by rfl)) (issueEvent_capacity _ _ _)) (.refl s)
  · exact .refl s

theorem jumpUnplanned_capacity (x : Nat) (s : State) : KeepsCapacity s (jumpUnplanned x s) := by
  unfold jumpUnplanned
  exact KeepsCapacity.trans (.trans (.trans (.ofSchedBut (by rfl)) (tallyAdd_capacity _ _ _)) (tallyAdd_capacity _ _ _))
    (removePassed_capacity _ _)

/-- A plate enters the queue while it has a place (R116). -/
theorem enterPlate_capacity (q : Plate) (s : State) (h : s.sched.queue.length < Config.queuePlaces) :
    KeepsCapacity s (enterPlate q s) := by
  refine ⟨?_⟩
  rintro ⟨-, rest⟩
  exact ⟨by simpa [enterPlate] using h, rest⟩

theorem giveCut_capacity (c : Nat) (s : State) : KeepsCapacity s (giveCut c s).2 := by
  unfold giveCut
  split
  · exact splitGaps_capacity _ _ s
  · exact .ofRest (by rfl)

theorem tallyDecision_capacity (q : Plate) (s : State) : KeepsCapacity s (tallyDecision q s) := by
  have h := ((tallyAdd_capacity (.decided q.kind) 1 s).trans (tallyAdd_capacity .decidedLength (q.cut - q.start) _)).trans
    (tallyAdd_capacity .sAdvance (q.cut - q.start) _)
  unfold tallyDecision
  exact .ite (h.trans (tallyAdd_capacity _ _ _)) h

theorem decidePlate_capacity (p : Plan) (c : Nat) (k : PlateKind) (f u : Bool) (s : State)
    (h : s.sched.queue.length < Config.queuePlaces) : KeepsCapacity s (decidePlate p c k f u s) := by
  unfold decidePlate
  exact ((((((enterPlate_capacity _ s h).trans (removePassed_capacity _ _)).trans (giveCut_capacity _ _)).trans
    (pumpSeals_capacity _)).trans (tallyDecision_capacity _ _)).trans (.ofSchedBut (by rfl))).trans (raiseFlaws_capacity _ _)

theorem finishDecision_capacity (p : Plan) (c : Choice) (f : Bool) (s : State)
    (h : s.sched.queue.length < Config.queuePlaces) : KeepsCapacity s (finishDecision p c f s) := by
  unfold finishDecision
  refine .ite (decidePlate_capacity _ _ _ _ _ _ h) (.ite ?_ ((issueEvent_capacity _ _ s).trans (jumpUnplanned_capacity _ _)))
  dsimp only
  split
  · refine .trans (.trans (.ofSchedBut (by rfl)) (issueEvent_capacity _ _ _)) (decidePlate_capacity _ _ _ _ _ _ ?_)
    rw [(issueEvent_logFrame _ _ _).sched]
    exact h
  · exact decidePlate_capacity _ _ _ _ _ _ h

/-- With the queue full no plate is decided (R110, R116). -/
theorem evaluateOnce_capacity (p : Plan) (s : State) : KeepsCapacity s (evaluateOnce p s).2 := by
  have h := testRequest_capacity p s
  unfold evaluateOnce
  dsimp only
  split
  · split
    · unfold starve
      exact (h.trans (issueEvent_capacity _ _ _)).trans (jumpUnplanned_capacity _ _)
    · exact h
  · rename_i hroom
    split
    · exact h.trans (finishDecision_capacity _ _ _ _ (Nat.lt_of_not_le hroom))
    · exact h

theorem evaluateLoop_capacity (p : Plan) (n : Nat) (s : State) : KeepsCapacity s (evaluateLoop p n s) := by
  induction n generalizing s with
  | zero => exact .refl s
  | succ n ih =>
    unfold evaluateLoop
    exact .ite ((evaluateOnce_capacity p s).trans (ih _)) (evaluateOnce_capacity p s)

theorem evaluate_capacity (s : State) : KeepsCapacity s (evaluate s) := by
  unfold evaluate
  split
  · exact .ite (evaluateLoop_capacity ..) (.refl s)
  · exact .refl s

/-! ### Retirement, activation, RESTART and disable -/

theorem tallyRetirement_capacity (p : Plate) (s : State) : KeepsCapacity s (tallyRetirement p s) := by
  have h : ∀ s q, KeepsCapacity s (tallyPiece s q) := fun s q =>
    ((tallyAdd_capacity _ _ s).trans (tallyAdd_capacity _ _ _)).trans (tallyAdd_capacity _ _ _)
  unfold tallyRetirement
  exact ((tallyAdd_capacity _ _ s).trans (.foldl h _ _)).trans (.ofRest (by rfl))

theorem retirePlate_capacity (p : Plate) (s : State) : KeepsCapacity s (retirePlate p s) := by
  unfold retirePlate
  exact (((handGroup_capacity _ s).trans (tallyRetirement_capacity p _)).trans
    (.ofSched (by simp) (by exact le_rfl))).trans (modSlot_capacity _ _ _)

theorem retireLoop_capacity (n : Nat) (s : State) : KeepsCapacity s (retireLoop n s) := by
  induction n generalizing s with
  | zero => exact .refl s
  | succ n ih =>
    unfold retireLoop
    split
    · exact .ite (((retirePlate_capacity _ s).trans (evaluate_capacity _)).trans (ih _)) (.refl s)
    · exact .refl s

theorem plateChanged_capacity (s : State) : KeepsCapacity s (plateChanged s) := by
  unfold plateChanged gradeTest
  exact (mapQueue_capacity _ s).trans (retireLoop_capacity _ _)

theorem examineIfChanged_capacity (s t : State) : KeepsCapacity t (examineIfChanged s t) := by
  unfold examineIfChanged
  exact .ite (.refl t) (plateChanged_capacity t)

theorem takeTicket_capacity (q : ReadPortion) (s : State) : KeepsCapacity s (takeTicket q s) := by
  unfold takeTicket
  split
  · exact .ite ((modPlate_capacity _ _ s).trans (plateChanged_capacity _)) (.refl s)
  · exact .refl s

theorem missPlate_capacity (s : State) (n : Nat) : KeepsCapacity s (missPlate s n) := by
  unfold missPlate
  split
  · exact .ite ((markMissed_capacity _ s).trans (plateChanged_capacity _)) (.refl s)
  · exact .refl s

theorem takeMisses_capacity (s : State) : KeepsCapacity s (takeMisses s) := by
  unfold takeMisses
  exact .foldl missPlate_capacity _ s

theorem activate_capacity (s : State) : KeepsCapacity s (activate s) := by
  unfold activate
  exact .ite ((KeepsCapacity.trans (.ofSchedBut (by rfl)) (evaluate_capacity _)).trans (plateChanged_capacity _)) (.refl s)

theorem deactivate_capacity (s : State) : KeepsCapacity s (deactivate s) := by
  unfold deactivate
  exact .ofSched (by exact le_rfl) (Nat.zero_le _)

theorem abandonPlate_capacity (d : Bool) (s : State) (p : Plate) : KeepsCapacity s (abandonPlate d s p) := by
  unfold abandonPlate
  exact (KeepsCapacity.trans (.ofRest (by rfl)) (withdrawTicket_capacity d p _)).trans (tallyAdd_capacity _ _ _)

theorem disableScheduler_capacity (s : State) : KeepsCapacity s (disableScheduler s) := by
  have h : KeepsCapacity s (s.sched.queue.foldl (abandonPlate true) s) := .foldl (abandonPlate_capacity true) _ s
  refine ⟨fun i => ?_⟩
  obtain ⟨-, -, rest⟩ := h.keeps i
  exact ⟨Nat.zero_le _, Nat.zero_le _, rest⟩

theorem abandonSuffix_capacity (s : State) : KeepsCapacity s (abandonSuffix s) := by
  have h : KeepsCapacity s ((abandonedPlates s).foldl (abandonPlate false) s) := .foldl (abandonPlate_capacity false) _ s
  refine ⟨fun i => ?_⟩
  obtain ⟨-, rest⟩ := h.keeps i
  exact ⟨(List.length_take_le' _ _).trans i.1, rest⟩

theorem resumeFrom_capacity (g : List Plate) (s : State) : KeepsCapacity s (resumeFrom g s) := by
  unfold resumeFrom
  split
  · exact .ofSched (by exact le_rfl) (List.length_map _).le
  · exact .refl s

theorem raiseStart_capacity (p : Plan) (s : State) : KeepsCapacity s (raiseStart p s) := by
  unfold raiseStart
  exact .ite (jumpUnplanned_capacity _ s) (removePassed_capacity _ s)

theorem restartPlates_capacity (p : Plan) (s : State) : KeepsCapacity s (restartPlates p s) := by
  unfold restartPlates
  exact (((abandonSuffix_capacity s).trans (resumeFrom_capacity _ _)).trans (raiseStart_capacity p _)).trans
    (issueEvent_capacity _ _ _)

/-! ### The Capture Engine -/

theorem modCopy_capacity (f : Copy → Copy) (s : State) : KeepsCapacity s (modCopy f s) := .ofRest (by rfl)

theorem modCapStream_capacity (n : Nat) (f : CapStream → CapStream) (s : State) :
    KeepsCapacity s (modCapStream n f s) := .ofRest (by rfl)

theorem missSegment_capacity (cs : CapStream) (s : State) : KeepsCapacity s (missSegment cs s) := .ofRest (by rfl)

theorem advanceCapStream_capacity (n f : Nat) (s : State) : KeepsCapacity s (advanceCapStream n f s) := by
  induction f generalizing s with
  | zero => exact .refl s
  | succ f ih =>
    unfold advanceCapStream
    split
    · exact .refl s
    · split
      · exact .refl s
      · refine .ite (.refl s) ?_
        split
        · exact .refl s
        · exact (missSegment_capacity _ s).trans (ih _)
        · exact (modCapStream_capacity _ _ s).trans (issueReads_capacity _ _ _)

theorem advanceRows_capacity (f : Nat) (s : State) : KeepsCapacity s (advanceRows f s) := by
  induction f generalizing s with
  | zero => exact .refl s
  | succ f ih =>
    unfold advanceRows
    split
    · exact .refl s
    · exact .ite (((modCopy_capacity _ s).trans (issueOwn_capacity _ _ _ _)).trans (ih _)) (.refl s)

theorem advanceHeader_capacity (s : State) : KeepsCapacity s (advanceHeader s) := by
  unfold advanceHeader
  split
  · exact .refl s
  · exact .ite ((modCopy_capacity _ s).trans (issueOwn_capacity _ _ _ _)) (.refl s)

theorem testSegments_capacity (s : State) : KeepsCapacity s (testSegments s) := by
  unfold testSegments
  split
  · exact .refl s
  · exact .ofRest (by rfl)

theorem advanceCapture_capacity (s : State) : KeepsCapacity s (advanceCapture s) := by
  unfold advanceCapture
  split
  · exact .refl s
  · exact (((testSegments_capacity s).trans (.foldl (fun s cs => advanceCapStream_capacity _ _ s) _ _)).trans
      (advanceRows_capacity _ _)).trans (advanceHeader_capacity _)

/-- A change of every stream's record that keeps its hold. -/
theorem mapStreams_capacity (f : StreamRec → StreamRec) (s : State) (hf : ∀ r, HoldInv r → HoldInv (f r)) :
    KeepsCapacity s { s with streams := s.streams.map f } :=
  .ofStreams (by simpa using fun r hr => ⟨r, hr, hf r⟩)

theorem unpinAll_capacity (s : State) : KeepsCapacity s (unpinAll s) := by
  unfold unpinAll
  exact mapStreams_capacity _ s (fun _ h => h)

theorem dropCopy_capacity (s : State) : KeepsCapacity s (dropCopy s) := by
  unfold dropCopy
  split
  · exact .refl s
  · exact (KeepsCapacity.trans (.ofRest (by rfl)) (withdrawOwn_capacity _ _)).trans (unpinAll_capacity _)

theorem dropCopyOf_capacity (n : Nat) (s : State) : KeepsCapacity s (dropCopyOf n s) := by
  unfold dropCopyOf
  split
  · exact .ite (dropCopy_capacity s) (.refl s)
  · exact .refl s

theorem KeepsCapacity.ofAsm (s : State) (x : Assembler) : KeepsCapacity s { s with asm := x } := .ofRest (by rfl)

theorem KeepsCapacity.ofDet (s : State) (x : Detection) : KeepsCapacity s { s with det := x } := .ofRest (by rfl)

theorem KeepsCapacity.ofToTake (s : State) (x : List LetGo) : KeepsCapacity s { s with toTake := x } := .ofRest (by rfl)

theorem KeepsCapacity.ofAnswers (s : State) (x : List Answer) : KeepsCapacity s { s with answers := x } := .ofRest (by rfl)

theorem KeepsCapacity.ofOrders (s : State) (x : OrderUnit) : KeepsCapacity s { s with orders := x } := .ofRest (by rfl)

/-! ### The Ring Tracker -/

theorem loseSlot_capacity (n k : Nat) (s : State) : KeepsCapacity s (loseSlot n k s) := by
  unfold loseSlot
  exact ((modDir_capacity n k _ s).trans (withdrawNotes_capacity n k _)).trans (tallyAdd_capacity _ _ _)

theorem rejectSlot_capacity (n k : Nat) (s : State) : KeepsCapacity s (rejectSlot n k s) := modDir_capacity _ _ _ s

theorem setFill_capacity (n : Nat) (f : Option Fill) (s : State) : KeepsCapacity s (setFill n f s) := by
  unfold setFill
  exact .modStream (by exact fun _ h => h)

theorem breakFill_capacity (n : Nat) (s : State) : KeepsCapacity s (breakFill n s) := by
  unfold breakFill
  split
  · exact ((setFill_capacity _ _ s).trans (loseSlot_capacity _ _ _)).trans (issueEvent_capacity _ _ _)
  · exact .refl s

theorem giveUp_capacity (n k : Nat) (s : State) : KeepsCapacity s (giveUp n k s) := by
  unfold giveUp
  exact (KeepsCapacity.ite (((withdrawNotes_capacity n k s).trans (tallyAdd_capacity _ _ _)).trans
    (issueEvent_capacity _ _ _)) (.refl s)).trans (modDir_capacity _ _ _ _)

theorem pinAccepted_capacity (n k x : Nat) (s : State) : KeepsCapacity s (pinAccepted n k x s) := by
  unfold pinAccepted
  exact .ite (modDir_capacity _ _ _ s) (.refl s)

theorem beginFill_capacity (n k x c l : Nat) (t : Taking) : KeepsCapacity t.state (beginFill n k x c l t).state := by
  unfold beginFill
  refine (KeepsCapacity.trans (KeepsCapacity.trans ?_ (.modStream (by exact fun _ h => h))) (modDir_capacity _ _ _ _)).trans
    (pinAccepted_capacity _ _ _ _)
  split
  · exact .ite (tallyAdd_capacity _ _ _) (.refl _)
  · exact .refl _

theorem takeHeader_capacity (n : Nat) (p : Portion) (t : Taking) : KeepsCapacity t.state (takeHeader n p t).state := by
  have h : KeepsCapacity t.state
      (breakFill n (if (dirEntry t.state n p.slot).busy then giveUp n p.slot t.state else t.state)) :=
    (KeepsCapacity.ite (giveUp_capacity _ _ _) (.refl _)).trans (breakFill_capacity _ _)
  have refused : ∀ k fs, KeepsCapacity t.state (issueEvent k fs (rejectSlot n p.slot
      (breakFill n (if (dirEntry t.state n p.slot).busy then giveUp n p.slot t.state else t.state)))) := fun k fs =>
    (h.trans (rejectSlot_capacity _ _ _)).trans (issueEvent_capacity _ _ _)
  unfold takeHeader
  dsimp only
  generalize breakFill n (if (dirEntry t.state n p.slot).busy then giveUp n p.slot t.state else t.state) = u at h refused ⊢
  split
  · exact refused _ _
  · split
    · exact refused _ _
    · exact h.trans (beginFill_capacity _ _ _ _ _ { notes := t.notes, state := u })

theorem takeContinuation_capacity (n : Nat) (p : Portion) (t : Taking) :
    KeepsCapacity t.state (takeContinuation n p t).state := by
  unfold takeContinuation
  split
  · exact .refl _
  · split
    · exact .ite ((setFill_capacity _ _ _).trans (modDir_capacity _ _ _ _)) (setFill_capacity _ _ _)
    · exact breakFill_capacity _ _

theorem takePortion_capacity (n : Nat) (t : Taking) (p : Portion) :
    KeepsCapacity t.state (takePortion n t p).state := by
  unfold takePortion
  split
  · exact takeHeader_capacity n p t
  · exact takeContinuation_capacity n p t

theorem takeStreamWrite_capacity (n : Nat) (w : UpWrite) (s : State) :
    KeepsCapacity s (takeStreamWrite n w s).state := by
  have h : ∀ (l : List Portion) (t : Taking), KeepsCapacity t.state (l.foldl (takePortion n) t).state := by
    intro l
    induction l with
    | nil => exact fun t => .refl _
    | cons p l ih => exact fun t => (takePortion_capacity n t p).trans (ih _)
  unfold takeStreamWrite
  exact h _ { notes := [], state := s }

theorem passReady_capacity (n : Nat) (f : Nat → DirEntry → Bool) (s : State) : KeepsCapacity s (passReady n f s) := by
  unfold passReady
  exact .modStream (by exact fun _ h => h)

theorem seedFailed_capacity (n k : Nat) (s : State) : KeepsCapacity s (seedFailed n k s) := by
  unfold seedFailed
  exact (KeepsCapacity.trans (.modStream (by exact fun _ h => h)) (modDir_capacity _ _ _ _)).trans (passReady_capacity _ _ _)

theorem startSeed_capacity (n k : Nat) (s : State) : KeepsCapacity s (startSeed n k s) := by
  unfold startSeed
  exact .ite (seedFailed_capacity _ _ s) (.trans (.modStream (by exact fun _ h => h)) (issueReads_capacity _ _ _))

theorem lateTest_capacity (n k : Nat) (s : State) : KeepsCapacity s (lateTest n k s) := by
  unfold lateTest
  exact .ite (modDir_capacity _ _ _ s) (.refl s)

theorem becomeReady_capacity (n k : Nat) (s : State) : KeepsCapacity s (becomeReady n k s) := by
  have h : KeepsCapacity s (modDir n k (fun e => { e with state := .ready, awaiting := false, failed := false })
    (modStream n (fun r => { r with lastReady := s.enc.e }) s)) := .trans (.modStream (by exact fun _ h => h))
        (modDir_capacity _ _ _ _)
  unfold becomeReady
  dsimp only
  split
  · exact .ite (h.trans (startSeed_capacity _ _ _)) h
  · exact ((h.trans (.modStream (by exact fun _ h => h))).trans (issueEvent_capacity _ _ _)).trans (lateTest_capacity _ _ _)
  · exact h.trans (lateTest_capacity _ _ _)
  · exact h
  · exact h

theorem resolveNote_capacity (o : Bool) (s : State) (x : FillNote) : KeepsCapacity s (resolveNote o s x) := by
  have h : KeepsCapacity s (if o then s else modDir x.stream x.slot (fun e => { e with failed := true }) s) :=
    .ite (.refl s) (modDir_capacity _ _ _ s)
  unfold resolveNote
  exact .ite (.ite ((h.trans (loseSlot_capacity _ _ _)).trans (issueEvent_capacity _ _ _))
    (h.trans (becomeReady_capacity _ _ _))) h

theorem endHold_capacity (n : Nat) (a b : TakeMode) (s : State) : KeepsCapacity s (endHold n a b s) := by
  unfold endHold
  split
  · exact KeepsCapacity.trans (.modStream (by exact fun _ _ => holdInv_of_none rfl)) (.ofToTake _ _)
  · exact .refl s

theorem abandonHold_capacity (n : Nat) (s : State) : KeepsCapacity s (abandonHold n s) := by
  unfold abandonHold
  exact (endHold_capacity n .untracked .untracked s).trans (.ofToTake _ _)

theorem unpinStream_capacity (n : Nat) (s : State) : KeepsCapacity s (unpinStream n s) := by
  unfold unpinStream
  exact .modStream (by exact fun _ h => h)

theorem faultStream_capacity (n : Nat) (s : State) : KeepsCapacity s (faultStream n s) := by
  unfold faultStream
  exact (((((passReady_capacity _ _ s).trans (.foldl (fun s k => loseSlot_capacity n k s) _ _)).trans
    (unpinStream_capacity _ _)).trans (disown_capacity _ _)).trans (.modStream (by exact fun _ h => h))).trans
    ((issueEvent_capacity _ _ _).trans (abandonHold_capacity _ _))

theorem stopStream_capacity (n : Nat) (s : State) : KeepsCapacity s (stopStream n s) := by
  unfold stopStream
  exact .ite (.refl s) (((((dropCopyOf_capacity n s).trans (abandonHold_capacity n _)).trans
    (withdrawStream_capacity n _)).trans (.modStream (by exact fun _ _ => holdInv_of_none rfl))).trans
    ((disown_capacity _ _).trans (.ofAsm _ _)))

/-! ### The Line Assembler -/

theorem stepEpisode_capacity (l : Nat) (s : State) (e : CovEntry) : KeepsCapacity s (stepEpisode l s e) := by
  unfold stepEpisode
  exact .ite (.ite (.refl s) (.trans (.modStream (by exact fun _ h => h)) (issueEvent_capacity _ _ _))) (.modStream
      (by exact fun _ h => h))

theorem assembleLine_capacity (s : State) : KeepsCapacity s (assembleLine s) := by
  have fetch : ∀ s e, KeepsCapacity s (issueFetch s e) := fun s e => by
    unfold issueFetch
    exact .ite (issueReads_capacity _ _ s) (.refl s)
  unfold assembleLine
  exact (KeepsCapacity.trans (.ofRest (by rfl)) (.foldl (stepEpisode_capacity _) _ _)).trans (.foldl fetch _ _)

theorem streakEvents_capacity (line g : Nat) (bs as : List Nat) (s : State) :
    KeepsCapacity s (streakEvents line g bs as s) := by
  induction bs generalizing g as s with
  | nil => cases as <;> exact .refl s
  | cons b bs ih =>
    cases as with
    | nil => exact .refl s
    | cons a as =>
      refine KeepsCapacity.trans ?_ (ih _ _ _)
      unfold streakEvent
      exact .ite (issueEvent_capacity _ _ s) (.ite (issueEvent_capacity _ _ s) (.refl s))

theorem takePass_capacity (l : Nat) (p : LinePass) (s : State) : KeepsCapacity s (takePass l p s) := by
  unfold takePass
  exact .trans (.ofRest (by rfl)) (streakEvents_capacity _ _ _ _ _)

theorem seedDone_capacity (n : Nat) (f : SeedFetch) (bs : List ReadResult) (s : State) :
    KeepsCapacity s (seedDone n f bs s) := by
  unfold seedDone seedLoad
  exact ((passReady_capacity _ _ s).trans (.modStream (by exact fun _ h => h))).trans ((KeepsCapacity.ofDet _ _).trans
      (streakEvents_capacity _ _ _ _ _))

theorem passEntry_capacity (s : State) (e : CovEntry) : KeepsCapacity s (passEntry s e) := by
  unfold passEntry
  exact .ite (passReady_capacity _ _ s) (.refl s)

theorem passBehind_capacity (l : Nat) (s : State) (n : Nat) : KeepsCapacity s (passBehind l s n) := by
  unfold passBehind
  exact .ite (passReady_capacity _ _ s) (.refl s)

theorem setPhase_capacity (p : OrderPhase) (s : State) : KeepsCapacity s (setPhase p s) := .ofRest (by rfl)

theorem testNotBefore_capacity (s : State) : KeepsCapacity s (testNotBefore s) := by
  unfold testNotBefore
  split
  · split
    · exact .ite (.ofRest (by rfl)) (.refl s)
    · exact .ofRest (by rfl)
  · exact .refl s

theorem takeLaneOrder_capacity (o : List Byte) (s : State) : KeepsCapacity s (takeLaneOrder o s) := by
  unfold takeLaneOrder
  exact .ite (.trans (.ofRest (by rfl)) (complete_capacity _ _)) (.ite (.trans (.ofRest (by rfl)) (complete_capacity _ _))
    (.ite (complete_capacity _ s) (.ite (.trans (.ofRest (by rfl)) (complete_capacity _ _))
      ((KeepsCapacity.trans (.ofRest (by rfl)) (issueEvent_capacity _ _ _)).trans (complete_capacity _ _)))))

theorem takeWaitingLaneOrder_capacity (s : State) : KeepsCapacity s (takeWaitingLaneOrder s) := by
  unfold takeWaitingLaneOrder
  split
  · exact takeLaneOrder_capacity _ s
  · exact .refl s

theorem completeLine_capacity (l : Nat) (r : List CovEntry) (s : State) : KeepsCapacity s (completeLine l r s) := by
  have passed : KeepsCapacity s ((List.range 8).foldl (passBehind l) (r.foldl passEntry s)) :=
    (KeepsCapacity.foldl passEntry_capacity _ s).trans (.foldl (passBehind_capacity l) _ _)
  unfold completeLine
  exact (((passed.trans (.ofAsm _ _)).trans (takeWaitingLaneOrder_capacity _)).trans (testNotBefore_capacity _)).trans
    ((evaluate_capacity _).trans (plateChanged_capacity _))

theorem fetchEvent_capacity (l : Nat) (early : List (Fin 8)) (ts : List OwnTxn) (rs : List ReadResult) (s : State)
    (e : CovEntry) : KeepsCapacity s (fetchEvent l early ts rs s e) := by
  unfold fetchEvent
  exact .ite (issueEvent_capacity _ _ s) (.refl s)

theorem analyseLine_capacity (early : List (Fin 8)) (r : List CovEntry) (ts : List OwnTxn) (rs : List ReadResult)
    (s : State) : KeepsCapacity s (analyseLine early r ts rs s) := by
  unfold analyseLine
  exact ((KeepsCapacity.trans (.ofRest (by rfl)) (.foldl (fetchEvent_capacity _ early ts rs) _ _)).trans
    (takePass_capacity _ _ _)).trans ((blobAct_capacity _ _ _ _ _).trans (completeLine_capacity _ _ _))

/-! ### Reports, REFRESH and orders -/

theorem takeShiftClose_capacity (next : Nat) (s : State) : KeepsCapacity s (takeShiftClose next s) := by
  unfold takeShiftClose closeShift
  exact .ite ((KeepsCapacity.trans (.ofRest (by rfl)) (.foldl (fun s b => issueOwn_capacity _ _ _ s) _ _)).trans
    (complete_capacity _ _)) (complete_capacity _ s)

theorem endReport_capacity (s : State) : KeepsCapacity s (endReport s) := by
  unfold endReport
  dsimp only
  split
  · exact .trans (.ofRest (by rfl)) (takeShiftClose_capacity _ _)
  · exact .ofRest (by rfl)

theorem restartLog_capacity (s : State) : KeepsCapacity s (restartLog s) := by
  unfold restartLog
  have h : KeepsCapacity s { s with
      writer := { s.writer with writeIndex := 0, readIndex := 0, overflow := false }
      anchor := { s.anchor with logRead := 0 } } := .trans (.ofWriterBut (s := s)
        (w := { s.writer with writeIndex := 0, readIndex := 0, overflow := false }) rfl) (.ofRest (by rfl))
  exact .ite (h.trans (formLogLost_capacity _)) (h.trans (pumpLog_capacity _))

theorem followTicket_capacity (s : State) : KeepsCapacity s (followTicket s) := by
  unfold followTicket
  exact .ite (activate_capacity s) (.ite (deactivate_capacity s) (.refl s))

theorem replaceParts_capacity (k : Nat) (table : List Byte) (s : State) : KeepsCapacity s (replaceParts k table s) := by
  have tickets : ∀ s, KeepsCapacity s (resetTickets s) := fun s => by
    unfold resetTickets
    exact .trans (.ofRest (by rfl)) (disown_capacity _ _)
  have events : ∀ l s, KeepsCapacity s (windowEvents l s) := fun l s => by
    unfold windowEvents
    exact .foldl (fun s k => .ite (.refl s) (issueEvent_capacity _ _ s)) l s
  have h0 : KeepsCapacity s { s with window := refreshedWindow s k table } := .ofRest (by rfl)
  have h1 := h0.trans (.ite (p := (replacedParts s k).contains 9 = true) (restartLog_capacity _) (.refl _))
  have h2 := h1.trans (.ite (p := (replacedParts s k).contains 8 = true) (tickets _) (.refl _))
  have h3 := h2.trans (events (replacedParts s k) _)
  exact h3.trans (.ite (followTicket_capacity _) (.refl _))

theorem takeRefresh_capacity (k : Nat) (table : List Byte) (s : State) : KeepsCapacity s (takeRefresh k table s) := by
  unfold takeRefresh
  exact .ite ((replaceParts_capacity _ _ s).trans (completeMasked_capacity _ _ _)) (.ite (complete_capacity _ s)
    ((replaceParts_capacity _ _ s).trans (complete_capacity _ _)))

theorem abandonOrder_capacity (s : State) : KeepsCapacity s (abandonOrder s) := by
  unfold abandonOrder
  split
  case h_1 => exact .refl s
  case h_2 | h_3 | h_4 | h_5 => exact (setPhase_capacity _ s).trans (disown_capacity _ _)
  all_goals exact setPhase_capacity _ s

theorem takePlanSet_capacity (o : List Byte) (s : State) : KeepsCapacity s (takePlanSet o s) := by
  unfold takePlanSet
  split
  · exact complete_capacity _ s
  · rename_i p _
    have h : KeepsCapacity s (complete .done { s with sched := { s.sched with plan := some p } }) :=
      .trans (.ofSchedBut (by rfl)) (complete_capacity _ _)
    exact .ite ((h.trans (evaluate_capacity _)).trans (plateChanged_capacity _)) (h.trans (activate_capacity _))

theorem takeCutRequest_capacity (o : List Byte) (s : State) : KeepsCapacity s (takeCutRequest o s) := by
  unfold takeCutRequest
  split
  · exact complete_capacity _ s
  · exact (KeepsCapacity.trans (.ofSchedBut (by rfl)) (complete_capacity _ _)).trans
      ((evaluate_capacity _).trans (plateChanged_capacity _))

theorem takeRestart_capacity (s : State) : KeepsCapacity s (takeRestart s) := by
  unfold takeRestart
  split
  · exact (restartPlates_capacity _ s).trans (complete_capacity _ _)
  · exact .trans (.ofSchedBut (by rfl)) (complete_capacity _ _)

theorem decideAfterRestart_capacity (s : State) : KeepsCapacity s (decideAfterRestart s) := by
  unfold decideAfterRestart
  exact .ite (((evaluate_capacity s).trans (plateChanged_capacity _)).trans (refreshStatus_capacity _ _)) (.refl s)

theorem takeStreamStart_capacity (o : List Byte) (s : State) : KeepsCapacity s (takeStreamStart o s) := by
  unfold takeStreamStart startStream
  dsimp only
  split
  · exact .trans (.modStream (by exact fun _ _ => holdInv_of_none rfl)) (complete_capacity _ _)
  · exact complete_capacity _ s

theorem takeStreamStop_capacity (o : List Byte) (s : State) : KeepsCapacity s (takeStreamStop o s) := by
  unfold takeStreamStop
  exact .ite (complete_capacity _ s) ((stopStream_capacity _ s).trans (complete_capacity _ _))

theorem takeTableLoad_capacity (o : List Byte) (s : State) : KeepsCapacity s (takeTableLoad o s) := by
  unfold takeTableLoad
  split
  · exact (setPhase_capacity _ s).trans (issueOwn_capacity _ _ _ _)
  · exact complete_capacity _ s

theorem loadTables_capacity (block : List Byte) (s : State) : KeepsCapacity s (loadTables block s) := by
  unfold loadTables
  exact .ite (.trans (.ofRest (by rfl)) (complete_capacity _ _)) (complete_capacity _ s)

theorem takeRefreshOrder_capacity (o : List Byte) (s : State) : KeepsCapacity s (takeRefreshOrder o s) := by
  unfold takeRefreshOrder
  exact .ite (complete_capacity _ s) ((setPhase_capacity _ s).trans (issueOwn_capacity _ _ _ _))

/-- The marks of a FENCE change no size (R179). -/
theorem markFenced_capacity (s : State) : KeepsCapacity s (markFenced s) := by
  refine ⟨?_⟩
  rintro ⟨q, f, b, rest⟩
  exact ⟨by simpa [markFenced] using q, f, by simpa [markFenced, bufferedRecords, Function.comp_def] using b, rest⟩

theorem takeFence_capacity (o : List Byte) (s : State) : KeepsCapacity s (takeFence o s) := by
  unfold takeFence
  split
  · exact .ite ((setPhase_capacity _ s).trans (markFenced_capacity _)) (complete_capacity _ s)
  · exact complete_capacity _ s

theorem endFence_capacity (a : Nat) (m o : Bool) (s : State) : KeepsCapacity s (endFence a m o s) := by
  unfold endFence
  exact .ite ((KeepsCapacity.ite (setNotices_capacity _ s) (.refl s)).trans (complete_capacity _ _))
    ((issueEvent_capacity _ _ s).trans (complete_capacity _ _))

theorem handLaneOrder_capacity (o : List Byte) (s : State) : KeepsCapacity s (handLaneOrder o s) := by
  unfold handLaneOrder
  exact .ite (setPhase_capacity _ s) (takeLaneOrder_capacity o s)

theorem takeShiftOrder_capacity (o : List Byte) (s : State) : KeepsCapacity s (takeShiftOrder o s) := by
  unfold takeShiftOrder
  exact .ite (takeShiftClose_capacity _ s) (setPhase_capacity _ s)

theorem headAdvance_capacity (okay : Bool) (code : Nat) (s : State) : KeepsCapacity s (headAdvance okay code s) := by
  unfold headAdvance
  exact (KeepsCapacity.ite (.refl s) (issueEvent_capacity _ _ s)).trans (.ofOrders _ _)

/-! ### The Traffic Classifier -/

theorem enablePart_capacity (s : State) : KeepsCapacity s (enablePart s) := by
  unfold enablePart
  exact ((KeepsCapacity.ofAsm s _).trans (.ite (setPhase_capacity _ _) (.refl _))).trans (activate_capacity _)

theorem abandonLine_capacity (s : State) : KeepsCapacity s (abandonLine s) := by
  unfold abandonLine
  exact .trans (.ofRest (by rfl)) (disown_capacity _ _)

theorem disablePart_capacity (s : State) : KeepsCapacity s (disablePart s) := by
  unfold disablePart
  exact ((((dropCopy_capacity s).trans (.foldr (fun s n => stopStream_capacity n s) _ _)).trans
    (abandonLine_capacity _)).trans (.ofBlobs _ _)).trans
    ((disableScheduler_capacity _).trans (abandonOrder_capacity _))

theorem writeControl_capacity (v : Nat) (s : State) : KeepsCapacity s (writeControl v s) := by
  unfold writeControl
  refine KeepsCapacity.trans ?_ (.ite (formLogLost_capacity _) (.refl _))
  exact .ite (.trans (.ofRest (by rfl)) (enablePart_capacity _)) (.ite (.trans (.ofRest (by rfl))
      (disablePart_capacity _)) (.ofRest (by rfl)))

theorem ringSet_capacity (s : State) : KeepsCapacity s (ringSet s) := by
  unfold ringSet
  exact .trans (.ofRest (by rfl)) (abandonOrder_capacity _)

theorem writeOrderSize_capacity (v : Nat) (s : State) : KeepsCapacity s (writeOrderSize v s) := by
  unfold writeOrderSize
  exact .ite (issueEvent_capacity _ _ s) (.trans (.ofRest (by rfl)) (ringSet_capacity _))

theorem writeOrderTail_capacity (v : Nat) (s : State) : KeepsCapacity s (writeOrderTail v s) := by
  unfold writeOrderTail
  exact .ite (issueEvent_capacity _ _ s) (.ite (.trans (.ofRest (by rfl)) (setPhase_capacity _ _)) (.ofRest (by rfl)))

theorem writeLogRead_capacity (v : Nat) (s : State) : KeepsCapacity s (writeLogRead v s) := by
  unfold writeLogRead
  refine .ite ?_ (issueEvent_capacity _ _ s)
  exact (KeepsCapacity.ofWriterBut (s := s) (w := { s.writer with readIndex := v }) rfl).trans (.ofRest (by rfl))

theorem writeNoticeAck_capacity (v : Nat) (s : State) : KeepsCapacity s (writeNoticeAck v s) := by
  unfold writeNoticeAck
  exact .trans (.ofRest (by rfl)) (setNotices_capacity _ _)

theorem actOn_capacity {f : Nat → State → State} (h : ∀ v s, KeepsCapacity s (f v s)) (v : Option Nat) (s : State) :
    KeepsCapacity s (actOn v f s) := by
  unfold actOn
  split
  · exact h _ s
  · exact .refl s

/-- The actions of the control fields, in ascending offset (R174). -/
theorem latchAnchor_capacity (w : UpWrite) (s : State) : KeepsCapacity s (latchAnchor w s) := by
  unfold latchAnchor
  have base : ∀ v s, KeepsCapacity s (writeOrderBase v s) := fun v s => .trans (.ofRest (by rfl)) (ringSet_capacity _)
  refine KeepsCapacity.trans ?_ (actOn_capacity (fun _ _ => (.ofRest (by rfl))) _ _)
  refine KeepsCapacity.trans ?_ (actOn_capacity writeNoticeAck_capacity _ _)
  refine KeepsCapacity.trans ?_ (actOn_capacity (fun _ _ => (.ofRest (by rfl))) _ _)
  refine KeepsCapacity.trans ?_ (actOn_capacity (fun _ _ => (.ofRest (by rfl))) _ _)
  refine KeepsCapacity.trans ?_ (actOn_capacity writeLogRead_capacity _ _)
  refine KeepsCapacity.trans ?_ (actOn_capacity (fun _ _ => (.ofRest (by rfl))) _ _)
  refine KeepsCapacity.trans ?_ (actOn_capacity writeOrderTail_capacity _ _)
  refine KeepsCapacity.trans ?_ (actOn_capacity writeOrderSize_capacity _ _)
  exact (actOn_capacity writeControl_capacity _ s).trans (actOn_capacity base _ _)

theorem settlePlate_capacity (p : Plate) (c m : Nat) (s : State) : KeepsCapacity s (settlePlate p c m s) := by
  have deviation : ∀ s, KeepsCapacity s (testDeviation p m s) := fun s => by
    unfold testDeviation
    exact .ite ((modPlate_capacity _ _ s).trans (issueEvent_capacity _ _ _)) (.refl s)
  unfold settlePlate
  refine KeepsCapacity.trans ?_ (plateChanged_capacity _)
  exact .ite ((modPlate_capacity _ _ s).trans (deviation _)) (modPlate_capacity _ _ s)

theorem confirmPlate_capacity (j c e m : Nat) (s : State) : KeepsCapacity s (confirmPlate j c e m s) := by
  have other : KeepsCapacity s (confirmOther j c e m s) := .ite (issueEvent_capacity _ _ s) (issueEvent_capacity _ _ s)
  unfold confirmPlate
  split
  · exact other
  · refine .ite other ?_
    split
    case h_1 | h_2 => exact settlePlate_capacity _ _ _ s
    case h_3 => exact .ite (settlePlate_capacity _ _ _ s) (issueEvent_capacity _ _ s)
    case h_4 | h_5 | h_6 => exact issueEvent_capacity _ _ s
    case h_7 | h_8 => exact other

theorem takeStatus_capacity (w : UpWrite) (s : State) : KeepsCapacity s (takeStatus w s) := by
  unfold takeStatus decodeStatus
  refine .ite ?_ (.refl s)
  split
  · exact .ite (confirmPlate_capacity ..) (issueEvent_capacity _ _ s)
  · exact .refl s

theorem refuseWrite_capacity (w : UpWrite) (s : State) : KeepsCapacity s (refuseWrite w s) := by
  unfold refuseWrite
  exact ((KeepsCapacity.ite (issueEvent_capacity _ _ s) (.refl s)).trans
    (.ite (issueEvent_capacity _ _ _) (.refl _))).trans (.ofAnswers _ _)

theorem passWrite_capacity (w : UpWrite) (b : Bool) (s : State) : KeepsCapacity s (passWrite w b s) := by
  unfold passWrite
  refine KeepsCapacity.trans ?_ (latchAnchor_capacity _ _)
  refine KeepsCapacity.trans ?_ (takeStatus_capacity _ _)
  refine KeepsCapacity.trans ?_ (forwardPass_capacity _ _)
  split
  · exact takeStreamWrite_capacity _ _ _
  · exact .refl s

/-- A write joins a hold queue while it has a place (R10). -/
theorem queueWrite_capacity (n : Nat) (w : UpWrite) (s : State) : KeepsCapacity s (queueWrite n w s) := by
  unfold queueWrite
  split
  · split
    · rename_i hroom
      refine .modStream fun _ _ h he => ?_
      obtain rfl := Option.some.inj he
      simpa using hroom
    · exact .refl s
  · exact .refl s

theorem holdWrite_capacity (n : Nat) (w : UpWrite) (s : State) : KeepsCapacity s (holdWrite n w s) := by
  unfold holdWrite
  refine .ite (queueWrite_capacity n w s) (.trans (.modStream fun _ _ h he => ?_) (tallyAdd_capacity _ _ _))
  obtain rfl := Option.some.inj he
  simp [Config.holdPlaces]

theorem judgeWrite_capacity (w : UpWrite) (m : TakeMode) (s : State) : KeepsCapacity s (judgeWrite w m s) := by
  unfold judgeWrite
  refine .ite (refuseWrite_capacity w s) ?_
  split
  · exact passWrite_capacity _ _ s
  · exact passWrite_capacity _ _ s
  · split
    · exact holdWrite_capacity _ _ s
    · exact passWrite_capacity _ _ s

theorem takeWrite_capacity (w : UpWrite) (m : TakeMode) (s : State) : KeepsCapacity s (takeWrite w m s) := by
  unfold takeWrite
  split
  · exact queueWrite_capacity _ _ s
  · exact judgeWrite_capacity _ _ s

theorem takeLetGo_capacity (x : LetGo) (s : State) : KeepsCapacity s (takeLetGo x s) := by
  unfold takeLetGo
  exact .ite (queueWrite_capacity _ _ s) (takeWrite_capacity _ _ s)

theorem arriveWrite_capacity (w : UpWrite) (s : State) : KeepsCapacity s (arriveWrite w s) := by
  unfold arriveWrite
  exact .ite (.refl s) (takeWrite_capacity w .arrive s)

theorem takeRead_capacity (r : UpRead) (s : State) : KeepsCapacity s (takeRead r s) := by
  unfold takeRead
  have served : KeepsCapacity s (if (r.tag == s.window.ticket.tag) && (readPortions s r).any (fun q => !q.fromMemory)
    then tallyAdd .nullServed 1 s else s) := .ite (tallyAdd_capacity _ _ s) (.refl s)
  have taken := served.trans (.ite (p := (r.tag == s.window.ticket.tag) = true)
    (.foldl (fun s q => takeTicket_capacity q s) (readPortions s r) _) (.refl _))
  exact .ite (taken.trans (.ofAnswers _ _)) (taken.trans (forwardPass_capacity _ _))

theorem writeAnswered_capacity (tag : Nat) (o : Bool) (s : State) : KeepsCapacity s (writeAnswered tag o s) := by
  unfold writeAnswered
  split
  · exact ((takeOut_capacity _ s).trans (.ofAnswers _ _)).trans (.foldl (resolveNote_capacity o) _ _)
  · exact .refl s

theorem readAnswered_capacity (tag : Nat) (b : ReadResult) (s : State) : KeepsCapacity s (readAnswered tag b s) := by
  unfold readAnswered
  split
  · exact .ite (.refl s) ((takeOut_capacity _ s).trans (.ofAnswers _ _))
  · exact .refl s

theorem drain_capacity (f : Nat) (s : State) : KeepsCapacity s (drain f s) := by
  induction f generalizing s with
  | zero => exact .refl s
  | succ f ih =>
    unfold drain
    split
    · exact .refl s
    · exact (((KeepsCapacity.ofToTake s _).trans (takeLetGo_capacity _ _)).trans (refreshStatus_capacity _ _)).trans (ih _)

theorem settleHolds_capacity (f : Nat) (s : State) : KeepsCapacity s (settleHolds f s) := by
  induction f generalizing s with
  | zero => exact .refl s
  | succ f ih =>
    have h := ((testSegments_capacity s).trans (drain_capacity 1024 _)).trans (advanceCapture_capacity _)
    unfold settleHolds
    dsimp only
    split
    · exact (h.trans (endHold_capacity _ _ _ _)).trans (ih _)
    · exact h

/-- What a command leaves to be done keeps the sizes (R11). -/
theorem finish_capacity {b s t : State} (h : KeepsCapacity s t) : KeepsCapacity s (finish b t) := by
  unfold finish
  exact (h.trans (refreshStatus_capacity b t)).trans (settleHolds_capacity 256 _)

/-! ### The commands -/

theorem ownAnswered_capacity {p : Purpose → Bool} {fits : OwnTxn → Bool} {act : OwnTxn → State → State}
    (h : ∀ x s, KeepsCapacity s (act x s)) (s : State) : KeepsCapacity s (ownAnswered p fits act s) := by
  unfold ownAnswered
  split
  · exact .refl s
  · rename_i x s1 hx
    have h1 := answerOwn_capacity hx
    exact .ite (.ite (h1.trans (h x s1)) (.refl s)) h1

theorem burstsAnswered_capacity {p : Purpose → Bool} {act : List OwnTxn → State → State}
    (h : ∀ ts s, KeepsCapacity s (act ts s)) (rs : List ReadResult) (s : State) :
    KeepsCapacity s (burstsAnswered p rs act s) := by
  unfold burstsAnswered
  split
  · exact .refl s
  · exact .ite ((clearOut_capacity p s).trans (h _ _)) (.refl s)

/-- An order's act keeps the sizes if its block's does. -/
theorem withOrder_capacity {k : Nat} {act : List Byte → State → State} (h : ∀ o s, KeepsCapacity s (act o s)) (s : State) :
    KeepsCapacity s (withOrder k act s) := by
  unfold withOrder
  split
  · exact h _ s
  · exact .refl s

/-- The count is at most eight: at eight the next grant is an own request's (R186). -/
theorem grant_capacity (s : State) : KeepsCapacity s (grant s) := by
  unfold grant
  split
  · exact .ofArb (Nat.zero_le _)
  · exact .ofArb (Nat.zero_le _)
  · exact .ofArb (Nat.zero_le _)
  · split
    · exact .ofArb (Nat.zero_le _)
    · rename_i hroom
      refine ⟨?_⟩
      rintro ⟨q, f, b, -, rest⟩
      exact ⟨q, f, b, Nat.lt_of_not_le hroom, rest⟩

/-- Pin reset empties every queue (R21). -/
theorem capacityInv_reset (s : State) : KeepsCapacity s { State.reset with
    straps := s.straps
    enc := { State.reset.enc with phase1 := s.enc.phase1, phase2 := s.enc.phase2 }
    writer := resetWriter s
    arb := resetArbiter s
    answers := s.answers
    pending := s.pending } := by
  refine ⟨fun _ => ⟨Nat.zero_le _, Nat.zero_le _, Nat.zero_le _, Nat.zero_le _, fun r hr => ?_⟩⟩
  exact holdInv_of_none (by rw [List.eq_of_mem_replicate hr]; rfl)

theorem orderAnswered_capacity (r : ReadResult) (s : State) : KeepsCapacity s (orderAnswered r s) := by
  unfold orderAnswered
  split
  · exact .ite ((setPhase_capacity _ s).trans (testNotBefore_capacity _))
      ((setPhase_capacity _ s).trans (issueEvent_capacity _ _ _))
  · exact .refl s

theorem takeFenceWrite_capacity (s : State) : KeepsCapacity s (takeFenceWrite s) := by
  unfold takeFenceWrite
  split
  · exact .ite ((setPhase_capacity _ s).trans (issueOwn_capacity _ _ _ _)) (.refl s)
  · exact .refl s

theorem fenceAnswered_capacity (okay : Bool) (s : State) : KeepsCapacity s (fenceAnswered okay s) := by
  unfold fenceAnswered
  split
  · exact endFence_capacity _ _ _ s
  · exact .refl s

theorem refreshAnswered_capacity (r : ReadResult) (s : State) : KeepsCapacity s (refreshAnswered r s) := by
  unfold refreshAnswered startRefresh failRefresh
  split
  · exact .ite (.ite (.ofRest (by rfl)) (takeRefresh_capacity _ _ s)) (.ite (complete_capacity _ s) (complete_capacity _ s))
  · exact .refl s

theorem tableAnswered_capacity (r : ReadResult) (s : State) : KeepsCapacity s (tableAnswered r s) := by
  unfold tableAnswered
  split
  · exact .ite (loadTables_capacity _ s) (complete_capacity _ s)
  · exact .refl s

theorem completionAnswered_capacity (okay : Bool) (s : State) : KeepsCapacity s (completionAnswered okay s) := by
  unfold completionAnswered
  split
  · exact headAdvance_capacity _ _ s
  · exact .refl s

theorem reportBurst_capacity (s : State) (okay : Bool) : KeepsCapacity s (reportBurst s okay) := by
  have ended : ∀ s, KeepsCapacity s (reportEnded s) := fun s => by
    unfold reportEnded
    refine .ite (.refl s) ?_
    split
    · exact .refl s
    · exact ((clearOut_capacity _ s).trans (setNotices_capacity _ _)).trans (endReport_capacity _)
    · exact ((clearOut_capacity _ s).trans (issueEvent_capacity _ _ _)).trans (endReport_capacity _)
  have failed : ∀ a s, KeepsCapacity s (failReport a s) := fun a s => by
    unfold failReport
    split
    · exact .trans (.ofRest (by rfl)) (recallOwn_capacity _ _)
    · exact .refl s
    · exact .refl s
  unfold reportBurst
  split
  · exact .refl s
  · rename_i x rest _
    have answered : KeepsCapacity s { s with arb := { s.arb with ownOut := rest } } := .ofArb (by exact le_rfl)
    exact (KeepsCapacity.ite answered (answered.trans (failed _ _))).trans (ended _)

theorem segmentAnswered_capacity (c : Copy) (cs : CapStream) (n : Nat) (bs : List ReadResult) (s : State) :
    KeepsCapacity s (segmentAnswered c cs n bs s) := by
  have unpinned : ∀ n x s, KeepsCapacity s (unpinStamp n x s) := fun n x s => by
    unfold unpinStamp
    exact .modStream (by exact fun _ h => h)
  unfold segmentAnswered
  exact .ite ((unpinned _ _ s).trans (modCapStream_capacity _ _ _)) ((unpinned _ _ s).trans (missSegment_capacity _ _))

theorem failCapture_capacity (a : Nat) (s : State) : KeepsCapacity s (failCapture a s) := by
  unfold failCapture
  split
  · exact (dropCopy_capacity s).trans (issueEvent_capacity _ _ _)
  · exact .refl s

theorem headerAnswered_capacity (okay : Bool) (x : OwnTxn) (s : State) : KeepsCapacity s (headerAnswered okay x s) := by
  have ended : ∀ c, KeepsCapacity s (endCapture c s) := fun c => by
    have h : KeepsCapacity s (tallyAdd .captureTaken 1 (setNotices (fun n => { n with capture := true })
        (unpinAll { s with cap := { slots := s.cap.slots.set c.slot .locked, copy := none } }))) :=
      ((KeepsCapacity.trans (.ofRest (by rfl)) (unpinAll_capacity _)).trans (setNotices_capacity _ _)).trans
      (tallyAdd_capacity _ _ _)
    unfold endCapture
    exact .ite (h.trans (issueEvent_capacity _ _ _)) h
  unfold headerAnswered
  split
  · exact .ite (ended _) (failCapture_capacity _ s)
  · exact .refl s

theorem logAnswered_capacity (okays : List Bool) (s : State) : KeepsCapacity s (logAnswered okays s) := by
  have written : ∀ g s, KeepsCapacity s (groupWritten g s) := fun g s => by
    unfold groupWritten
    exact .ite (KeepsCapacity.trans (.ofWriterBut (by rfl)) (setNotices_capacity _ _)) (.ofWriterBut (by rfl))
  have waiting : ∀ s, KeepsCapacity s (takeWaitingRefresh s) := fun s => by
    unfold takeWaitingRefresh
    split
    · exact takeRefresh_capacity _ _ s
    · exact .refl s
  unfold logAnswered
  split
  · exact clearOut_capacity _ s
  · refine .ite (.refl s) ?_
    unfold groupAnswered
    have h : KeepsCapacity s (clearOut (· == .log) { s with writer := { s.writer with inFlight := none } }) :=
      KeepsCapacity.trans (.ofWriterBut (by rfl)) (clearOut_capacity _ _)
    exact ((KeepsCapacity.ite (h.trans (written _ _)) (h.trans (loseRecords_capacity _ _))).trans (waiting _)).trans
      (pumpLog_capacity _)

theorem statusAnswered_capacity (s : State) : KeepsCapacity s (statusAnswered s) := by
  have counted : ∀ s, KeepsCapacity s (countStatus s) := fun s => by
    unfold countStatus
    split
    · exact setPhase_capacity _ s
    · exact .refl s
  have h : KeepsCapacity s (countStatus { s with writer := { s.writer with statusOut := false } }) :=
    KeepsCapacity.trans (.ofWriterBut (by rfl)) (counted _)
  unfold statusAnswered
  exact .ite ((h.trans (.ofWriterBut (by rfl))).trans (issueStatus_capacity _)) h

theorem expireHold_capacity (n : Nat) (s : State) : KeepsCapacity s (expireHold n s) := by
  unfold expireHold
  split
  · exact .refl s
  · exact ((((KeepsCapacity.modStream (by exact fun _ _ => holdInv_of_none rfl)).trans (takeWrite_capacity _ _ _)).trans
      (issueEvent_capacity _ _ _)).trans (tallyAdd_capacity _ _ _)).trans (.ofToTake _ _)

theorem timeOutFill_capacity (n : Nat) (s : State) : KeepsCapacity s (timeOutFill n s) := by
  unfold timeOutFill
  split
  · exact .refl s
  · rename_i f _
    have h := ((setFill_capacity n none s).trans (loseSlot_capacity n f.slot _)).trans
      (issueEvent_capacity .lineTimeout [n, f.slot, stampOf s n f.slot] _)
    exact .ite h (h.trans (faultStream_capacity _ _))

theorem lapseStream_capacity (n : Nat) (s : State) : KeepsCapacity s (lapseStream n s) := by
  unfold lapseStream
  exact .trans (.modStream (by exact fun _ h => h)) (issueEvent_capacity _ _ _)

theorem endSeed_capacity (n : Nat) (f : SeedFetch) (bs : List ReadResult) (s : State) :
    KeepsCapacity s (endSeed n f bs s) := by
  unfold endSeed
  exact .ite (seedDone_capacity _ _ _ s) (seedFailed_capacity _ _ s)

theorem sealAnswered_capacity (j p q : Nat) (okay : Bool) (s : State) : KeepsCapacity s (sealAnswered j p q okay s) := by
  have sealed : ∀ x s, KeepsCapacity s (sealPlate j okay x s) := fun x s => by
    unfold sealPlate
    exact .ite (.ite ((modPlate_capacity _ _ s).trans (markMissed_capacity _ _)) (modPlate_capacity _ _ s))
      ((modPlate_capacity _ _ s).trans (issueEvent_capacity _ _ _))
  unfold sealAnswered
  refine KeepsCapacity.trans (KeepsCapacity.trans ?_ (pumpSeals_capacity _)) (plateChanged_capacity _)
  have h := modSlot_capacity j (fun r => { r with write := .none }) s
  dsimp only
  split
  · exact .ite (h.trans (issueNull_capacity _ _ _))
      ((h.trans (issueNull_capacity _ _ _)).trans (issueEvent_capacity _ _ _))
  · split
    · exact .ite (h.trans (sealed _ _)) h
    · exact h

theorem ticketAnswered_capacity (okay : Bool) (x : OwnTxn) (s : State) : KeepsCapacity s (ticketAnswered okay x s) := by
  unfold ticketAnswered
  split
  · exact sealAnswered_capacity _ _ _ _ s
  · rename_i slot seq _ _ _
    refine KeepsCapacity.trans (KeepsCapacity.trans ?_ (pumpSeals_capacity _)) (examineIfChanged_capacity _ _)
    have h := (modSlot_capacity slot (fun r =>
      { r with write := .none, noted := r.noted && r.nullPending.isSome }) s).trans
        (.ite (p := okay = true) (.refl _) (issueEvent_capacity .nullWriteFailed [slot, seq] _))
    split
    · exact h.trans (issueNull_capacity _ _ _)
    · exact h
  · exact .refl s

theorem ownTicketAnswered_capacity (p : Purpose → Bool) (okay : Bool) (s : State) :
    KeepsCapacity s (ownTicketAnswered p okay s) := by
  unfold ownTicketAnswered
  split
  · rename_i x s1 hx
    have h1 := answerOwn_capacity hx
    exact .ite (h1.trans (ticketAnswered_capacity okay x s1)) h1
  · exact .refl s

theorem takePassEvent_capacity (e : PassEvent) (s : State) : KeepsCapacity s (takePassEvent e s) := by
  cases e with
  | write w => exact arriveWrite_capacity w s
  | read r => exact takeRead_capacity r s
  | writeResponse tag okay => exact writeAnswered_capacity tag okay s
  | readResponse tag b => exact readAnswered_capacity tag b s

/-- A command's act, with the status block refreshed. -/
theorem refreshed_capacity {b s t : State} (h : KeepsCapacity s t) : KeepsCapacity s (refreshStatus b t) :=
  h.trans (refreshStatus_capacity b t)

/-- Every command answers with a next state that keeps the sizes. -/
theorem exec_capacity (c : Instr) (s : State) : ∃ t, exec c s = .next t ∧ KeepsCapacity s t := by
  cases c with
  | pinReset => exact ⟨_, rfl, capacityInv_reset s⟩
  | forwardCount =>
    refine ⟨_, rfl, refreshed_capacity ?_⟩
    exact .ite (((KeepsCapacity.trans (.ofRest (by rfl)) (evaluate_capacity _)).trans (examineIfChanged_capacity _ _)).trans
      (takeMisses_capacity _)) (.ofRest (by rfl))
  | reverseCount | invalidTransition =>
    exact ⟨_, rfl, refreshed_capacity (.ite (.trans (.ofRest (by rfl)) (issueEvent_capacity _ _ _)) (.ofRest (by rfl)))⟩
  | headerWrite w | continuationWrite w | guardWrite w | statusWrite w | statusBlockGuard w | enable w | disable w
  | logClear w | orderRingSet w | orderTail w | logRead w | noticeEnable w | noticeAck w | captureRelease w
  | anchorWrite w => exact ⟨_, rfl, finish_capacity (arriveWrite_capacity w s)⟩
  | completingWriteResponse tag okay => exact ⟨_, rfl, finish_capacity (writeAnswered_capacity tag okay s)⟩
  | holdExpired n => exact ⟨_, rfl, .ite (finish_capacity (expireHold_capacity n s)) (.refl s)⟩
  | lineTimeout n => exact ⟨_, rfl, .ite (finish_capacity (timeOutFill_capacity n s)) (.refl s)⟩
  | streamLapsed n => exact ⟨_, rfl, .ite (finish_capacity (lapseStream_capacity n s)) (.refl s)⟩
  | seedFetchDone n bs =>
    refine ⟨_, rfl, finish_capacity ?_⟩
    split
    · exact burstsAnswered_capacity (fun _ => endSeed_capacity _ _ _) bs s
    · exact clearOut_capacity _ s
  | lineAssembly | assemblyTimeout =>
    exact ⟨_, rfl, .ite (refreshed_capacity (assembleLine_capacity s)) (.refl s)⟩
  | pixelFetchDone r =>
    refine ⟨_, rfl, finish_capacity ?_⟩
    split
    · exact burstsAnswered_capacity (fun ts => analyseLine_capacity r.early _ ts r.bursts) r.bursts s
    · exact clearOut_capacity _ s
  | forcingReached =>
    exact ⟨_, rfl, .ite (refreshed_capacity ((evaluate_capacity s).trans (examineIfChanged_capacity _ _))) (.refl s)⟩
  | starved => exact ⟨_, rfl, .ite (refreshed_capacity (evaluate_capacity s)) (.refl s)⟩
  | sealFailedCutPoint => exact ⟨_, rfl, .ite (refreshed_capacity (plateChanged_capacity s)) (.refl s)⟩
  | sealWriteResponse slot okay | nullWriteResponse slot okay =>
    exact ⟨_, rfl, refreshed_capacity (ownTicketAnswered_capacity _ okay s)⟩
  | ticketRead r => exact ⟨_, rfl, refreshed_capacity (takeRead_capacity r s)⟩
  | cutMissed n => exact ⟨_, rfl, refreshed_capacity (missPlate_capacity s n)⟩
  | passThrough e => exact ⟨_, rfl, finish_capacity (takePassEvent_capacity e s)⟩
  | arbiterGrant => exact ⟨_, rfl, grant_capacity s⟩
  | orderFetch =>
    exact ⟨_, rfl, .ite (refreshed_capacity (.trans (.ofRest (by rfl)) (issueOwn_capacity _ _ _ _))) (.refl s)⟩
  | orderFetchDone r =>
    exact ⟨_, rfl, refreshed_capacity (ownAnswered_capacity (fun _ => orderAnswered_capacity r) s)⟩
  | nop => exact ⟨_, rfl, refreshed_capacity (withOrder_capacity (fun _ => complete_capacity _) s)⟩
  | badOrder => exact ⟨_, rfl, refreshed_capacity (.ite (complete_capacity _ s) (.refl s))⟩
  | fence => exact ⟨_, rfl, refreshed_capacity (withOrder_capacity takeFence_capacity s)⟩
  | fenceWrite => exact ⟨_, rfl, refreshed_capacity (takeFenceWrite_capacity s)⟩
  | fenceWriteResponse okay =>
    exact ⟨_, rfl, refreshed_capacity (ownAnswered_capacity (fun _ => fenceAnswered_capacity okay) s)⟩
  | refresh => exact ⟨_, rfl, refreshed_capacity (withOrder_capacity takeRefreshOrder_capacity s)⟩
  | refreshFetchDone r =>
    exact ⟨_, rfl, refreshed_capacity (ownAnswered_capacity (fun _ => refreshAnswered_capacity r) s)⟩
  | streamStart => exact ⟨_, rfl, refreshed_capacity (withOrder_capacity takeStreamStart_capacity s)⟩
  | streamStop => exact ⟨_, rfl, finish_capacity (withOrder_capacity takeStreamStop_capacity s)⟩
  | profileLoad | laneAssign | laneRelease =>
    exact ⟨_, rfl, refreshed_capacity (withOrder_capacity handLaneOrder_capacity s)⟩
  | tableLoad => exact ⟨_, rfl, refreshed_capacity (withOrder_capacity takeTableLoad_capacity s)⟩
  | tableLoadFetchDone r =>
    exact ⟨_, rfl, refreshed_capacity (ownAnswered_capacity (fun _ => tableAnswered_capacity r) s)⟩
  | planSet => exact ⟨_, rfl, refreshed_capacity (withOrder_capacity takePlanSet_capacity s)⟩
  | cutRequest => exact ⟨_, rfl, refreshed_capacity (withOrder_capacity takeCutRequest_capacity s)⟩
  | restart =>
    exact ⟨_, rfl, withOrder_capacity (fun _ s =>
      ((takeRestart_capacity s).trans (refreshStatus_capacity s _)).trans (decideAfterRestart_capacity _)) s⟩
  | shiftClose => exact ⟨_, rfl, refreshed_capacity (withOrder_capacity takeShiftOrder_capacity s)⟩
  | completionWriteResponse okay =>
    exact ⟨_, rfl, refreshed_capacity (ownAnswered_capacity (fun _ => completionAnswered_capacity okay) s)⟩
  | reportWriteResponse okays =>
    exact ⟨_, rfl, refreshed_capacity (.ite (clearOut_capacity _ s) (.foldl reportBurst_capacity okays s))⟩
  | captureSegmentReadDone n bs =>
    refine ⟨_, rfl, finish_capacity ?_⟩
    split
    · exact burstsAnswered_capacity (fun _ => segmentAnswered_capacity _ _ _ bs) bs s
    · exact clearOut_capacity _ s
  | captureRowWriteDone okay =>
    refine ⟨_, rfl, finish_capacity (ownAnswered_capacity (fun x s => ?_) s)⟩
    exact .ite (modCopy_capacity _ s) (failCapture_capacity _ s)
  | captureHeaderWriteDone okay =>
    exact ⟨_, rfl, finish_capacity (ownAnswered_capacity (headerAnswered_capacity okay) s)⟩
  | logWriteResponse okays => exact ⟨_, rfl, refreshed_capacity (logAnswered_capacity okays s)⟩
  | statusBlockWriteResponse okay =>
    exact ⟨_, rfl, refreshed_capacity (ownAnswered_capacity (fun _ => statusAnswered_capacity) s)⟩

end Sys2Proof.Machine

open Sys2Proof Sys2Proof.Machine

/-- Settles O55: each command keeps the sizes, and a step is the command at the front of the queue. -/
theorem capacityKept : Obligations.CapacityKept := by
  unfold Obligations.CapacityKept
  intro s t inv h
  unfold step at h
  split at h
  · obtain rfl := Host.Outcome.next.inj h
    exact inv
  · rename_i c rest _
    obtain ⟨u, hu, keeps⟩ := exec_capacity c { s with pending := rest }
    obtain rfl := Host.Outcome.next.inj (h.symm.trans hu)
    exact keeps.keeps inv
end

section
/-! SUPPORT. PIN_RESET (R21, R184, R186). -/

namespace Sys2Proof.Machine

/-- The state that pin reset leaves. -/
def pinResetState (s : State) : State :=
  { State.reset with
    straps := s.straps
    enc := { State.reset.enc with phase1 := s.enc.phase1, phase2 := s.enc.phase2 }
    writer := resetWriter s
    arb := resetArbiter s
    answers := s.answers
    pending := s.pending }

theorem exec_pinReset (s : State) : exec .pinReset s = .next (pinResetState s) := rfl

/-- A status block write granted and still wanted, as the model tests it. -/
theorem statusGranted_iff (s : State) :
    statusGranted s = true ↔ ∃ x ∈ s.arb.ownOut, x.live = true ∧ x.purpose = .status := by
  simp [statusGranted]

/-- No transaction granted before a pin reset drains after it (R138, R186). -/
theorem orphaned_not_drains (x : OwnTxn) : x.orphaned.purpose.drains = false := by
  unfold OwnTxn.orphaned
  cases x.purpose <;> rfl

/-- What is still wanted after a pin reset: a status block write alone. -/
theorem orphaned_live (x : OwnTxn) : x.orphaned.live = (x.live && x.purpose == .status) := rfl

/-- A status block write is the transaction it was. -/
theorem orphaned_of_status {x : OwnTxn} (hl : x.live = true) (hp : x.purpose = .status) : x.orphaned = x := by
  obtain ⟨p, l, a, b⟩ := x
  obtain rfl := hp
  obtain rfl := hl
  rfl

/-- The transactions still wanted after a pin reset are the status block writes wanted before. -/
theorem orphaned_filter_live (xs : List OwnTxn) :
    (xs.map OwnTxn.orphaned).filter (·.live) = xs.filter (fun x => x.live && x.purpose == .status) := by
  rw [List.filter_map]
  refine (List.map_congr_left fun x hx => ?_).trans (List.map_id _)
  obtain ⟨hl, hp⟩ : x.live = true ∧ x.purpose = .status := by simpa [orphaned_live] using (List.mem_filter.mp hx).2
  exact orphaned_of_status hl hp

/-- After a pin reset nothing drains (R138, R176). -/
theorem drainsOut_resetArbiter (s : State) : drainsOut (resetArbiter s) = false := by
  have image : (resetStatusWrite (anchorBase s)).purpose.drains = false := rfl
  simp [drainsOut, resetArbiter, orphaned_not_drains, image]

/-- The status block after a pin reset is that of the reset state (R184). -/
theorem statusFields_pinResetState (s : State) : statusFields (pinResetState s) = statusFields State.reset := by
  have code : enabledCode (pinResetState s) = enabledCode State.reset := by
    have h : drainsOut (pinResetState s).arb = false := drainsOut_resetArbiter s
    simp only [enabledCode, h]
    rfl
  simp only [statusFields, code]
  rfl

/-- No stream is in service right after reset (R21). -/
theorem stream_pinResetState (s : State) (n : Nat) : stream (pinResetState s) n = StreamRec.off := by
  exact List.getElem?_getD_replicate_default_eq _ 8 n

/-- Every part of the window cache is invalid after reset. -/
theorem partValid_blank (k : Nat) : partValid Window.blank k = false := by
  have stream : ((List.replicate 8 StreamWindow.blank).getD k StreamWindow.blank).valid = false := by
    rw [List.getD_eq_getElem?_getD, List.getElem?_getD_replicate_default_eq]
    rfl
  unfold partValid
  split
  · exact stream
  · repeat' split
    all_goals rfl

/-- The part is not enabled after reset (R172). -/
theorem enabled_pinResetState (s : State) : enabled (pinResetState s) = false := by
  change (0 : BitVec 32).getLsbD 0 = false
  decide

/-- Every tally is 0 after reset. -/
theorem tallyOf_reset (k : TallyKey) : tallyOf State.reset.tally k = 0 := by
  exact List.getElem?_getD_replicate_default_eq _ tallyPlaces k.index

end Sys2Proof.Machine

open Sys2Proof Sys2Proof.Machine

/-- Settles O3: the state after a pin reset is written out, and its parts are read off. -/
theorem pinReset : Obligations.PinReset := by
  unfold Obligations.PinReset
  intro s granted
  have hg : statusGranted s = true ↔ granted := statusGranted_iff s
  have image : statusImage (statusFields (pinResetState s)) = resetImage := by
    rw [statusFields_pinResetState, resetImage_is_image]
  refine ⟨pinResetState s, exec_pinReset s, rfl, rfl, rfl, rfl, rfl, rfl, rfl, rfl, rfl, rfl, rfl, fun n => ?_,
    partValid_blank, enabled_pinResetState s, rfl, tallyOf_reset, rfl, rfl, fun h => ?_, fun h => ?_, rfl, ?_, ?_, rfl, rfl⟩
  · rw [stream_pinResetState]
    exact ⟨rfl, rfl, rfl⟩
  · have hn : statusGranted s = false := Bool.eq_false_iff.mpr fun k => h (hg.mp k)
    rw [image]
    exact ⟨hn, by simp [pinResetState, resetArbiter, hn, resetStatusWrite]⟩
  · have hn : statusGranted s = true := hg.mpr h
    exact ⟨hn, by simp [pinResetState, resetArbiter, hn]⟩
  · exact orphaned_filter_live _
  · exact List.length_map _
end

section
/-! SUPPORT. Rules for the streams' records and for the status block: what a read of a stream or of a directory entry returns
after an update, and which updates change no field of the status block (R184). -/

namespace Sys2Proof.Machine

/-! ### Streams and directory entries -/

/-- A stream in service has a record. -/
theorem lt_of_stream_ne_off {s : State} {n : Nat} (h : (stream s n).state ≠ .off) : n < s.streams.length := by
  by_contra hn
  exact h (by rw [stream, List.getD_eq_default _ _ (Nat.le_of_not_lt hn)]; rfl)

/-- A stream whose directory has entries has a record. -/
theorem lt_of_dir_length {s : State} {n k : Nat} (h : k < (stream s n).dir.length) : n < s.streams.length := by
  by_contra hn
  rw [stream, List.getD_eq_default _ _ (Nat.le_of_not_lt hn)] at h
  exact absurd h (Nat.not_lt_zero k)

/-- A stream after an update of a stream: as it was, or changed by it. -/
theorem stream_modStream_cases (n : Nat) (f : StreamRec → StreamRec) (s : State) (m : Nat) :
    stream (modStream n f s) m = stream s m ∨ m = n ∧ stream (modStream n f s) m = f (stream s m) := by
  by_cases hm : m = n
  · obtain rfl := hm
    by_cases hl : m < s.streams.length
    · exact .inr ⟨rfl, stream_modStream_self f s hl⟩
    · left
      simp only [stream, modStream_streams]
      rw [List.getD_eq_default _ _ (by simpa using hl), List.getD_eq_default _ _ (by simpa using hl)]
  · exact .inl (stream_modStream_of_ne f s hm)

/-- What an update of a stream leaves alone in its record, it leaves alone in every stream. -/
theorem stream_modStream_field {α : Type} (g : StreamRec → α) {f : StreamRec → StreamRec} (hf : ∀ r, g (f r) = g r)
    (n : Nat) (s : State) (m : Nat) : g (stream (modStream n f s) m) = g (stream s m) := by
  rcases stream_modStream_cases n f s m with h | ⟨-, h⟩ <;> rw [h]
  exact hf _

theorem stream_modDir_self {s : State} {n k : Nat} (f : DirEntry → DirEntry) (h : n < s.streams.length) :
    stream (modDir n k f s) n = { stream s n with dir := (stream s n).dir.modify k f } := stream_modStream_self _ s h

theorem stream_modDir_of_ne {n m : Nat} (k : Nat) (f : DirEntry → DirEntry) (s : State) (h : m ≠ n) :
    stream (modDir n k f s) m = stream s m := stream_modStream_of_ne _ s h

/-- What is no directory, an update of an entry leaves alone. -/
theorem stream_modDir_field {α : Type} (g : StreamRec → α) (hg : ∀ r d, g { r with dir := d } = g r) (n k : Nat)
    (f : DirEntry → DirEntry) (s : State) (m : Nat) : g (stream (modDir n k f s) m) = g (stream s m) :=
  stream_modStream_field g (fun r => hg r _) n s m

@[simp] theorem modDir_dir_length (n k : Nat) (f : DirEntry → DirEntry) (s : State) (m : Nat) :
    (stream (modDir n k f s) m).dir.length = (stream s m).dir.length :=
  stream_modStream_field (fun r => r.dir.length) (fun _ => List.length_modify ..) n s m

@[simp] theorem modStream_streams_length (n : Nat) (f : StreamRec → StreamRec) (s : State) :
    (modStream n f s).streams.length = s.streams.length := List.length_modify ..

@[simp] theorem modDir_streams_length (n k : Nat) (f : DirEntry → DirEntry) (s : State) :
    (modDir n k f s).streams.length = s.streams.length := List.length_modify ..

/-- The entry that an update changes. -/
theorem dirEntry_modDir_self {s : State} {n k : Nat} (f : DirEntry → DirEntry) (h : k < (stream s n).dir.length) :
    dirEntry (modDir n k f s) n k = f (dirEntry s n k) := by
  simp [dirEntry, stream_modDir_self f (lt_of_dir_length h), h]

/-- Another slot's entry is left alone. -/
theorem dirEntry_modDir_of_ne {n m k j : Nat} (f : DirEntry → DirEntry) (s : State) (h : m ≠ n ∨ j ≠ k) :
    dirEntry (modDir n k f s) m j = dirEntry s m j := by
  unfold dirEntry
  rcases stream_modStream_cases n (fun r => { r with dir := r.dir.modify k f }) s m with e | ⟨hm, e⟩
  · rw [modDir, e]
  · have hj : k ≠ j := fun hk => h.elim (· hm) (· hk.symm)
    simp [modDir, e, List.getD, hj]

/-- An update that leaves the directories alone leaves their entries. -/
theorem dirEntry_modStream {f : StreamRec → StreamRec} (hf : ∀ r, (f r).dir = r.dir) (n : Nat) (s : State) (m k : Nat) :
    dirEntry (modStream n f s) m k = dirEntry s m k := by
  rw [dirEntry, dirEntry, stream_modStream_field (·.dir) hf]

/-- Two updates of one stream are one. -/
theorem modStream_modStream (n : Nat) (f g : StreamRec → StreamRec) (s : State) :
    modStream n g (modStream n f s) = modStream n (g ∘ f) s := by
  simp [modStream, List.modify_modify_eq]

theorem LogFrame.stream {s t : State} (h : LogFrame s t) (n : Nat) : stream t n = Machine.stream s n := by
  simp [Machine.stream, h.streams]

theorem LogFrame.dirEntry {s t : State} (h : LogFrame s t) (n k : Nat) : dirEntry t n k = Machine.dirEntry s n k := by
  simp [Machine.dirEntry, h.stream]

theorem PlateFrame.streamWindow {s t : State} (h : PlateFrame s t) (n : Nat) :
    streamWindow t n = Machine.streamWindow s n := by simp [Machine.streamWindow, h.window]

/-! ### Quiet states -/

/-- What leaves the holds, the copy and the writes let go alone leaves a quiet state quiet. -/
theorem Quiet.of_same {s t : State} (h : Quiet s) (hh : ∀ n, (stream t n).hold = (stream s n).hold)
    (hc : t.cap = s.cap) (ht : t.toTake = s.toTake) : Quiet t := by
  obtain ⟨h1, h2, h3⟩ := h
  exact ⟨fun n => (hh n).trans (h1 n), hc ▸ h2, ht ▸ h3⟩

theorem Quiet.modStream {s : State} {f : StreamRec → StreamRec} {n : Nat} (h : Quiet s) (hf : ∀ r, (f r).hold = r.hold) :
    Quiet (modStream n f s) := h.of_same (stream_modStream_field (·.hold) hf n s) rfl rfl

theorem Quiet.modDir {s : State} {n k : Nat} {f : DirEntry → DirEntry} (h : Quiet s) : Quiet (modDir n k f s) :=
  Quiet.modStream h (fun _ => rfl)

/-- With no hold, a state with a hold released that had none is the same. -/
theorem settleHolds_of_settled {s : State} (hc : s.cap.copy = none) (ht : s.toTake = [])
    (hr : ∀ n, releasable s n = false) (f : Nat) : settleHolds (f + 1) s = s := by
  have hs : testSegments s = s := by simp [testSegments, hc]
  have hd : drain 1024 s = s := by simp [drain, ht, nextLetGo]
  have hf : (List.range 8).find? (releasable s) = none := by simp [List.find?_eq_none, hr]
  simp [settleHolds, hs, hd, advanceCapture, hc, hf]

/-! ### Updates that change no field of the status block -/

@[simp] theorem TallyUnit.add_shiftId (t : TallyUnit) (k : TallyKey) (n : Nat) : (t.add k n).shiftId = t.shiftId := by
  unfold TallyUnit.add
  dsimp only
  split <;> rfl

@[simp] theorem statusFields_tallyAdd (k : TallyKey) (n : Nat) (s : State) :
    statusFields (tallyAdd k n s) = statusFields s := by
  simp [statusFields, enabledCode, enabled]

theorem map_modify_of_same {α β : Type} {g : α → β} {f : α → α} (h : ∀ x, g (f x) = g x) (l : List α) (n : Nat) :
    (l.modify n f).map g = l.map g := by
  refine List.ext_getElem? fun i => ?_
  rw [List.getElem?_map, List.getElem?_modify, List.getElem?_map]
  cases l[i]? with
  | none => rfl
  | some x => by_cases hi : n = i <;> simp [hi, h]

theorem statusFields_modStream {f : StreamRec → StreamRec} (hf : ∀ r, (f r).state = r.state) (n : Nat) (s : State) :
    statusFields (modStream n f s) = statusFields s := by
  simp [statusFields, enabledCode, enabled, map_modify_of_same hf]

@[simp] theorem statusFields_modDir (n k : Nat) (f : DirEntry → DirEntry) (s : State) :
    statusFields (modDir n k f s) = statusFields s :=
  statusFields_modStream (f := fun r => { r with dir := r.dir.modify k f }) (fun _ => rfl) n s

@[simp] theorem statusFields_forwardPass (x : PassTxn) (s : State) :
    statusFields (forwardPass x s) = statusFields s := rfl

/-- A request that is no null rewrite of R138. -/
theorem statusFields_issueOwn {p : Purpose} (h : p.drains = false) (a : Nat) (b : OwnBody) (s : State) :
    statusFields (issueOwn p a b s) = statusFields s := by
  simp [statusFields, enabledCode_issueOwn h]

theorem statusFields_complete (c : Completion) (s : State) : statusFields (complete c s) = statusFields s :=
  (statusFields_issueOwn (p := .completion) rfl _ _ _).trans rfl

end Sys2Proof.Machine
end

section
/-! SUPPORT. How the Classifier takes a plain write, and what the Ring Tracker makes of its portions (R2 to R7, R9, R14). -/

namespace Sys2Proof.Machine

/-! ### Plain writes -/

/-- With none of a control field's bytes strobed its action is not taken (R174). -/
theorem actOn_fieldWritten_of_untouched {s t : State} {w : UpWrite} {off size : Nat}
    (h : strobedIn w (anchorBase s + off) size = false) (old : Nat) (act : Nat → State → State) :
    actOn (fieldWritten s w off size old) act t = t := by
  simp [fieldWritten, h, actOn]

/-- A write that touches no control field latches nothing (R174). -/
theorem latchAnchor_of_untouched {s : State} {w : UpWrite}
    (h : ∀ f ∈ controlFields, strobedIn w (anchorBase s + f.1) f.2 = false) : latchAnchor w s = s := by
  simp only [controlFields, List.forall_mem_cons] at h
  obtain ⟨h0, h1, h2, h3, h4, h5, h6, h7, h8, h9, -⟩ := h
  simp only [latchAnchor]
  rw [actOn_fieldWritten_of_untouched h0, actOn_fieldWritten_of_untouched h1, actOn_fieldWritten_of_untouched h2,
    actOn_fieldWritten_of_untouched h3, actOn_fieldWritten_of_untouched h4, actOn_fieldWritten_of_untouched h5,
    actOn_fieldWritten_of_untouched h6, actOn_fieldWritten_of_untouched h7, actOn_fieldWritten_of_untouched h8,
    actOn_fieldWritten_of_untouched h9]

/-- A write without the cutter's tag is no status write (R132). -/
theorem takeStatus_of_other_tag {s : State} {w : UpWrite} (h : ticketsGuarded s = false ∨ w.tag ≠ s.window.ticket.tag) :
    takeStatus w s = s := by
  rcases h with h | h <;> simp [takeStatus, h]

/-- Whether a write is plain depends on the straps, the latches and the window cache. -/
theorem PlainWrite.congr {s t : State} {w : UpWrite} (h : PlainWrite s w) (hs : t.straps = s.straps)
    (ha : t.anchor = s.anchor) (hw : t.window = s.window) : PlainWrite t w := by
  have guarded : ticketsGuarded t = ticketsGuarded s := by simp only [ticketsGuarded, enabled, ha, hw]
  have body : bodyRefused t w = bodyRefused s w := by
    unfold bodyRefused touchesBody ticketBytesTotal
    rw [guarded, hw]
  have base : anchorBase t = anchorBase s := by rw [anchorBase, anchorBase, hs]
  have status : statusRefused t w = statusRefused s w := by simp only [statusRefused, enabled, ha, base]
  rw [PlainWrite, body, status, guarded, base, hw]
  exact h

theorem PlateFrame.plainWrite {s t : State} {w : UpWrite} (f : PlateFrame s t) (h : PlainWrite s w) : PlainWrite t w :=
  h.congr f.straps f.anchor f.window

/-- Behind the arbiter a plain write has no effect of its own. -/
theorem latchAnchor_takeStatus_of_plain {s : State} {w : UpWrite} (h : PlainWrite s w) :
    latchAnchor w (takeStatus w s) = s := by
  obtain ⟨-, -, htag, hfields⟩ := h
  rw [takeStatus_of_other_tag htag, latchAnchor_of_untouched hfields]

theorem forwardPass_plainWrite {s : State} {w : UpWrite} (h : PlainWrite s w) (x : PassTxn) :
    PlainWrite (forwardPass x s) w := h.congr rfl rfl rfl

/-- A plain write tracked into a stream goes to the arbiter with the fills that its portions belong to. -/
theorem passWrite_tracked {s : State} {w : UpWrite} {n : Nat} (h : PlainWrite s w) (hn : streamOf s w = some n) :
    passWrite w true s = forwardPass (.write w (takeStreamWrite n w s).notes) (takeStreamWrite n w s).state := by
  have taken := (takeStreamWrite_plateFrame n w s).plainWrite h
  unfold passWrite
  rw [hn]
  exact latchAnchor_takeStatus_of_plain (forwardPass_plainWrite taken _)

/-- A plain write that goes untracked goes to the arbiter, and nothing else happens. -/
theorem passWrite_untracked {s : State} {w : UpWrite} (h : PlainWrite s w) (b : Bool)
    (hb : b = false ∨ streamOf s w = none) : passWrite w b s = forwardPass (.write w []) s := by
  have plain := latchAnchor_takeStatus_of_plain (forwardPass_plainWrite h (.write w []))
  unfold passWrite
  rcases hb with rfl | hb
  · exact plain
  · rw [hb]
    cases b <;> exact plain

/-- No guard refuses a plain write (R131, R175). -/
theorem judgeWrite_of_plain {s : State} {w : UpWrite} (h : PlainWrite s w) (m : TakeMode) : judgeWrite w m s =
    (match m with
      | .untracked => passWrite w false s
      | .forced => passWrite w true s
      | .arrive =>
        match heldBy s w with
        | some n => holdWrite n w s
        | none => passWrite w true s) := by
  simp only [judgeWrite, h.1, h.2.1]
  rfl

/-- With no hold no write is queued by its tag (R10). -/
theorem holderOf_of_no_hold {s : State} (h : ∀ n, (stream s n).hold = none) (tag : Nat) : holderOf s tag = none := by
  simp [holderOf, List.find?_eq_none, h]

/-- With nothing held and nothing let go, a write that arrives is judged. -/
theorem arriveWrite_of_free {s : State} (hh : ∀ n, (stream s n).hold = none) (ht : s.toTake = []) (w : UpWrite) :
    arriveWrite w s = judgeWrite w .arrive s := by
  simp only [arriveWrite_of_none_waiting ht, takeWrite, holderOf_of_no_hold hh]

/-- A write that meets no busy slot, or whose stream does not hold, is not held (R9). -/
theorem heldBy_of_passed {s : State} {w : UpWrite} {n : Nat} (hn : streamOf s w = some n)
    (h : (streamWindow s n).policy ≠ .hold ∨ busyHeader s n w = none) : heldBy s w = none := by
  rcases h with h | h <;> simp [heldBy, hn, h]

/-! ### Streams that writes are tracked into -/

/-- A write tracked into a stream: the stream has a record, and the write begins in its ring (R2). -/
theorem streamOf_spec {s : State} {w : UpWrite} {n : Nat} (h : streamOf s w = some n) :
    n < 8 ∧ (stream s n).state ≠ .off ∧ (streamWindow s n).base ≤ w.addr ∧
      w.addr < (streamWindow s n).base + ringBytes (streamWindow s n) := by
  have ht := List.find?_some h
  have hm := List.mem_of_find?_eq_some h
  simp only [tracksInto, inRing, Bool.and_eq_true, Bool.not_eq_true', decide_eq_true_eq, beq_eq_false_iff_ne] at ht
  obtain ⟨⟨⟨-, hoff⟩, -⟩, hlow, hhigh⟩ := ht
  exact ⟨List.mem_range.mp hm, hoff, hlow, hhigh⟩

/-- Which stream a write is tracked into depends on ENABLE, the window cache and the streams' states. -/
theorem streamOf_congr {s t : State} (hw : t.window = s.window) (ha : t.anchor = s.anchor)
    (hs : ∀ n, (stream t n).state = (stream s n).state) (w : UpWrite) : streamOf t w = streamOf s w := by
  have h : tracksInto t w = tracksInto s w := by
    funext n
    simp only [tracksInto, enabled, streamWindow, hw, ha, hs]
  rw [streamOf, streamOf, h]

/-! ### Portions (R2) -/

/-- A write within one slot is one portion. -/
theorem portions_within {w : StreamWindow} {u : UpWrite} {k off : Nat} (ha : u.addr = slotAddr w k + off)
    (hl : 0 < u.data.length) (hr : u.addr < w.base + ringBytes w) (he : off + u.data.length ≤ w.slotSize) :
    portions w u = [{ slot := k, offset := off, data := u.data }] := by
  have hoff : off < w.slotSize := by omega
  have haddr : u.addr = w.base + (w.slotSize * k + off) := by rw [ha, slotAddr, Nat.mul_comm k, Nat.add_assoc]
  have hrel : u.addr - w.base = w.slotSize * k + off := by omega
  have hring : w.slotSize * k + off < ringBytes w := by omega
  have hmod : (w.slotSize * k + off) % w.slotSize = off := by rw [Nat.mul_add_mod, Nat.mod_eq_of_lt hoff]
  have hdiv : (w.slotSize * k + off) / w.slotSize = k := by
    rw [Nat.mul_add_div (by omega), Nat.div_eq_of_lt hoff, Nat.add_zero]
  have hne : u.data ≠ [] := by rintro h; simp [h] at hl
  obtain ⟨f, hf⟩ : ∃ f, u.data.length = f + 1 := ⟨u.data.length - 1, by omega⟩
  have hdrop : u.data.drop (w.slotSize - off) = [] := List.drop_eq_nil_of_le (by omega)
  have htake : u.data.take (w.slotSize - off) = u.data := List.take_of_length_le (by omega)
  rw [portions, hrel, hf, splitAtSlots]
  simp only [hmod, hdiv, hdrop, htake]
  rw [if_neg (by simp [hne, hring])]
  cases f <;> simp [splitAtSlots]

/-- A write that runs on into the next slot is two portions. -/
theorem portions_over {w : StreamWindow} {u : UpWrite} {k off : Nat} (ha : u.addr = slotAddr w k + off)
    (hoff : off < w.slotSize) (hk : k + 1 < w.slotCount) (hl : w.slotSize - off < u.data.length)
    (he : u.data.length - (w.slotSize - off) ≤ w.slotSize) :
    portions w u = [{ slot := k, offset := off, data := u.data.take (w.slotSize - off) },
      { slot := k + 1, offset := 0, data := u.data.drop (w.slotSize - off) }] := by
  have haddr : u.addr = w.base + (w.slotSize * k + off) := by rw [ha, slotAddr, Nat.mul_comm k, Nat.add_assoc]
  have hrel : u.addr - w.base = w.slotSize * k + off := by omega
  have hring : w.slotSize * (k + 1) + w.slotSize ≤ ringBytes w := by
    rw [ringBytes, ← Nat.mul_succ]
    exact Nat.mul_le_mul_left _ hk
  rw [Nat.mul_succ] at hring
  have hmod : (w.slotSize * k + off) % w.slotSize = off := by rw [Nat.mul_add_mod, Nat.mod_eq_of_lt hoff]
  have hdiv : (w.slotSize * k + off) / w.slotSize = k := by
    rw [Nat.mul_add_div (by omega), Nat.div_eq_of_lt hoff, Nat.add_zero]
  have hnext : w.slotSize * k + off + (w.slotSize - off) = w.slotSize * (k + 1) := by rw [Nat.mul_succ]; omega
  have hmod1 : w.slotSize * (k + 1) % w.slotSize = 0 := Nat.mul_mod_right ..
  have hdiv1 : w.slotSize * (k + 1) / w.slotSize = k + 1 := Nat.mul_div_cancel_left _ (by omega)
  have hne : u.data ≠ [] := by rintro h; simp [h] at hl
  obtain ⟨f, hf⟩ : ∃ f, u.data.length = f + 2 := ⟨u.data.length - 2, by omega⟩
  have hne1 : u.data.drop (w.slotSize - off) ≠ [] := by
    rw [Ne, List.drop_eq_nil_iff]
    omega
  have hdrop : (u.data.drop (w.slotSize - off)).drop w.slotSize = [] := List.drop_eq_nil_of_le (by simpa using he)
  have htake : (u.data.drop (w.slotSize - off)).take w.slotSize = u.data.drop (w.slotSize - off) :=
    List.take_of_length_le (by simpa using he)
  rw [portions, hrel, hf, splitAtSlots]
  simp only [hmod, hdiv, hnext]
  rw [if_neg (by simp [hne]; omega), splitAtSlots]
  simp only [hmod1, hdiv1, Nat.sub_zero, hdrop, htake]
  rw [if_neg (by simp [hne1, Nat.mul_succ]; omega)]
  cases f <;> simp [splitAtSlots]

/-! ### Headers (R4, R5) -/

/-- A good header is parsed as what it carries (R4). -/
theorem parseHeader_of_good {size stamp count : Nat} {data : List (Option Byte)} (h : GoodHeader size data stamp count) :
    parseHeader size data = some (stamp, count) := by
  obtain ⟨bytes, hlen, hd, hstamp, hcount, hcheck, hpos, htop, hfit⟩ := h
  have hmap : (bytes.map some).map (fun b => b.getD 0) = bytes := by simp [Function.comp_def]
  have hsome : (bytes.map some).any Option.isNone = false := by simp
  simp only [parseHeader, hd, hmap, hsome, List.length_map, hlen, hcount, hstamp]
  simp [hcheck, hpos, htop, hfit]

/-- Data that are parsed as a header begin with a good one (R4). -/
theorem goodHeader_of_parse {size stamp count : Nat} {data : List (Option Byte)}
    (h : parseHeader size data = some (stamp, count)) : GoodHeader size data stamp count := by
  unfold parseHeader at h
  dsimp only at h
  split at h
  · cases h
  · rename_i hhead
    split at h
    · rename_i hok
      obtain ⟨rfl, rfl⟩ := Prod.mk.inj (Option.some.inj h)
      simp only [Bool.or_eq_true, decide_eq_true_eq, not_or, Nat.not_lt, Bool.not_eq_true] at hhead
      obtain ⟨hlen, hsome⟩ := hhead
      have hbytes : data.take 32 = ((data.take 32).map (fun b => b.getD 0)).map some := by
        rw [List.map_map]
        refine (List.map_id _).symm.trans (List.map_congr_left fun b hb => ?_)
        have := (List.any_eq_false.mp hsome) b hb
        cases b with
        | none => simp at this
        | some b => rfl
      obtain ⟨hcheck, hpos, htop, hfit⟩ := hok
      have : (data.take 32).length ≤ 32 := List.length_take_le _ _
      exact ⟨_, by rw [List.length_map]; omega, hbytes, rfl, rfl, hcheck, hpos, htop, hfit⟩
    · cases h

/-- Data without a good header are parsed as none (R4). -/
theorem parseHeader_of_bad {size : Nat} {data : List (Option Byte)} (h : ∀ stamp count, ¬ GoodHeader size data stamp count) :
    parseHeader size data = none := by
  cases hp : parseHeader size data with
  | none => rfl
  | some x => exact absurd (goodHeader_of_parse hp) (h x.1 x.2)

/-- A good header is 32 bytes long at least (R190). -/
theorem GoodHeader.length_le {size stamp count : Nat} {data : List (Option Byte)} (h : GoodHeader size data stamp count) :
    32 ≤ data.length := by
  obtain ⟨bytes, hlen, hd, -⟩ := h
  have := congrArg List.length hd
  simp only [List.length_take, List.length_map, hlen] at this
  omega

/-- A stamp is rejected exactly when it does not fit (R5). -/
theorem stampRejected_iff (s : State) (n stamp : Nat) : stampRejected s n stamp = true ↔ ¬ StampFits s n stamp := by
  unfold stampRejected StampFits
  cases (stream s n).lastStamp with
  | none => simp
  | some l => simp; omega

end Sys2Proof.Machine
end

section
/-! SUPPORT. What the Ring Tracker makes of a header write (R4, R5, R6, R9, R14). -/

namespace Sys2Proof.Machine

/-! ### Updates of directories -/

/-- The streams' records are as they were but for the directories' entries, and the captures, the scheduler and the plates are
as they were. -/
structure DirFrame (s t : State) : Prop where
  plate : PlateFrame s t
  cap : t.cap = s.cap
  record : ∀ n, { stream t n with dir := [] } = { stream s n with dir := [] }
  length : ∀ n, (stream t n).dir.length = (stream s n).dir.length

theorem DirFrame.refl (s : State) : DirFrame s s := ⟨.refl s, rfl, fun _ => rfl, fun _ => rfl⟩

theorem DirFrame.trans {s t u : State} (h : DirFrame s t) (k : DirFrame t u) : DirFrame s u :=
  ⟨h.plate.trans k.plate, k.cap.trans h.cap, fun n => (k.record n).trans (h.record n),
   fun n => (k.length n).trans (h.length n)⟩

theorem LogFrame.dirFrame {s t : State} (h : LogFrame s t) : DirFrame s t :=
  ⟨h.plate, h.cap, fun n => by rw [h.stream], fun n => by rw [h.stream]⟩

theorem modDir_dirFrame (n k : Nat) (f : DirEntry → DirEntry) (s : State) : DirFrame s (modDir n k f s) :=
  ⟨modDir_plateFrame n k f s, rfl,
   fun m => stream_modDir_field (fun r => { r with dir := [] }) (fun _ _ => rfl) n k f s m, modDir_dir_length n k f s⟩

/-- What is no directory is as it was. -/
theorem DirFrame.field {s t : State} (h : DirFrame s t) {α : Type} (g : StreamRec → α)
    (hg : ∀ r, g { r with dir := [] } = g r) (n : Nat) : g (stream t n) = g (stream s n) := by
  rw [← hg (stream t n), h.record, hg]

theorem DirFrame.state {s t : State} (h : DirFrame s t) (n : Nat) : (stream t n).state = (stream s n).state :=
  h.field (·.state) (fun _ => rfl) n

theorem DirFrame.fill {s t : State} (h : DirFrame s t) (n : Nat) : (stream t n).fill = (stream s n).fill :=
  h.field (·.fill) (fun _ => rfl) n

theorem DirFrame.hold {s t : State} (h : DirFrame s t) (n : Nat) : (stream t n).hold = (stream s n).hold :=
  h.field (·.hold) (fun _ => rfl) n

theorem DirFrame.lastStamp {s t : State} (h : DirFrame s t) (n : Nat) :
    (stream t n).lastStamp = (stream s n).lastStamp := h.field (·.lastStamp) (fun _ => rfl) n

theorem DirFrame.quiet {s t : State} (h : DirFrame s t) (q : Quiet s) : Quiet t := q.of_same h.hold h.cap h.plate.toTake

/-- Whether a stamp fits depends on E, the window cache and the last accepted stamp. -/
theorem StampFits.congr {s t : State} {n stamp : Nat} (h : StampFits s n stamp) (f : PlateFrame s t)
    (hl : (stream t n).lastStamp = (stream s n).lastStamp) : StampFits t n stamp := by
  rw [StampFits, hl, f.enc, f.streamWindow]
  exact h

theorem DirFrame.stampFits {s t : State} (f : DirFrame s t) {n stamp : Nat} (h : StampFits s n stamp) :
    StampFits t n stamp := h.congr f.plate (f.lastStamp n)

theorem loseSlot_dirFrame (n k : Nat) (s : State) : DirFrame s (loseSlot n k s) := by
  unfold loseSlot
  exact ((modDir_dirFrame _ _ _ s).trans (withdrawNotes_logFrame _ _ _).dirFrame).trans
    (tallyAdd_logFrame _ _ _).dirFrame

theorem rejectSlot_dirFrame (n k : Nat) (s : State) : DirFrame s (rejectSlot n k s) := modDir_dirFrame _ _ _ s

theorem lineGivenUp_dirFrame (n k : Nat) (s : State) : DirFrame s (lineGivenUp n k s) := by
  unfold lineGivenUp
  exact (((withdrawNotes_logFrame n k s).trans (tallyAdd_logFrame _ _ _)).trans
    (issueEvent_logFrame _ _ _)).dirFrame.trans (modDir_dirFrame _ _ _ _)

theorem pinAccepted_dirFrame (n k x : Nat) (s : State) : DirFrame s (pinAccepted n k x s) := by
  unfold pinAccepted
  split
  · exact modDir_dirFrame _ _ _ s
  · exact .refl s

/-- Without a copy no stamp is needed (R158). -/
theorem pinAccepted_of_no_copy {s : State} (h : s.cap.copy = none) (n k x : Nat) : pinAccepted n k x s = s := by
  simp [pinAccepted, isNeeded, h]

/-- A pin leaves the slots' states alone. -/
theorem pinAccepted_entry_state (n k x : Nat) (s : State) (m j : Nat) :
    (dirEntry (pinAccepted n k x s) m j).state = (dirEntry s m j).state := by
  unfold pinAccepted
  split
  · by_cases h : m = n ∧ j = k
    · obtain ⟨rfl, rfl⟩ := h
      by_cases hj : j < (stream s m).dir.length
      · rw [dirEntry_modDir_self _ hj]
      · simp only [dirEntry]
        rw [List.getD_eq_default _ _ (by simpa using hj), List.getD_eq_default _ _ (by simpa using hj)]
    · rw [dirEntry_modDir_of_ne _ _ (by omega)]
  · rfl

/-! ### A fill begins -/

/-- The missing lines that an accepted stamp passes over are tallied, and nothing else (R18). -/
def stampsPassed (n stamp : Nat) (s : State) : State :=
  match (stream s n).lastStamp with
  | some l => if l + 1 < stamp then tallyAdd (.missing n) (stamp - l - 1) s else s
  | none => s

theorem stampsPassed_logFrame (n stamp : Nat) (s : State) : LogFrame s (stampsPassed n stamp s) := by
  unfold stampsPassed
  split
  · split
    · exact tallyAdd_logFrame _ _ s
    · exact .refl s
  · exact .refl s

theorem statusFields_stampsPassed (n stamp : Nat) (s : State) :
    statusFields (stampsPassed n stamp s) = statusFields s := by
  unfold stampsPassed
  split
  · split
    · exact statusFields_tallyAdd _ _ s
    · rfl
  · rfl

/-- The slot of a fill that has begun (R6). -/
def filledEntry (stamp count len : Nat) : DirEntry :=
  { stamp := some stamp, pixels := count, state := .filling, pin := false, awaiting := decide (count + 32 ≤ len),
    failed := false }

/-- The fill in progress after a header write of `len` bytes, at encoder position `e` (R6). -/
def fillAfter (k count len e : Nat) : Option Fill :=
  if count + 32 ≤ len then none else some { slot := k, remaining := count - (len - 32), next := len, start := e }

theorem fillBegun_eq (n k stamp count len : Nat) (s : State) : fillBegun n k stamp count len s =
    modDir n k (fun _ => filledEntry stamp count len) (modStream n (fun r =>
      { r with lastStamp := some stamp, fill := fillAfter k count len s.enc.e }) (stampsPassed n stamp s)) := rfl

theorem fillBegun_plateFrame (n k stamp count len : Nat) (s : State) : PlateFrame s (fillBegun n k stamp count len s) := by
  rw [fillBegun_eq]
  exact ((stampsPassed_logFrame n stamp s).plate.trans (modStream_plateFrame _ _ _)).trans (modDir_plateFrame _ _ _ _)

@[simp] theorem statusFields_fillBegun (n k stamp count len : Nat) (s : State) :
    statusFields (fillBegun n k stamp count len s) = statusFields s := by
  rw [fillBegun_eq, statusFields_modDir, statusFields_modStream (by exact fun _ => rfl), statusFields_stampsPassed]

/-- A fill leaves the holds alone. -/
theorem fillBegun_hold (n k stamp count len : Nat) (s : State) (m : Nat) :
    (stream (fillBegun n k stamp count len s) m).hold = (stream s m).hold := by
  rw [fillBegun_eq, stream_modDir_field (·.hold) (fun _ _ => rfl), stream_modStream_field (·.hold) (by exact fun _ => rfl),
    (stampsPassed_logFrame n stamp s).stream]

@[simp] theorem fillBegun_cap (n k stamp count len : Nat) (s : State) : (fillBegun n k stamp count len s).cap = s.cap := by
  rw [fillBegun_eq, modDir_cap, modStream_cap, (stampsPassed_logFrame n stamp s).cap]

theorem Quiet.fillBegun {s : State} (h : Quiet s) {n k stamp count len : Nat} :
    Quiet (fillBegun n k stamp count len s) :=
  h.of_same (fillBegun_hold n k stamp count len s) (fillBegun_cap ..) (fillBegun_plateFrame n k stamp count len s).toTake

/-- The slot of a fill that has begun is FILLING. -/
theorem fillBegun_entry_self {s : State} {n k : Nat} (stamp count len : Nat) (h : k < (stream s n).dir.length) :
    dirEntry (fillBegun n k stamp count len s) n k = filledEntry stamp count len := by
  rw [fillBegun_eq, dirEntry_modDir_self]
  rw [stream_modStream_field (fun r => r.dir.length) (by exact fun _ => rfl), (stampsPassed_logFrame n stamp s).stream]
  exact h

/-- The other slots are as they were. -/
theorem fillBegun_entry_of_ne {n m k j : Nat} (stamp count len : Nat) (s : State) (h : m ≠ n ∨ j ≠ k) :
    dirEntry (fillBegun n k stamp count len s) m j = dirEntry s m j := by
  rw [fillBegun_eq, dirEntry_modDir_of_ne _ _ h, dirEntry_modStream (by exact fun _ => rfl),
    (stampsPassed_logFrame n stamp s).dirEntry]

/-- What the slot held before does not matter. -/
theorem fillBegun_modDir (n k stamp count len : Nat) (f : DirEntry → DirEntry) (s : State) :
    fillBegun n k stamp count len (modDir n k f s) = fillBegun n k stamp count len s := by
  have passed : stampsPassed n stamp (modDir n k f s) = modDir n k f (stampsPassed n stamp s) := by
    unfold stampsPassed
    rw [stream_modDir_field (·.lastStamp) (fun _ _ => rfl)]
    split
    · split <;> rfl
    · rfl
  rw [fillBegun_eq, fillBegun_eq, passed]
  simp only [modDir, modStream_modStream, modStream_enc]
  congr 1
  funext r
  simp [List.modify_modify_eq, Function.comp_def]

/-! ### Headers (R4, R5) -/

/-- A header that passes its checks begins the fill, a needed stamp's slot being pinned (R6, R158). -/
theorem beginFill_eq {len : Nat} (h : 32 ≤ len) (n k stamp count : Nat) (t : Taking) :
    beginFill n k stamp count len t =
      { notes := t.notes ++ [headerNote n k count len]
        state := pinAccepted n k stamp (fillBegun n k stamp count len t.state) } := by
  have hrem : (count - (len - 32) = 0) = (count + 32 ≤ len) := propext (by omega)
  unfold beginFill
  simp only [hrem]
  rfl

/-- The state in which a header portion is judged: a busy slot given up, a fill in progress ended (R4, R9). -/
def headerReady (n k : Nat) (s : State) : State :=
  breakFill n (if (dirEntry s n k).busy then giveUp n k s else s)

/-- A good header with an accepted stamp begins a fill. -/
theorem takeHeader_of_good {n : Nat} {p : Portion} {t : Taking} {s : State} {stamp count : Nat}
    (hs : headerReady n p.slot t.state = s) (hg : GoodHeader (streamWindow s n).slotSize p.data stamp count)
    (hf : StampFits s n stamp) : takeHeader n p t =
      { notes := t.notes ++ [headerNote n p.slot count p.data.length]
        state := pinAccepted n p.slot stamp (fillBegun n p.slot stamp count p.data.length s) } := by
  have ok : stampRejected s n stamp = false := by
    rw [← Bool.not_eq_true, stampRejected_iff]
    exact not_not_intro hf
  unfold headerReady at hs
  unfold takeHeader
  simp only [hs, parseHeader_of_good hg, ok]
  exact beginFill_eq hg.length_le n p.slot stamp count { t with state := s }

/-- A rejected stamp makes the slot LOST with no stamp (R5). -/
theorem takeHeader_of_rejected {n : Nat} {p : Portion} {t : Taking} {s : State} {stamp count : Nat}
    (hs : headerReady n p.slot t.state = s) (hg : GoodHeader (streamWindow s n).slotSize p.data stamp count)
    (hf : ¬ StampFits s n stamp) : takeHeader n p t =
      { t with state := issueEvent .stampBad [n, p.slot, stamp] (rejectSlot n p.slot s) } := by
  unfold headerReady at hs
  unfold takeHeader
  simp only [hs, parseHeader_of_good hg, (stampRejected_iff s n stamp).mpr hf]
  rfl

/-- A bad header makes the slot LOST with no stamp (R4). -/
theorem takeHeader_of_bad {n : Nat} {p : Portion} {t : Taking} {s : State}
    (hs : headerReady n p.slot t.state = s) (hg : ∀ stamp count, ¬ GoodHeader (streamWindow s n).slotSize p.data stamp count) :
    takeHeader n p t = { t with state := issueEvent .headerBad [n, p.slot] (rejectSlot n p.slot s) } := by
  unfold headerReady at hs
  unfold takeHeader
  simp only [hs, parseHeader_of_bad hg]

/-- With no fill in progress none is ended. -/
theorem breakFill_of_none {s : State} {n : Nat} (h : (stream s n).fill = none) : breakFill n s = s := by
  simp [breakFill, h]

/-- A fill in progress ends: its slot is LOST, with SEQ_BREAK (R4, R6). -/
theorem breakFill_of_some {s : State} {n : Nat} {f : Fill} (h : (stream s n).fill = some f) : breakFill n s =
    issueEvent .seqBreak [n, f.slot, stampOf s n f.slot]
      (loseSlot n f.slot (modStream n (fun r => { r with fill := none }) s)) := by
  simp only [breakFill, h]
  rfl

/-- A slot that is not busy, and no fill in progress. -/
theorem headerReady_of_free {s : State} {n k : Nat} (hb : (dirEntry s n k).busy = false) (hf : (stream s n).fill = none) :
    headerReady n k s = s := by
  simp only [headerReady, hb]
  exact breakFill_of_none hf

/-- A slot with a READY line, or a filled one whose completion is outstanding, is given up with OVERRUN (R14). -/
theorem headerReady_of_line {s : State} {n k : Nat} (hb : (dirEntry s n k).state = .ready ∨
    (dirEntry s n k).state = .filling ∧ (dirEntry s n k).awaiting = true) (hf : (stream s n).fill = none) :
    headerReady n k s = lineGivenUp n k s := by
  have line : ((dirEntry s n k).state == .ready || (dirEntry s n k).state == .filling && (dirEntry s n k).awaiting) = true := by
    rcases hb with h | ⟨h, h'⟩
    · simp [h]
    · simp [h, h']
  have busy : (dirEntry s n k).busy = true := by
    rcases hb with h | ⟨h, h'⟩
    · simp [DirEntry.busy, h]
    · simp [DirEntry.busy, h, h']
  have given : giveUp n k s = lineGivenUp n k s := by
    simp only [giveUp, line]
    rfl
  simp only [headerReady, busy, given]
  exact breakFill_of_none ((lineGivenUp_dirFrame n k s).fill n ▸ hf)

/-- A DONE slot that a capture pins is given up without an event (R14, R158). -/
theorem headerReady_of_pinned {s : State} {n k : Nat} (hd : (dirEntry s n k).state = .done)
    (hp : (dirEntry s n k).pin = true) (hf : (stream s n).fill = none) :
    headerReady n k s = modDir n k (fun e => { e with pin := false, awaiting := false }) s := by
  have busy : (dirEntry s n k).busy = true := by simp [DirEntry.busy, hp]
  have given : giveUp n k s = modDir n k (fun e => { e with pin := false, awaiting := false }) s := by
    simp [giveUp, hd]
  simp only [headerReady, busy, given]
  exact breakFill_of_none ((modDir_dirFrame n k _ s).fill n ▸ hf)

/-- A slot that is not busy, and a fill in progress that the header ends (R4). -/
theorem headerReady_of_fill {s : State} {n k : Nat} {f : Fill} (hb : (dirEntry s n k).busy = false)
    (hf : (stream s n).fill = some f) : headerReady n k s = issueEvent .seqBreak [n, f.slot, stampOf s n f.slot]
      (loseSlot n f.slot (modStream n (fun r => { r with fill := none }) s)) := by
  simp only [headerReady, hb]
  exact breakFill_of_some hf

/-! ### A header write (R2, R9) -/

/-- A header write is one portion, at the start of its slot. -/
theorem HeaderWriteFor.portions {s : State} {w : UpWrite} {n k : Nat} (h : HeaderWriteFor s w n k) :
    portions (streamWindow s n) w = [{ slot := k, offset := 0, data := w.data }] := by
  obtain ⟨-, hn, -, ha, hl, he⟩ := h
  obtain ⟨-, -, -, hr⟩ := streamOf_spec hn
  exact portions_within ha hl hr (by omega)

theorem HeaderWriteFor.busyHeader {s : State} {w : UpWrite} {n k : Nat} (h : HeaderWriteFor s w n k) :
    busyHeader s n w = if (dirEntry s n k).busy then some k else none := by
  rw [Machine.busyHeader, h.portions]
  cases hb : (dirEntry s n k).busy <;> simp [hb]

theorem HeaderWriteFor.takeStreamWrite {s : State} {w : UpWrite} {n k : Nat} (h : HeaderWriteFor s w n k) :
    takeStreamWrite n w s =
      (let t := takeHeader n { slot := k, offset := 0, data := w.data } { notes := [], state := s }
       { t with notes := t.notes.filter (fun x => (dirEntry t.state n x.slot).state == .filling) }) := by
  rw [Machine.takeStreamWrite, h.portions]
  rfl

/-- A good header write, taken. -/
theorem HeaderWriteFor.taken_good {s u : State} {w : UpWrite} {n k stamp count : Nat} (h : HeaderWriteFor s w n k)
    (hs : headerReady n k s = u) (f : PlateFrame s u) (hl : (stream u n).dir.length = (stream s n).dir.length)
    (hg : GoodHeader (streamWindow s n).slotSize w.data stamp count) (hf : StampFits u n stamp) :
    Machine.takeStreamWrite n w s = { notes := [headerNote n k count w.data.length]
                                      state := pinAccepted n k stamp (fillBegun n k stamp count w.data.length u) } := by
  obtain ⟨-, -, hdir, -⟩ := id h
  have taken := takeHeader_of_good (p := { slot := k, offset := 0, data := w.data }) (t := { notes := [], state := s })
    hs (f.streamWindow n ▸ hg) hf
  have filling : (dirEntry (pinAccepted n k stamp (fillBegun n k stamp count w.data.length u)) n k).state = .filling := by
    rw [pinAccepted_entry_state, fillBegun_entry_self stamp count w.data.length (hl ▸ hdir), filledEntry]
  rw [h.takeStreamWrite, taken]
  simp [headerNote, filling]

/-- A header write that begins no fill, taken: its response concerns no fill. -/
theorem HeaderWriteFor.taken_none {s u : State} {w : UpWrite} {n k : Nat} (h : HeaderWriteFor s w n k)
    (ht : takeHeader n { slot := k, offset := 0, data := w.data } { notes := [], state := s } = { notes := [], state := u }) :
    Machine.takeStreamWrite n w s = { notes := [], state := u } := by
  rw [h.takeStreamWrite, ht]
  rfl

/-- A header write that no hold keeps back goes to the arbiter with the fills it belongs to. -/
theorem HeaderWriteFor.passed {s : State} {w : UpWrite} {n k : Nat} (h : HeaderWriteFor s w n k) :
    passWrite w true s =
      forwardPass (.write w (Machine.takeStreamWrite n w s).notes) (Machine.takeStreamWrite n w s).state :=
  passWrite_tracked h.1 h.2.1

theorem HeaderWriteFor.arrives {s : State} {w : UpWrite} {n k : Nat} (h : HeaderWriteFor s w n k)
    (hh : ∀ m, (stream s m).hold = none) (ht : s.toTake = [])
    (hp : (streamWindow s n).policy ≠ .hold ∨ (dirEntry s n k).busy = false) : arriveWrite w s =
      forwardPass (.write w (Machine.takeStreamWrite n w s).notes) (Machine.takeStreamWrite n w s).state := by
  have free : heldBy s w = none := heldBy_of_passed h.2.1 (hp.imp_right fun hb => by simp [h.busyHeader, hb])
  rw [arriveWrite_of_free hh ht, judgeWrite_of_plain h.1]
  simp only [free]
  exact h.passed

/-- Without a rejection the statement of a fill begun in a quiet state is the whole effect of the write. -/
theorem finish_fillBegun {s u : State} (hq : Quiet u) (n k stamp count len : Nat) (x : PassTxn) :
    finish s (forwardPass x (fillBegun n k stamp count len u)) =
      refreshStatus s (forwardPass x (fillBegun n k stamp count len u)) :=
  finish_of_quiet ((forwardPass_logFrame x _).quiet hq.fillBegun)

theorem finish_rejected {s u : State} (hq : Quiet u) (n k : Nat) (e : EventKind) (fs : List Nat) (x : PassTxn) :
    finish s (forwardPass x (issueEvent e fs (rejectSlot n k u))) =
      refreshStatus s (forwardPass x (issueEvent e fs (rejectSlot n k u))) :=
  finish_of_quiet (((issueEvent_logFrame e fs _).trans (forwardPass_logFrame x _)).quiet ((rejectSlot_dirFrame n k u).quiet hq))

theorem exec_headerWrite (w : UpWrite) (s : State) : exec (.headerWrite w) s = .next (finish s (arriveWrite w s)) := rfl

end Sys2Proof.Machine

open Sys2Proof Sys2Proof.Machine

/-- Settles O7, by the three outcomes of a header. -/
theorem headerWriteTaken : Obligations.HeaderWriteTaken := by
  unfold Obligations.HeaderWriteTaken
  intro s w n k hq h hb hfill
  have hs := headerReady_of_free hb hfill
  have arrived := h.arrives hq.1 hq.2.2 (.inr hb)
  refine ⟨fun stamp count hg hf => ?_, fun stamp count hg hf => ?_, fun hg => ?_⟩
  · have taken := h.taken_good hs (.refl s) rfl hg hf
    rw [pinAccepted_of_no_copy (by rw [fillBegun_cap]; exact hq.2.1)] at taken
    rw [exec_headerWrite, arrived, taken, finish_fillBegun hq, refreshStatus_of_eq (by simp)]
  · rw [exec_headerWrite, arrived, h.taken_none (takeHeader_of_rejected hs hg hf), finish_rejected hq]
  · rw [exec_headerWrite, arrived, h.taken_none (takeHeader_of_bad hs hg), finish_rejected hq]
end

section
/-! SUPPORT. Holds: what a held write meets, and when a hold stays as it is (R9, R10, R11). -/

namespace Sys2Proof.Machine

/-- Which busy slot a write meets depends on the stream's window and on which of its slots are busy. -/
theorem busyHeader_congr {s t : State} {n : Nat} (hw : streamWindow t n = streamWindow s n)
    (hd : ∀ k, (dirEntry t n k).busy = (dirEntry s n k).busy) (w : UpWrite) : busyHeader t n w = busyHeader s n w := by
  simp only [busyHeader, hw, hd]

/-- A header write for a busy slot meets it. -/
theorem HeaderWriteFor.busyHeader_of_busy {s : State} {w : UpWrite} {n k : Nat} (h : HeaderWriteFor s w n k)
    (hb : (dirEntry s n k).busy = true) : Machine.busyHeader s n w = some k := by rw [h.busyHeader, hb, if_pos rfl]

/-- A held write that is another, or none, meets what it meets in the state as it was. -/
theorem busyHeader_modStream {f : StreamRec → StreamRec} (hf : ∀ r, (f r).dir = r.dir) (n : Nat) (s : State) (m : Nat)
    (w : UpWrite) : busyHeader (modStream n f s) m w = busyHeader s m w :=
  busyHeader_congr (by rfl) (fun k => by rw [dirEntry_modStream hf]) w

theorem LogFrame.busyHeader {s t : State} (h : LogFrame s t) (n : Nat) (w : UpWrite) :
    busyHeader t n w = Machine.busyHeader s n w :=
  busyHeader_congr (h.plate.streamWindow n) (fun k => by rw [h.dirEntry]) w

/-- A change of the Record Writer, the tallies and the port alone releases no hold. -/
theorem LogFrame.releasable {s t : State} (h : LogFrame s t) (n : Nat) : releasable t n = Machine.releasable s n := by
  simp only [Machine.releasable, h.stream, h.busyHeader]

/-- With no field of the status block changed and nothing left to be done, a command's end changes nothing. -/
theorem finish_of_settled {b s : State} (hf : statusFields s = statusFields b) (hc : s.cap.copy = none)
    (ht : s.toTake = []) (hr : ∀ n, releasable s n = false) : finish b s = s := by
  rw [finish, refreshStatus_of_eq hf]
  exact settleHolds_of_settled hc ht hr 255

/-- A stream that holds a write has a record. -/
theorem lt_of_hold {s : State} {n : Nat} {h : Hold} (hs : (stream s n).hold = some h) : n < s.streams.length := by
  by_contra hn
  rw [stream, List.getD_eq_default _ _ (Nat.le_of_not_lt hn)] at hs
  exact absurd hs (by simp [StreamRec.off])

/-- A stream's hold set to another leaves the others' as they are. -/
theorem releasable_setHold_of_ne {n m : Nat} (g : Option Hold) (s : State) (h : m ≠ n) :
    releasable (modStream n (fun r => { r with hold := g }) s) m = releasable s m := by
  simp only [releasable, stream_modStream_of_ne _ s h,
    busyHeader_modStream (f := fun r => { r with hold := g }) (fun _ => rfl)]

/-- A stream's new hold is to be released when its held write meets no busy slot. -/
theorem releasable_setHold_self {s : State} {n : Nat} (h : n < s.streams.length) (g : Hold) :
    releasable (modStream n (fun r => { r with hold := some g }) s) n = (busyHeader s n g.held).isNone := by
  simp only [releasable, stream_modStream_self _ s h]
  rw [busyHeader_modStream (by exact fun _ => rfl)]

/-- A header write for a busy slot under HOLD is held (R9, R10). -/
theorem HeaderWriteFor.heldBy {s : State} {w : UpWrite} {n k : Nat} (h : HeaderWriteFor s w n k)
    (hb : (dirEntry s n k).busy = true) (hp : (streamWindow s n).policy = .hold) : Machine.heldBy s w = some n := by
  simp [Machine.heldBy, h.2.1, hp, h.busyHeader_of_busy hb]

/-- A stream that holds nothing begins a hold (R10). -/
theorem holdWrite_of_none {s : State} {n : Nat} (h : (stream s n).hold = none) (w : UpWrite) : holdWrite n w s =
    tallyAdd (.held n) 1 (modStream n (fun r => { r with hold := some { start := s.enc.e, held := w, queue := [] } }) s) := by
  simp [holdWrite, h]

/-- A write joins the queue of a hold that has a place (R10). -/
theorem queueWrite_of_hold {s : State} {n : Nat} {h : Hold} (hs : (stream s n).hold = some h) (w : UpWrite) :
    queueWrite n w s = if h.queue.length + 1 < 16 then
      modStream n (fun r => { r with hold := some { h with queue := h.queue ++ [w] } }) s else s := by
  simp only [queueWrite, hs]
  rfl

theorem exec_passThrough (e : PassEvent) (s : State) : exec (.passThrough e) s = .next (finish s (takePassEvent e s)) := rfl

end Sys2Proof.Machine

open Sys2Proof Sys2Proof.Machine

/-- Settles O8, clause by clause: a new hold, the three busy or interrupted slots whose header is taken, a queued write. -/
theorem busyHeaderWrite : Obligations.BusyHeaderWrite := by
  unfold Obligations.BusyHeaderWrite
  refine ⟨?held, ?line, ?pinned, ?broken, ?queued⟩
  case held =>
    intro s w n k hq h hb hp
    obtain ⟨hh, hc, ht⟩ := id hq
    obtain ⟨-, hoff, -⟩ := streamOf_spec h.2.1
    have arrived : arriveWrite w s = _ := (arriveWrite_of_free hh ht w).trans (judgeWrite_of_plain h.1 .arrive)
    simp only [h.heldBy hb hp, holdWrite_of_none (hh n)] at arrived
    rw [exec_headerWrite, arrived, finish_of_settled]
    · rw [statusFields_tallyAdd, statusFields_modStream (by exact fun _ => rfl)]
    · simpa using hc
    · simpa using ht
    · intro m
      rw [(tallyAdd_logFrame _ _ _).releasable]
      by_cases hm : m = n
      · rw [hm, releasable_setHold_self (lt_of_stream_ne_off hoff), h.busyHeader_of_busy hb]
        rfl
      · rw [releasable_setHold_of_ne _ _ hm, releasable_of_no_hold (hh m)]
  case line =>
    intro s w n k stamp count hq h hb hfill hp hg hf
    have frame := lineGivenUp_dirFrame n k s
    have given := frame.quiet hq
    have taken := h.taken_good (headerReady_of_line hb hfill) frame.plate (frame.length n) hg (frame.stampFits hf)
    rw [pinAccepted_of_no_copy (by rw [fillBegun_cap]; exact given.2.1)] at taken
    rw [exec_headerWrite, h.arrives hq.1 hq.2.2 (.inl (by simp [hp])), taken, finish_fillBegun given]
  case pinned =>
    intro s w n k stamp count hh ht h hd hpin hfill hp hg hf
    have frame := modDir_dirFrame n k (fun e => { e with pin := false, awaiting := false }) s
    have taken := h.taken_good (headerReady_of_pinned hd hpin hfill) frame.plate (frame.length n) hg (frame.stampFits hf)
    rw [exec_headerWrite, h.arrives hh ht (.inl (by simp [hp])), taken, fillBegun_modDir]
  case broken =>
    intro s w n k stamp count f hq h hb hfill hg hf
    have frame := (loseSlot_dirFrame n f.slot (modStream n (fun r => { r with fill := none }) s)).trans
      (issueEvent_logFrame .seqBreak [n, f.slot, stampOf s n f.slot] _).dirFrame
    have plate := (modStream_plateFrame n (fun r => { r with fill := none }) s).trans frame.plate
    have quiet := frame.quiet (hq.modStream (by exact fun _ => rfl))
    have length := (frame.length n).trans (stream_modStream_field (·.dir.length) (by exact fun _ => rfl) n s n)
    have last := (frame.lastStamp n).trans (stream_modStream_field (·.lastStamp) (by exact fun _ => rfl) n s n)
    have taken := h.taken_good (headerReady_of_fill hb hfill) plate length hg (hf.congr plate last)
    rw [pinAccepted_of_no_copy (by rw [fillBegun_cap]; exact quiet.2.1)] at taken
    rw [exec_headerWrite, h.arrives hq.1 hq.2.2 (.inr hb), taken, finish_fillBegun quiet]
  case queued =>
    intro s w n h hc ht hr hw hs
    have taken : takePassEvent (.write w) s = queueWrite n w s := by
      simp only [takePassEvent, arriveWrite_of_none_waiting ht, takeWrite, hw]
    rw [exec_passThrough, taken, queueWrite_of_hold hs]
    split
    · rw [finish_of_settled (statusFields_modStream (by exact fun _ => rfl) ..) hc ht]
      intro m
      by_cases hm : m = n
      · rw [hm, releasable_setHold_self (lt_of_hold hs)]
        simpa only [releasable, hs] using hr n
      · rw [releasable_setHold_of_ne _ _ hm, hr]
    · rw [finish_of_settled rfl hc ht hr]
end

section
/-! SUPPORT. The end of a hold: its held write taken, the queued writes let go, and those that stay behind a new hold (R11, R12). -/

namespace Sys2Proof.Machine

/-! ### The held write is taken -/

/-- A header write depends on what a write is judged by, on the streams' states and on the directory's length. -/
theorem HeaderWriteFor.congr {s t : State} {w : UpWrite} {n k : Nat} (h : HeaderWriteFor s w n k) (f : PlateFrame s t)
    (hs : ∀ m, (stream t m).state = (stream s m).state) (hd : (stream t n).dir.length = (stream s n).dir.length) :
    HeaderWriteFor t w n k := by
  obtain ⟨plain, hn, hk, ha, hl, he⟩ := h
  refine ⟨f.plainWrite plain, (streamOf_congr f.window f.anchor hs w).trans hn, hd ▸ hk, ?_, hl, ?_⟩
  · rw [f.streamWindow]; exact ha
  · rw [f.streamWindow]; exact he

/-- The hold of the stream is over, and nothing else has changed. -/
theorem HeaderWriteFor.unheld {s : State} {w : UpWrite} {n k : Nat} (h : HeaderWriteFor s w n k) :
    HeaderWriteFor (modStream n (fun r => { r with hold := none }) s) w n k :=
  h.congr (modStream_plateFrame _ _ s) (stream_modStream_field (·.state) (by exact fun _ => rfl) n s)
    (stream_modStream_field (·.dir.length) (by exact fun _ => rfl) n s n)

/-- With the only hold over, no stream holds a write. -/
theorem hold_unheld {s : State} {n : Nat} (ho : ∀ m, m ≠ n → (stream s m).hold = none) (m : Nat) :
    (stream (modStream n (fun r => { r with hold := none }) s) m).hold = none := by
  rcases stream_modStream_cases n (fun r => { r with hold := none }) s m with h | ⟨-, h⟩
  · by_cases hm : m = n
    · by_cases hl : n < s.streams.length
      · rw [hm, stream_modStream_self _ s hl]
      · rw [h, stream, List.getD_eq_default _ _ (by omega)]
        rfl
    · rw [h, ho m hm]
  · rw [h]

/-- The first header portion of a header write is the write. -/
theorem HeaderWriteFor.headerSlot {s : State} {w : UpWrite} {n k : Nat} (h : HeaderWriteFor s w n k) :
    Machine.headerSlot s n w = k := by
  rw [Machine.headerSlot, h.portions]
  rfl

/-- A held header write taken at the hold's end begins its fill, and the expiry is reported and tallied (R12, R14). -/
def expiredFill (n k stamp count : Nat) (w : UpWrite) (u : State) : State :=
  tallyAdd (.expiries n) 1 (issueEvent .holdExpired [n, k] (forwardPass (.write w [headerNote n k count w.data.length])
    (pinAccepted n k stamp (fillBegun n k stamp count w.data.length u))))

/-- A fill begun at a hold's end leaves the plates and the writes let go. -/
theorem expiredFill_plateFrame (n k stamp count : Nat) (w : UpWrite) (u : State) :
    PlateFrame u (expiredFill n k stamp count w u) :=
  ((fillBegun_plateFrame n k stamp count w.data.length u).trans (pinAccepted_dirFrame n k stamp _).plate).trans
    (((forwardPass_logFrame _ _).trans (issueEvent_logFrame _ _ _)).trans (tallyAdd_logFrame _ _ _)).plate

/-- A hold that ends by expiry: its held write is taken, and those queued are let go (R12). -/
theorem expireHold_of_header {s u : State} {n k stamp count start : Nat} {w : UpWrite} {q : List UpWrite}
    (hs : (stream s n).hold = some { start := start, held := w, queue := q }) (h : HeaderWriteFor s w n k)
    (hu : headerReady n k (modStream n (fun r => { r with hold := none }) s) = u)
    (f : DirFrame (modStream n (fun r => { r with hold := none }) s) u)
    (hg : GoodHeader (streamWindow s n).slotSize w.data stamp count) (hf : StampFits s n stamp) :
    expireHold n s = { expiredFill n k stamp count w u with
      toTake := q.map (fun w => { stream := n, write := w, mode := .arrive }) ++ s.toTake } := by
  have frame := modStream_plateFrame n (fun r => { r with hold := none }) s
  have last := stream_modStream_field (·.lastStamp) (f := fun r => { r with hold := none }) (fun _ => rfl) n s n
  have forced : takeWrite w .forced (modStream n (fun r => { r with hold := none }) s) = _ :=
    (judgeWrite_of_plain h.unheld.1 .forced).trans h.unheld.passed
  rw [h.unheld.taken_good hu f.plate (f.length n) (frame.streamWindow n ▸ hg) (f.stampFits (hf.congr frame last))] at forced
  unfold expireHold
  simp only [hs, forced, h.headerSlot]
  have waits : (expiredFill n k stamp count w u).toTake = s.toTake :=
    (expiredFill_plateFrame n k stamp count w u).toTake.trans (f.plate.toTake.trans frame.toTake)
  rw [← waits]
  rfl

theorem exec_holdExpired (n : Fin 8) (s : State) :
    exec (.holdExpired n) s = .next (if holdDue s n then finish s (expireHold n s) else s) := rfl

/-- A hold is due at its start plus the hold limit (R12). -/
theorem holdDue_iff {s : State} {n : Nat} {h : Hold} (hs : (stream s n).hold = some h) :
    holdDue s n = decide (h.start + (streamWindow s n).holdLimit ≤ s.enc.e) := by
  simp only [holdDue, hs]

/-- With nothing queued, nothing is let go. -/
theorem expireHold_of_alone {s u : State} {n k stamp count start : Nat} {w : UpWrite}
    (hs : (stream s n).hold = some { start := start, held := w, queue := [] }) (h : HeaderWriteFor s w n k)
    (hu : headerReady n k (modStream n (fun r => { r with hold := none }) s) = u)
    (f : DirFrame (modStream n (fun r => { r with hold := none }) s) u)
    (hg : GoodHeader (streamWindow s n).slotSize w.data stamp count) (hf : StampFits s n stamp) :
    expireHold n s = expiredFill n k stamp count w u := by
  rw [expireHold_of_header hs h hu f hg hf]
  have waits : (expiredFill n k stamp count w u).toTake = s.toTake :=
    (expiredFill_plateFrame n k stamp count w u).toTake.trans f.plate.toTake
  simp only [List.map_nil, List.nil_append, ← waits]

/-- A fill begun at a hold's end leaves a quiet state quiet. -/
theorem Quiet.expiredFill {u : State} (hq : Quiet u) (n k stamp count : Nat) (w : UpWrite) :
    Quiet (expiredFill n k stamp count w u) :=
  (((forwardPass_logFrame _ _).trans (issueEvent_logFrame _ _ _)).trans (tallyAdd_logFrame _ _ _)).quiet
    ((pinAccepted_dirFrame n k stamp _).quiet hq.fillBegun)

end Sys2Proof.Machine
end

section
/-! SUPPORT. Writes let go: the first begins a new hold and the others stay behind it (R11). -/

namespace Sys2Proof.Machine

/-- A stream set to what it is. -/
theorem modStream_of_eq {s : State} {n : Nat} {f : StreamRec → StreamRec} (h : f (stream s n) = stream s n) :
    modStream n f s = s := by
  have same : s.streams.modify n f = s.streams := by
    refine List.ext_getElem? fun i => ?_
    rw [List.getElem?_modify]
    by_cases hi : n = i
    · obtain rfl := hi
      cases hx : s.streams[n]? with
      | none => rfl
      | some x =>
        have hr : stream s n = x := by simp [stream, List.getD, hx]
        rw [hr] at h
        simp [h]
    · cases s.streams[i]? <;> simp [hi]
  simp only [modStream, same]

/-- The writes let go do not tell in the status block. -/
theorem refreshStatus_withToTake (b s : State) (l : List LetGo) :
    refreshStatus b { s with toTake := l } = { refreshStatus b s with toTake := l } := by
  have same : statusFields { s with toTake := l } = statusFields s := rfl
  unfold refreshStatus
  rw [same]
  split
  · rfl
  · unfold promptStatus
    split <;> rfl

/-- A write let go behind a new hold of its stream joins its queue, with no status field changed (R11). -/
theorem takeLetGo_behind {s : State} {n : Nat} {h : Hold} (hs : (stream s n).hold = some h) (w : UpWrite)
    (hq : h.queue.length + 1 < 16) :
    takeLetGo { stream := n, write := w, mode := .arrive } s =
      modStream n (fun r => { r with hold := some { h with queue := h.queue ++ [w] } }) s := by
  simp only [takeLetGo, hs, queueWrite_of_hold hs, if_pos hq]
  rfl

/-- The first write let go, behind a new hold of its stream that has a place, is taken next (R11). -/
theorem nextLetGo_behind {s : State} {n : Nat} {h : Hold} (hs : (stream s n).hold = some h) (w : UpWrite)
    (hq : h.queue.length + 1 < 16) (l : List LetGo) :
    nextLetGo s [] ({ stream := n, write := w, mode := .arrive } :: l) =
      some ({ stream := n, write := w, mode := .arrive }, l) := by
  have free : queueFull s n = false := by
    simp only [queueFull, hs]
    exact decide_eq_false (Nat.not_le_of_lt hq)
  have can : takeable s { stream := n, write := w, mode := .arrive } = true := by
    simp [takeable, letGoKeeper, hs, free]
  simp [nextLetGo, can]

/-- The writes let go behind a new hold stay queued in order (R11). -/
theorem drain_behind {n : Nat} (ws : List UpWrite) {s : State} {h : Hold} {f : Nat} (hs : (stream s n).hold = some h)
    (hf : ws.length < f) (hq : h.queue.length + ws.length < 16) :
    drain f { s with toTake := ws.map (fun w => { stream := n, write := w, mode := .arrive }) } =
      { modStream n (fun r => { r with hold := some { h with queue := h.queue ++ ws } }) s with toTake := [] } := by
  induction ws generalizing s h f with
  | nil =>
    obtain ⟨f, rfl⟩ : ∃ g, f = g + 1 := ⟨f - 1, by simp at hf; omega⟩
    have same : modStream n (fun r => { r with hold := some { h with queue := h.queue ++ [] } }) s = s :=
      modStream_of_eq (by simp only [List.append_nil]; rw [← hs])
    rw [same]
    rfl
  | cons w ws ih =>
    obtain ⟨f, rfl⟩ : ∃ g, f = g + 1 := ⟨f - 1, by omega⟩
    simp only [List.length_cons] at hf hq
    have place : h.queue.length + 1 < 16 := by omega
    have next := nextLetGo_behind (s := { s with
      toTake := (w :: ws).map (fun w => { stream := n, write := w, mode := .arrive }) }) hs w place
      (ws.map (fun w => { stream := n, write := w, mode := .arrive }))
    have taken := takeLetGo_behind (s := { s with
      toTake := ws.map (fun w => { stream := n, write := w, mode := .arrive }) }) hs w place
    have held : (stream (modStream n (fun r => { r with hold := some { h with queue := h.queue ++ [w] } }) s) n).hold =
        some { h with queue := h.queue ++ [w] } := by rw [stream_modStream_self _ s (lt_of_hold hs)]
    have rest := ih (f := f) held (by omega) (by simp; omega)
    rw [modStream_modStream] at rest
    simp only [List.append_assoc, List.singleton_append] at rest
    have same (l l' : List LetGo) : statusFields (modStream n (fun r => { r with
        hold := some { h with queue := h.queue ++ [w] } }) { s with toTake := l }) = statusFields { s with toTake := l' } :=
      statusFields_modStream (by exact fun _ => rfl) n _
    unfold drain
    simp only [List.map_cons] at next ⊢
    rw [next]
    simp only []
    rw [taken, refreshStatus_of_eq (same _ _)]
    exact rest

/-- With no copy and no hold left to be released, what is left to be done is that the writes let go are taken. -/
theorem settleHolds_of_drained {s t : State} (hc : s.cap.copy = none) (hd : drain 1024 s = t) (hc' : t.cap.copy = none)
    (hr : ∀ n, releasable t n = false) (f : Nat) : settleHolds (f + 1) s = t := by
  have hs : testSegments s = s := by simp [testSegments, hc]
  have hf : (List.range 8).find? (releasable t) = none := by simp [List.find?_eq_none, hr]
  simp [settleHolds, hs, hd, advanceCapture, hc', hf]

/-- The first write let go is a header write for a busy slot: it begins a new hold, with a fresh timer, and the writes behind
it stay queued (R11). -/
theorem drain_newHold {s : State} {n j f : Nat} {v : UpWrite} {ws : List UpWrite}
    (hh : ∀ m, (stream s m).hold = none) (hv : HeaderWriteFor s v n j) (hb : (dirEntry s n j).busy = true)
    (hp : (streamWindow s n).policy = .hold) (hf : ws.length < f) (hq : ws.length < 16) :
    drain (f + 1) { s with toTake := (v :: ws).map (fun w => { stream := n, write := w, mode := .arrive }) } =
      { tallyAdd (.held n) 1 (modStream n (fun r => { r with hold := some { start := s.enc.e, held := v, queue := ws } }) s)
        with toTake := [] } := by
  have hn := lt_of_stream_ne_off (streamOf_spec hv.2.1).2.1
  have can : ∀ l, nextLetGo { s with toTake := l } [] ((v :: ws).map (fun w => { stream := n, write := w, mode := .arrive })) =
      some ({ stream := n, write := v, mode := .arrive }, ws.map (fun w => { stream := n, write := w, mode := .arrive })) := by
    intro l
    have none_full : ∀ m, queueFull { s with toTake := l } m = false := by
      intro m
      have : (stream { s with toTake := l } m).hold = none := hh m
      simp only [queueFull, this]
    have can : takeable { s with toTake := l } { stream := n, write := v, mode := .arrive } = true := by
      simp only [takeable]
      cases letGoKeeper { s with toTake := l } { stream := n, write := v, mode := .arrive } <;> simp [none_full]
    simp [nextLetGo, can]
  have taken : ∀ l, takeLetGo { stream := n, write := v, mode := .arrive } { s with toTake := l } =
      { tallyAdd (.held n) 1 (modStream n (fun r => { r with hold := some { start := s.enc.e, held := v, queue := [] } }) s)
        with toTake := l } := by
    intro l
    have none_held : ∀ m, (stream { s with toTake := l } m).hold = none := hh
    have kept : heldBy { s with toTake := l } v = some n := hv.heldBy hb hp
    have plain : PlainWrite { s with toTake := l } v := hv.1
    simp only [takeLetGo, none_held n, takeWrite, holderOf_of_no_hold none_held, judgeWrite_of_plain plain, kept,
      holdWrite_of_none (none_held n)]
    rfl
  have held : (stream (tallyAdd (.held n) 1 (modStream n (fun r => { r with
      hold := some { start := s.enc.e, held := v, queue := [] } }) s)) n).hold =
        some { start := s.enc.e, held := v, queue := [] } := by
    rw [(tallyAdd_logFrame _ _ _).stream, stream_modStream_self _ s hn]
  have same (l l' : List LetGo) : statusFields { tallyAdd (.held n) 1 (modStream n (fun r => { r with
      hold := some { start := s.enc.e, held := v, queue := [] } }) s) with toTake := l } =
        statusFields { s with toTake := l' } :=
    (statusFields_tallyAdd _ _ _).trans (statusFields_modStream (by exact fun _ => rfl) n s)
  have rest := drain_behind ws held hf (by simpa using hq)
  rw [drain, can]
  simp only []
  rw [taken, refreshStatus_of_eq (same _ _), rest]
  simp only [modStream, tallyAdd, List.modify_modify_eq, List.nil_append]
  rfl

/-- What is no directory, no last accepted stamp and no fill in progress, a fill that begins leaves alone. -/
theorem fillBegun_field {α : Type} (g : StreamRec → α)
    (hg : ∀ r d l f, g { r with dir := d, lastStamp := l, fill := f } = g r) (n k stamp count len : Nat) (s : State) (m : Nat) :
    g (stream (fillBegun n k stamp count len s) m) = g (stream s m) := by
  rw [fillBegun_eq, stream_modDir_field g (by exact fun r d => hg r d r.lastStamp r.fill),
    stream_modStream_field g (by exact fun r => hg r r.dir _ _), (stampsPassed_logFrame n stamp s).stream]

theorem fillBegun_dir_length (n k stamp count len : Nat) (s : State) (m : Nat) :
    (stream (fillBegun n k stamp count len s) m).dir.length = (stream s m).dir.length := by
  rw [fillBegun_eq, modDir_dir_length, stream_modStream_field (·.dir.length) (by exact fun _ => rfl),
    (stampsPassed_logFrame n stamp s).stream]

/-- Without a copy, what follows a fill begun at a hold's end changes the Record Writer, the tallies and the port alone. -/
theorem expiredFill_logFrame {n k stamp count : Nat} {w : UpWrite} {u : State} (hc : u.cap.copy = none) :
    LogFrame (fillBegun n k stamp count w.data.length u) (expiredFill n k stamp count w u) := by
  rw [expiredFill, pinAccepted_of_no_copy (by rw [fillBegun_cap]; exact hc)]
  exact ((forwardPass_logFrame _ _).trans (issueEvent_logFrame _ _ _)).trans (tallyAdd_logFrame _ _ _)

/-- A READY line given up leaves the other slots alone. -/
theorem lineGivenUp_entry_of_ne {n m k j : Nat} (s : State) (h : m ≠ n ∨ j ≠ k) :
    dirEntry (lineGivenUp n k s) m j = dirEntry s m j := by
  rw [lineGivenUp, dirEntry_modDir_of_ne _ _ h]
  exact (((withdrawNotes_logFrame n k s).trans (tallyAdd_logFrame _ _ _)).trans (issueEvent_logFrame _ _ _)).dirEntry m j

/-- A header write for another slot of the ring is one still, after the expiry, and meets its slot as it was. -/
theorem HeaderWriteFor.after_expiry {s : State} {v w : UpWrite} {n k j : Nat} (h : HeaderWriteFor s v n j) (hj : j ≠ k)
    (hc : s.cap.copy = none) (stamp count : Nat) :
    let t := expiredFill n k stamp count w (lineGivenUp n k (modStream n (fun r => { r with hold := none }) s))
    HeaderWriteFor t v n j ∧ dirEntry t n j = dirEntry s n j := by
  intro t
  have given := lineGivenUp_dirFrame n k (modStream n (fun r => { r with hold := none }) s)
  have log : LogFrame _ t := expiredFill_logFrame (n := n) (k := k) (stamp := stamp) (count := count) (w := w)
    (given.cap ▸ hc : (lineGivenUp n k (modStream n (fun r => { r with hold := none }) s)).cap.copy = none)
  have plate : PlateFrame s t := ((modStream_plateFrame _ _ s).trans given.plate).trans (expiredFill_plateFrame ..)
  have state (m : Nat) : (stream t m).state = (stream s m).state := by
    rw [log.stream, fillBegun_field (·.state) (by exact fun _ _ _ _ => rfl), given.state,
      stream_modStream_field (·.state) (by exact fun _ => rfl)]
  have length : (stream t n).dir.length = (stream s n).dir.length := by
    rw [log.stream, fillBegun_dir_length, given.length, stream_modStream_field (·.dir.length) (by exact fun _ => rfl)]
  refine ⟨h.congr plate state length, ?_⟩
  rw [log.dirEntry, fillBegun_entry_of_ne _ _ _ _ (.inr hj), lineGivenUp_entry_of_ne _ (.inr hj),
    dirEntry_modStream (by exact fun _ => rfl)]

/-- A state whose writes let go have all been taken. -/
theorem withToTake_of_eq {s : State} {l : List LetGo} (h : s.toTake = l) : { s with toTake := l } = s := by rw [← h]

/-- The first of the writes let go begins a new hold: nothing else is left to be done (R11). -/
theorem finish_newHold {b s : State} {n j : Nat} {v : UpWrite} {ws : List UpWrite} (hq : Quiet s)
    (hv : HeaderWriteFor s v n j) (hb : (dirEntry s n j).busy = true) (hp : (streamWindow s n).policy = .hold)
    (hl : ws.length < 15) :
    finish b { s with toTake := (v :: ws).map (fun w => { stream := n, write := w, mode := .arrive }) } =
      tallyAdd (.held n) 1 (modStream n (fun r => { r with hold := some { start := s.enc.e, held := v, queue := ws } })
        (refreshStatus b s)) := by
  have frame := refreshStatus_logFrame b s
  obtain ⟨hh, hc, ht⟩ := frame.quiet hq
  have header : HeaderWriteFor (refreshStatus b s) v n j :=
    hv.congr frame.plate (fun m => by rw [frame.stream]) (by rw [frame.stream])
  have busy : (dirEntry (refreshStatus b s) n j).busy = true := by rw [frame.dirEntry]; exact hb
  have drained := drain_newHold (f := 1023) (ws := ws) hh header busy (frame.plate.streamWindow n ▸ hp) (by omega) (by omega)
  have held := lt_of_stream_ne_off (streamOf_spec header.2.1).2.1
  rw [finish, refreshStatus_withToTake, ← frame.plate.enc]
  refine settleHolds_of_drained (by exact hc) (drained.trans (withToTake_of_eq (by exact ht))) hc (fun m => ?_) 255
  rw [(tallyAdd_logFrame _ _ _).releasable]
  by_cases hm : m = n
  · rw [hm, releasable_setHold_self held, header.busyHeader_of_busy busy]
    rfl
  · rw [releasable_setHold_of_ne _ _ hm, releasable_of_no_hold (hh m)]

end Sys2Proof.Machine

open Sys2Proof Sys2Proof.Machine

/-- Settles O9: the two expiries, the hold that is not due, the queue behind a new hold, and the write that waits. -/
theorem holdExpired : Obligations.HoldExpired := by
  unfold Obligations.HoldExpired
  refine ⟨?line, ?pinned, ?early, ?again, ?stuck⟩
  case line =>
    intro s n k stamp count start w hc ht ho hs hdue h hb hfill hg hf
    have quiet : Quiet (modStream n (fun r => { r with hold := none }) s) := ⟨hold_unheld ho, hc, ht⟩
    have entry := dirEntry_modStream (f := fun r => { r with hold := none }) (fun _ => rfl) n s n k
    have fill := stream_modStream_field (·.fill) (f := fun r => { r with hold := none }) (fun _ => rfl) n s n
    have frame := lineGivenUp_dirFrame n k (modStream n (fun r => { r with hold := none }) s)
    have expired := expireHold_of_alone hs h (headerReady_of_line (.inl (entry ▸ hb)) (fill.trans hfill)) frame hg hf
    rw [exec_holdExpired, holdDue_iff hs, if_pos (by simpa using hdue), expired,
      finish_of_quiet ((frame.quiet quiet).expiredFill n k stamp count w), expiredFill,
      pinAccepted_of_no_copy (by rw [fillBegun_cap]; exact (frame.quiet quiet).2.1)]
  case pinned =>
    intro s n k stamp count start w ht ho hs hdue h hd hp hfill hg hf
    have entry := dirEntry_modStream (f := fun r => { r with hold := none }) (fun _ => rfl) n s n k
    have fill := stream_modStream_field (·.fill) (f := fun r => { r with hold := none }) (fun _ => rfl) n s n
    have expired := expireHold_of_alone hs h (headerReady_of_pinned (entry ▸ hd) (entry ▸ hp) (fill.trans hfill))
      (modDir_dirFrame n k _ _) hg hf
    rw [exec_holdExpired, holdDue_iff hs, if_pos (by simpa using hdue), expired, expiredFill, fillBegun_modDir]
  case early =>
    intro s n h hs hdue
    rw [exec_holdExpired, holdDue_iff hs, if_neg (by simpa using hdue)]
  case again =>
    intro s n k j stamp count start w v behind hc ht ho hs hlen hdue h hb hfill hg hf hv hne hbusy hp
    have quiet : Quiet (modStream n (fun r => { r with hold := none }) s) := ⟨hold_unheld ho, hc, ht⟩
    have entry := dirEntry_modStream (f := fun r => { r with hold := none }) (fun _ => rfl) n s n k
    have fill := stream_modStream_field (·.fill) (f := fun r => { r with hold := none }) (fun _ => rfl) n s n
    have frame := lineGivenUp_dirFrame n k (modStream n (fun r => { r with hold := none }) s)
    have expired := expireHold_of_header hs h (headerReady_of_line (.inl (entry ▸ hb)) (fill.trans hfill)) frame hg hf
    obtain ⟨header, kept⟩ := hv.after_expiry (w := w) hne hc stamp count
    have plate := ((modStream_plateFrame n (fun r => { r with hold := none }) s).trans frame.plate).trans
      (expiredFill_plateFrame n k stamp count w _)
    have done := finish_newHold (b := s) ((frame.quiet quiet).expiredFill n k stamp count w) header
      (kept ▸ hbusy) (plate.streamWindow n ▸ hp) hlen
    rw [ht, List.append_nil] at expired
    rw [exec_holdExpired, holdDue_iff hs, if_pos (by simpa using hdue), expired]
    rw [done, plate.enc, expiredFill, pinAccepted_of_no_copy (by rw [fillBegun_cap]; exact (frame.quiet quiet).2.1)]
  case stuck =>
    intro s x m h w hc hr ht hmode hx hw hs hfull htag
    have waits : waitsBehind s w = true := by simp [waitsBehind, ht, htag]
    have full : queueFull s m = true := by simpa [queueFull, hs, Config.holdPlaces] using hfull
    have stuck : takeable s x = false := by simp [takeable, hmode, letGoKeeper, hx, keeperOf, hw, full]
    have drained : drain 1024 s = s := by simp [drain, ht, nextLetGo, stuck]
    have arrived : takePassEvent (.write w) s = s := by simp [takePassEvent, arriveWrite, waits]
    rw [exec_passThrough, arrived, finish, refreshStatus_of_eq rfl, settleHolds_of_drained hc drained hc hr]
end

section
/-! SUPPORT. What the Ring Tracker makes of a continuation write (R2, R6, R7). -/

namespace Sys2Proof.Machine

theorem exec_continuationWrite (w : UpWrite) (s : State) :
    exec (.continuationWrite w) s = .next (finish s (arriveWrite w s)) := rfl

/-- In a quiet state a plain write to the ring that meets no busy slot goes to the arbiter with the fills it belongs to. -/
theorem arriveWrite_of_ring {s : State} {w : UpWrite} {n : Nat} (hq : Quiet s) (hw : PlainWrite s w)
    (hn : streamOf s w = some n) (hb : busyHeader s n w = none) : arriveWrite w s =
      forwardPass (.write w (takeStreamWrite n w s).notes) (takeStreamWrite n w s).state := by
  obtain ⟨hh, -, ht⟩ := hq
  rw [arriveWrite_of_free hh ht, judgeWrite_of_plain hw]
  simp only [heldBy_of_passed hn (.inr hb)]
  exact passWrite_tracked hw hn

/-- A write within a slot, not at its start, is no header: it meets no busy slot. -/
theorem busyHeader_of_inside {s : State} {w : UpWrite} {n k off : Nat}
    (hp : portions (streamWindow s n) w = [{ slot := k, offset := off, data := w.data }]) (ho : 0 < off) :
    busyHeader s n w = none := by
  simp [busyHeader, hp, Nat.ne_of_gt ho]

/-- A write within a slot, not at its start, is taken as a continuation. -/
theorem takeStreamWrite_of_inside {s : State} {w : UpWrite} {n k off : Nat}
    (hp : portions (streamWindow s n) w = [{ slot := k, offset := off, data := w.data }]) (ho : 0 < off) :
    takeStreamWrite n w s =
      (let t := takeContinuation n { slot := k, offset := off, data := w.data } { notes := [], state := s }
       { t with notes := t.notes.filter (fun x => (dirEntry t.state n x.slot).state == .filling) }) := by
  rw [takeStreamWrite, hp]
  simp [takePortion, Nat.ne_of_gt ho]

/-- Without a fill in progress a continuation passes untracked (R6). -/
theorem takeContinuation_of_no_fill {n : Nat} {t : Taking} (h : (stream t.state n).fill = none) (p : Portion) :
    takeContinuation n p t = t := by simp [takeContinuation, h]

/-- The fill goes on with these remaining bytes at this offset. -/
def fillGoesOn (n : Nat) (f : Fill) (len : Nat) (s : State) : State :=
  modStream n (fun r => { r with fill := some { f with remaining := f.remaining - len, next := f.next + len } }) s

/-- The fill's slot awaits the response of its last write. -/
def fillEnded (n k : Nat) (s : State) : State :=
  modDir n k (fun e => { e with awaiting := true }) (modStream n (fun r => { r with fill := none }) s)

/-- The fill is broken: its slot is LOST, with SEQ_BREAK. -/
def fillBroken (n k : Nat) (s : State) : State :=
  issueEvent .seqBreak [n, k, stampOf s n k] (loseSlot n k (modStream n (fun r => { r with fill := none }) s))

/-- At the next expected offset the fill goes on (R6). -/
theorem takeContinuation_of_next {n : Nat} {t : Taking} {f : Fill} (h : (stream t.state n).fill = some f)
    {data : List (Option Byte)} (hr : data.length < f.remaining) :
    takeContinuation n { slot := f.slot, offset := f.next, data := data } t =
      { notes := t.notes ++ [{ stream := n, slot := f.slot, completing := false }]
        state := fillGoesOn n f data.length t.state } := by
  have more : f.remaining - data.length ≠ 0 := by omega
  simp only [takeContinuation, h, more]
  rfl

/-- The slot's last bytes end the fill: the slot awaits the write's response (R6). -/
theorem takeContinuation_of_last {n : Nat} {t : Taking} {f : Fill} (h : (stream t.state n).fill = some f)
    {data : List (Option Byte)} (hr : f.remaining ≤ data.length) :
    takeContinuation n { slot := f.slot, offset := f.next, data := data } t =
      { notes := t.notes ++ [{ stream := n, slot := f.slot, completing := true }]
        state := fillEnded n f.slot t.state } := by
  simp only [takeContinuation, h, Nat.sub_eq_zero_of_le hr]
  rfl

/-- Elsewhere the write breaks the fill (R6). -/
theorem takeContinuation_of_break {n : Nat} {t : Taking} {p : Portion} {f : Fill} (h : (stream t.state n).fill = some f)
    (hb : ¬ (p.slot = f.slot ∧ p.offset = f.next)) :
    takeContinuation n p t = { t with state := fillBroken n f.slot t.state } := by
  have elsewhere : ¬ (f.slot = p.slot ∧ f.next = p.offset) := fun ⟨a, b⟩ => hb ⟨a.symm, b.symm⟩
  simp only [takeContinuation, h, if_neg elsewhere, breakFill_of_some h, fillBroken]

theorem statusFields_fillGoesOn (n : Nat) (f : Fill) (len : Nat) (s : State) :
    statusFields (fillGoesOn n f len s) = statusFields s := statusFields_modStream (by exact fun _ => rfl) ..

theorem Quiet.fillGoesOn {s : State} (h : Quiet s) (n : Nat) (f : Fill) (len : Nat) : Quiet (fillGoesOn n f len s) :=
  h.modStream (by exact fun _ => rfl)

theorem Quiet.fillBroken {s : State} (h : Quiet s) (n k : Nat) : Quiet (fillBroken n k s) :=
  (issueEvent_logFrame _ _ _).quiet ((loseSlot_dirFrame n k _).quiet (h.modStream (by exact fun _ => rfl)))

theorem statusFields_fillEnded (n k : Nat) (s : State) : statusFields (fillEnded n k s) = statusFields s :=
  (statusFields_modDir _ _ _ _).trans (statusFields_modStream (by exact fun _ => rfl) ..)

theorem fillEnded_plateFrame (n k : Nat) (s : State) : PlateFrame s (fillEnded n k s) :=
  (modStream_plateFrame n _ s).trans (modDir_plateFrame n k _ _)

theorem Quiet.fillEnded {s : State} (h : Quiet s) (n k : Nat) : Quiet (fillEnded n k s) :=
  (h.modStream (f := fun r => { r with fill := none }) (fun _ => rfl)).modDir

/-- What is neither directory nor fill in progress, the end of a fill leaves alone. -/
theorem fillEnded_field {α : Type} (g : StreamRec → α) (hg : ∀ r d f, g { r with dir := d, fill := f } = g r)
    (n k : Nat) (s : State) (m : Nat) : g (stream (fillEnded n k s) m) = g (stream s m) := by
  rw [fillEnded, stream_modDir_field g (by exact fun r d => hg r d r.fill),
    stream_modStream_field g (by exact fun r => hg r r.dir none)]

theorem fillEnded_dir_length (n k : Nat) (s : State) (m : Nat) :
    (stream (fillEnded n k s) m).dir.length = (stream s m).dir.length := by
  rw [fillEnded, modDir_dir_length, stream_modStream_field (·.dir.length) (by exact fun _ => rfl)]

theorem fillEnded_fill {s : State} {n : Nat} (h : n < s.streams.length) (k : Nat) : (stream (fillEnded n k s) n).fill = none := by
  rw [fillEnded, stream_modDir_field (·.fill) (by exact fun _ _ => rfl), stream_modStream_self _ s h]

theorem fillEnded_entry_self {s : State} {n k : Nat} (h : k < (stream s n).dir.length) :
    dirEntry (fillEnded n k s) n k = { dirEntry s n k with awaiting := true } := by
  have hk : k < (stream (modStream n (fun r => { r with fill := none }) s) n).dir.length := by
    rw [stream_modStream_field (·.dir.length) (by exact fun _ => rfl)]
    exact h
  rw [fillEnded, dirEntry_modDir_self _ hk, dirEntry_modStream (by exact fun _ => rfl)]

theorem fillEnded_entry_of_ne {n k j : Nat} (s : State) (h : j ≠ k) : dirEntry (fillEnded n k s) n j = dirEntry s n j := by
  rw [fillEnded, dirEntry_modDir_of_ne _ _ (.inr h), dirEntry_modStream (by exact fun _ => rfl)]

/-- A continuation write that the fill expects: the fill goes on (R6). -/
theorem takeStreamWrite_of_next {s : State} {w : UpWrite} {n : Nat} {f : Fill}
    (hp : portions (streamWindow s n) w = [{ slot := f.slot, offset := f.next, data := w.data }]) (ho : 0 < f.next)
    (hfill : (stream s n).fill = some f) (hst : (dirEntry s n f.slot).state = .filling)
    (hr : w.data.length < f.remaining) : takeStreamWrite n w s =
      { notes := [{ stream := n, slot := f.slot, completing := false }], state := fillGoesOn n f w.data.length s } := by
  have filling : dirEntry (fillGoesOn n f w.data.length s) n f.slot = dirEntry s n f.slot :=
    dirEntry_modStream (by exact fun _ => rfl) ..
  rw [takeStreamWrite_of_inside hp ho, takeContinuation_of_next (t := { notes := [], state := s }) hfill hr]
  simp [filling, hst]

/-- The write with the slot's last bytes ends the fill (R6). -/
theorem takeStreamWrite_of_last {s : State} {w : UpWrite} {n : Nat} {f : Fill}
    (hp : portions (streamWindow s n) w = [{ slot := f.slot, offset := f.next, data := w.data }]) (ho : 0 < f.next)
    (hfill : (stream s n).fill = some f) (hdir : f.slot < (stream s n).dir.length)
    (hst : (dirEntry s n f.slot).state = .filling) (hr : f.remaining ≤ w.data.length) : takeStreamWrite n w s =
      { notes := [{ stream := n, slot := f.slot, completing := true }], state := fillEnded n f.slot s } := by
  rw [takeStreamWrite_of_inside hp ho, takeContinuation_of_last (t := { notes := [], state := s }) hfill hr]
  simp [fillEnded_entry_self hdir, hst]

/-- A write elsewhere breaks the fill, and its response concerns none (R6). -/
theorem takeStreamWrite_of_break {s : State} {w : UpWrite} {n k off : Nat} {f : Fill}
    (hp : portions (streamWindow s n) w = [{ slot := k, offset := off, data := w.data }]) (ho : 0 < off)
    (hfill : (stream s n).fill = some f) (hb : ¬ (k = f.slot ∧ off = f.next)) :
    takeStreamWrite n w s = { notes := [], state := fillBroken n f.slot s } := by
  rw [takeStreamWrite_of_inside hp ho, takeContinuation_of_break (t := { notes := [], state := s }) hfill hb]
  rfl

/-- A write whose last bytes are the next slot's header: the fill ends, and the next begins. -/
theorem takeStreamWrite_over {s : State} {w : UpWrite} {n stamp count : Nat} {f : Fill} {first second : List (Option Byte)}
    (hp : portions (streamWindow s n) w = [{ slot := f.slot, offset := f.next, data := first },
      { slot := f.slot + 1, offset := 0, data := second }])
    (hc : s.cap.copy = none) (hfill : (stream s n).fill = some f) (hdir : f.slot + 1 < (stream s n).dir.length)
    (hst : (dirEntry s n f.slot).state = .filling) (hb : (dirEntry s n (f.slot + 1)).busy = false) (ho : 0 < f.next)
    (hr : f.remaining ≤ first.length) (hg : GoodHeader (streamWindow s n).slotSize second stamp count)
    (hf : StampFits s n stamp) : takeStreamWrite n w s =
      { notes := [{ stream := n, slot := f.slot, completing := true }, headerNote n (f.slot + 1) count second.length]
        state := fillBegun n (f.slot + 1) stamp count second.length (fillEnded n f.slot s) } := by
  have hn := lt_of_dir_length hdir
  have frame := fillEnded_plateFrame n f.slot s
  have next := fillEnded_entry_of_ne (n := n) (k := f.slot) (j := f.slot + 1) s (by omega)
  have ended := takeContinuation_of_last (n := n) (t := { notes := [], state := s }) hfill hr
  have begun := takeHeader_of_good (n := n) (p := { slot := f.slot + 1, offset := 0, data := second })
    (t := { notes := [{ stream := n, slot := f.slot, completing := true }], state := fillEnded n f.slot s })
    (headerReady_of_free (by rw [next]; exact hb) (fillEnded_fill hn f.slot)) (frame.streamWindow n ▸ hg)
    (hf.congr frame (fillEnded_field (·.lastStamp) (fun _ _ _ => rfl) n f.slot s n))
  rw [pinAccepted_of_no_copy (by rw [fillBegun_cap]; exact hc)] at begun
  have filled : (dirEntry (fillBegun n (f.slot + 1) stamp count second.length (fillEnded n f.slot s)) n f.slot).state =
      .filling := by
    rw [fillBegun_entry_of_ne _ _ _ _ (.inr (by omega)), fillEnded_entry_self (by omega), hst]
  have filling : (dirEntry (fillBegun n (f.slot + 1) stamp count second.length (fillEnded n f.slot s)) n
      (f.slot + 1)).state = .filling := by
    rw [fillBegun_entry_self _ _ _ (by rw [fillEnded_dir_length]; exact hdir), filledEntry]
  have taken : [({ slot := f.slot, offset := f.next, data := first } : Portion),
      { slot := f.slot + 1, offset := 0, data := second }].foldl (takePortion n) { notes := [], state := s } =
        takeHeader n { slot := f.slot + 1, offset := 0, data := second }
          { notes := [{ stream := n, slot := f.slot, completing := true }], state := fillEnded n f.slot s } := by
    simp only [List.foldl_cons, List.foldl_nil, takePortion, if_neg (Nat.ne_of_gt ho), ended]
    rfl
  rw [takeStreamWrite, hp, taken, begun]
  simp [headerNote, filled, filling]

end Sys2Proof.Machine

open Sys2Proof Sys2Proof.Machine

/-- Settles O10: untracked, in sequence, completing, breaking, and on into the next slot. -/
theorem continuationWrite : Obligations.ContinuationWrite := by
  unfold Obligations.ContinuationWrite
  refine ⟨?untracked, ?inside, ?across⟩
  case untracked =>
    intro s w n k off hq hw hn hfill ha ho he
    have taken : busyHeader s n w = none ∧ takeStreamWrite n w s = { notes := [], state := s } := by
      rcases Nat.eq_zero_or_pos w.data.length with hl | hl
      · have empty : portions (streamWindow s n) w = [] := by rw [portions, hl, splitAtSlots]
        exact ⟨by simp [busyHeader, empty], by simp [takeStreamWrite, empty]⟩
      · have one := portions_within ha hl (streamOf_spec hn).2.2.2 he
        refine ⟨busyHeader_of_inside one ho, ?_⟩
        rw [takeStreamWrite_of_inside one ho, takeContinuation_of_no_fill hfill]
        rfl
    rw [exec_continuationWrite, arriveWrite_of_ring hq hw hn taken.1, taken.2,
      finish_of_quiet ((forwardPass_logFrame _ _).quiet hq), refreshStatus_of_eq (by rfl)]
  case inside =>
    intro s w n k off f hq hw hn hfill hdir hst ha ho hl he
    have one := portions_within ha hl (streamOf_spec hn).2.2.2 he
    have arrived := arriveWrite_of_ring hq hw hn (busyHeader_of_inside one ho)
    refine ⟨fun hk hoff hr => ?_, fun hk hoff hr => ?_, fun hne => ?_⟩
    · subst hk hoff
      rw [takeStreamWrite_of_next one ho hfill hst hr] at arrived
      rw [exec_continuationWrite, arrived, finish_of_quiet ((forwardPass_logFrame _ _).quiet (hq.fillGoesOn n f _)),
        refreshStatus_of_eq (by rw [statusFields_forwardPass, statusFields_fillGoesOn])]
      rfl
    · subst hk hoff
      rw [takeStreamWrite_of_last one ho hfill hdir hst hr] at arrived
      rw [exec_continuationWrite, arrived, finish_of_quiet ((forwardPass_logFrame _ _).quiet (hq.fillEnded n f.slot)),
        refreshStatus_of_eq (by rw [statusFields_forwardPass, statusFields_fillEnded])]
      rfl
    · rw [takeStreamWrite_of_break one ho hfill hne] at arrived
      rw [exec_continuationWrite, arrived, finish_of_quiet ((forwardPass_logFrame _ _).quiet (hq.fillBroken n f.slot))]
      rfl
  case across =>
    intro s w n stamp count f slotSize len hq hw hn hfill hdir hcount hst hb ha ho hoff hr hlen hle hg hf
    have two := portions_over (k := f.slot) ha hoff hcount (by omega) hle
    have free : busyHeader s n w = none := by simp [busyHeader, two, Nat.ne_of_gt ho, hb]
    have taken := takeStreamWrite_over two hq.2.1 hfill hdir hst hb ho (by simp; omega) hg hf
    have second : (w.data.drop (slotSize - f.next)).length = len := List.length_drop
    rw [second] at taken
    rw [exec_continuationWrite, arriveWrite_of_ring hq hw hn free, taken, finish_fillBegun (hq.fillEnded n f.slot),
      refreshStatus_of_eq (by simp [statusFields_fillEnded])]
    rfl
end

section
/-! SUPPORT. Responses on the port: the oldest transaction that is awaited (R7, R128, R186), and transactions that concern no block. -/

namespace Sys2Proof.Machine

/-- The first entry that a test accepts is the one with none before it. -/
theorem takeFirst_of_first {α : Type} {p : α → Bool} {x : α} {pre : List α} (post : List α)
    (hpre : ∀ y ∈ pre, p y = false) (hx : p x = true) : takeFirst p (pre ++ x :: post) = some (x, pre ++ post) := by
  induction pre with
  | nil => simp [takeFirst, hx]
  | cons y ys ih =>
    obtain ⟨hy, hys⟩ := List.forall_mem_cons.mp hpre
    simp [takeFirst, hy, ih hys]

/-- A write's response answers the oldest granted write of its tag. -/
theorem writeAnswered_of_first {s : State} {w : UpWrite} {notes : List FillNote} {pre post : List PassTxn}
    (h : s.arb.passOut = pre ++ .write w notes :: post) (hpre : ∀ x ∈ pre, x.isWrite w.tag = false) (okay : Bool) :
    writeAnswered w.tag okay s = notes.foldl (resolveNote okay)
      { s with arb := { s.arb with passOut := pre ++ post }, answers := s.answers ++ [.write w.tag okay] } := by
  rw [writeAnswered, h, takeFirst_of_first post hpre (by simp [PassTxn.isWrite])]
  rfl

theorem maskNulls_nil (data : List Byte) : maskNulls [] data = data := by
  refine List.ext_getElem? fun i => ?_
  simp [maskNulls]

/-- A read's response with its bytes answers the oldest granted read of its tag; with no null-answered range unchanged. -/
theorem readAnswered_of_first {s : State} {r : UpRead} {pre post : List PassTxn} {data : List Byte}
    (h : s.arb.passOut = pre ++ .read r [] :: post) (hpre : ∀ x ∈ pre, x.isRead r.tag = false)
    (hl : data.length = r.len) : readAnswered r.tag { okay := true, data := data } s =
      { s with arb := { s.arb with passOut := pre ++ post }, answers := s.answers ++ [.read r.tag true data] } := by
  rw [readAnswered, h, takeFirst_of_first post hpre (by simp [PassTxn.isRead])]
  simp only [hl, bne_self_eq_false, Bool.and_false, maskNulls_nil]
  rfl

/-- A read outside the ticket ring has no portion in it (R128). -/
theorem readPortions_of_outside {s : State} {r : UpRead}
    (h : r.addr + r.len ≤ s.window.ticket.base ∨ s.window.ticket.base + 64 * s.tickets.length ≤ r.addr) :
    readPortions s r = [] := by
  refine List.filterMap_eq_nil_iff.mpr fun j hj => ?_
  have := List.mem_range.mp hj
  have empty : min (r.addr + r.len) (ticketAddr s j + 64) ≤ max r.addr (ticketAddr s j) := by
    rw [ticketAddr]
    omega
  simp only [readPortion, if_pos empty]

/-- A read with no portion in the ticket ring goes to the arbiter as it came. -/
theorem takeRead_of_outside {s : State} {r : UpRead} (h : readPortions s r = []) : takeRead r s = forwardPass (.read r []) s := by
  simp [takeRead, h, answeredLocally]

/-- A write tracked into no stream is held by none. -/
theorem heldBy_of_untracked {s : State} {w : UpWrite} (h : streamOf s w = none) : heldBy s w = none := by
  simp [heldBy, h]

/-- In a quiet state a plain write that is tracked into no stream goes to the arbiter as it came. -/
theorem arriveWrite_of_untracked {s : State} {w : UpWrite} (hq : Quiet s) (hw : PlainWrite s w)
    (hn : streamOf s w = none) : arriveWrite w s = forwardPass (.write w []) s := by
  obtain ⟨hh, -, ht⟩ := hq
  rw [arriveWrite_of_free hh ht, judgeWrite_of_plain hw]
  simp only [heldBy_of_untracked hn]
  exact passWrite_untracked hw true (.inr hn)

/-- A quiet state, answered, is its own end. -/
theorem finish_of_quiet_of_eq {b s : State} (hq : Quiet s) (h : statusFields s = statusFields b) : finish b s = s := by
  rw [finish_of_quiet hq, refreshStatus_of_eq h]

end Sys2Proof.Machine

open Sys2Proof Sys2Proof.Machine

/-- Settles O33: a write, a read, and the response to each. -/
theorem passThrough : Obligations.PassThrough := by
  unfold Obligations.PassThrough
  refine ⟨fun s w hq hw hn => ?_, fun s r hq hr => ?_, fun s w okay pre post hq h hpre => ?_,
    fun s r data pre post hq h hpre hl => ?_⟩
  · rw [exec_passThrough, takePassEvent, arriveWrite_of_untracked hq hw hn,
      finish_of_quiet_of_eq ((forwardPass_logFrame _ _).quiet hq) (by rfl)]
  · rw [exec_passThrough, takePassEvent, takeRead_of_outside (readPortions_of_outside hr),
      finish_of_quiet_of_eq ((forwardPass_logFrame _ _).quiet hq) (by rfl)]
  · rw [exec_passThrough, takePassEvent, writeAnswered_of_first h hpre]
    exact congrArg _ (finish_of_quiet_of_eq hq (by rfl))
  · rw [exec_passThrough, takePassEvent, readAnswered_of_first h hpre hl]
    exact congrArg _ (finish_of_quiet_of_eq hq (by rfl))
end

section
/-! SUPPORT. Slots that become READY or LOST by a response (R7, R8, R16, R17, R39). -/

namespace Sys2Proof.Machine

/-- The slot is READY, and the stream's last READY is at E (R7, R17). -/
def readied (n k : Nat) (s : State) : State :=
  modDir n k (fun e => { e with state := .ready, awaiting := false, failed := false })
    (modStream n (fun r => { r with lastReady := s.enc.e }) s)

theorem readied_field {α : Type} (g : StreamRec → α) (hg : ∀ r d l, g { r with dir := d, lastReady := l } = g r)
    (n k : Nat) (s : State) (m : Nat) : g (stream (readied n k s) m) = g (stream s m) := by
  rw [readied, stream_modDir_field g (by exact fun r d => hg r d r.lastReady),
    stream_modStream_field g (by exact fun r => hg r r.dir _)]

theorem readied_entry_self {s : State} {n k : Nat} (h : k < (stream s n).dir.length) : dirEntry (readied n k s) n k =
    { dirEntry s n k with state := .ready, awaiting := false, failed := false } := by
  rw [readied, dirEntry_modDir_self, dirEntry_modStream (by exact fun _ => rfl)]
  rw [stream_modStream_field (·.dir.length) (by exact fun _ => rfl)]
  exact h

theorem readied_stamp {s : State} {n k : Nat} (h : k < (stream s n).dir.length) : stampOf (readied n k s) n k = stampOf s n k := by
  rw [stampOf, readied_entry_self h, stampOf]

@[simp] theorem statusFields_readied (n k : Nat) (s : State) : statusFields (readied n k s) = statusFields s :=
  (statusFields_modDir _ _ _ _).trans (statusFields_modStream (by exact fun _ => rfl) ..)

theorem Quiet.readied {s : State} (h : Quiet s) (n k : Nat) : Quiet (readied n k s) :=
  (h.modStream (f := fun r => { r with lastReady := s.enc.e }) (fun _ => rfl)).modDir

/-- A slot behind the analysis line is passed at once; one ahead of it stays (R8). -/
theorem lateTest_of_stamp {s t : State} {n k : Nat} (f : PlateFrame s t) (h : stampOf t n k = stampOf s n k) :
    (s.asm.a + (streamWindow s n).stagger < stampOf s n k → lateTest n k t = t) ∧
    (stampOf s n k ≤ s.asm.a + (streamWindow s n).stagger → lateTest n k t = modDir n k (fun e => { e with state := .done }) t) := by
  rw [← h, ← f.asm, ← f.streamWindow]
  exact ⟨fun h => if_neg (Nat.not_le_of_lt h), fun h => if_pos h⟩

theorem readied_plateFrame (n k : Nat) (s : State) : PlateFrame s (readied n k s) :=
  (modStream_plateFrame n _ s).trans (modDir_plateFrame n k _ _)

/-- On a RUNNING stream the slot is tested against the analysis line (R8). -/
theorem becomeReady_of_running {s : State} {n : Nat} (h : (stream s n).state = .running) (k : Nat) :
    becomeReady n k s = lateTest n k (readied n k s) := by
  simp only [becomeReady, h]
  rfl

/-- A LAPSED stream goes to RUNNING first, with RESUMED (R17). -/
theorem becomeReady_of_lapsed {s : State} {n : Nat} (h : (stream s n).state = .lapsed) (k : Nat) :
    becomeReady n k s = lateTest n k (issueEvent .resumed [n, k, stampOf s n k]
      (modStream n (fun r => { r with state := .running, runningSince := s.enc.e }) (readied n k s))) := by
  simp only [becomeReady, h]
  rfl

/-- On a SEEDING stream with a seed fetch in flight the slot stays READY (R16). -/
theorem becomeReady_of_seeded {s : State} {n : Nat} (h : (stream s n).state = .seeding)
    (hs : (stream s n).seed.isSome = true) (k : Nat) : becomeReady n k s = readied n k s := by
  simp only [becomeReady, h, Option.isNone_eq_false_iff.mpr hs]
  rfl

/-- On a SEEDING stream without one it is the seed slot (R16). -/
theorem becomeReady_of_seed {s : State} {n : Nat} (h : (stream s n).state = .seeding) (hs : (stream s n).seed = none)
    (k : Nat) : becomeReady n k s = startSeed n k (readied n k s) := by
  simp only [becomeReady, h, hs]
  rfl

/-- Read bursts wait at the arbiter in their order (R36, R186). -/
theorem issueReads_eq (p : Purpose) (bs : List (Nat × Nat)) (s : State) : issueReads p bs s =
    { s with arb := { s.arb with ownWaiting := s.arb.ownWaiting ++ bs.map (fun b =>
      { purpose := p, live := true, addr := b.1, body := .read b.2 }) } } := by
  induction bs generalizing s with
  | nil => simp [issueReads]
  | cons b bs ih =>
    have step : issueReads p (b :: bs) s = issueReads p bs (issueOwn p b.1 (.read b.2) s) := rfl
    rw [step, ih]
    simp [issueOwn]

/-- Requests that are no null rewrites of R138 tell nothing in the status block. -/
theorem statusFields_issueReads {p : Purpose} (h : p.drains = false) (bs : List (Nat × Nat)) (s : State) :
    statusFields (issueReads p bs s) = statusFields s := by
  induction bs generalizing s with
  | nil => rfl
  | cons b bs ih => exact (ih _).trans (statusFields_issueOwn h b.1 (.read b.2) s)

/-- The seed slot of a stream that reads its span (R39). -/
def seedAsked (n k : Nat) (s : State) : State :=
  modStream n (fun r => { r with seed := some { slot := k, stamp := stampOf s n k } }) s

/-- A seed slot long enough is read (R39). -/
theorem startSeed_of_long {s : State} {n k : Nat} (h : (streamWindow s n).winStop ≤ (dirEntry s n k).pixels) :
    startSeed n k s = issueReads (.seed n) (bursts (slotAddr (streamWindow s n) k + 32 + (streamWindow s n).winStart)
      ((streamWindow s n).winStop - (streamWindow s n).winStart)) (seedAsked n k s) := if_neg (Nat.not_lt_of_le h)

/-- A READY slot is passed unanalysed (R8). -/
def passedEntry (e : DirEntry) : DirEntry := if e.state = .ready then { e with state := .done } else e

/-- Every READY slot of the stream is passed unanalysed. -/
def allPassed (n : Nat) (s : State) : State := modStream n (fun r => { r with dir := r.dir.map passedEntry }) s

theorem passReady_all (n : Nat) (s : State) : passReady n (fun _ _ => true) s = allPassed n s := by
  unfold passReady allPassed
  congr 1
  funext r
  have same : r.dir.mapIdx (fun _ e => if e.state == .ready && true then { e with state := SlotState.done } else e) =
      r.dir.map passedEntry := by
    refine List.ext_getElem? fun i => ?_
    rw [List.getElem?_mapIdx, List.getElem?_map]
    cases r.dir[i]? <;> simp [passedEntry]
  rw [same]

theorem passedEntry_passedEntry (e : DirEntry) : passedEntry (passedEntry e) = passedEntry e := by
  unfold passedEntry
  split <;> simp_all

/-- A failed seed fetch passes every READY slot, the seed slot among them, and the fetch is over (R16). -/
theorem seedFailed_eq (n k : Nat) (s : State) :
    seedFailed n k s = allPassed n (modStream n (fun r => { r with seed := none }) s) := by
  have entry : (fun e : DirEntry => if e.state == .ready then { e with state := SlotState.done } else e) = passedEntry := by
    funext e
    simp [passedEntry]
  rw [seedFailed, passReady_all, entry]
  simp only [allPassed, modDir, modStream_modStream]
  congr 1
  funext r
  have same : (r.dir.modify k passedEntry).map passedEntry = r.dir.map passedEntry :=
    map_modify_of_same passedEntry_passedEntry r.dir k
  simp only [Function.comp_apply, same]

/-- A short seed slot fails at once (R16). -/
theorem startSeed_of_short {s : State} {n k : Nat} (h : (dirEntry s n k).pixels < (streamWindow s n).winStop)
    (hs : (stream s n).seed = none) : startSeed n k s = allPassed n s := by
  have none_asked : modStream n (fun r => { r with seed := none }) s = s := modStream_of_eq (by rw [← hs])
  have failed : startSeed n k s = seedFailed n k s := if_pos h
  rw [failed, seedFailed_eq, none_asked]

/-! ### Responses -/

/-- OKAY for every write of the fill: the slot becomes READY (R7). -/
theorem resolveNote_of_okay {s : State} {n k : Nat} (h : (dirEntry s n k).failed = false) :
    resolveNote true s { stream := n, slot := k, completing := true } = becomeReady n k s := by
  simp [resolveNote, h]

/-- An earlier write of the fill got an error: the slot is LOST, with WRITE_FAILED (R7). -/
theorem resolveNote_of_failed {s : State} {n k : Nat} (h : (dirEntry s n k).failed = true) :
    resolveNote true s { stream := n, slot := k, completing := true } =
      issueEvent .writeFailed [n, k, stampOf s n k] (loseSlot n k s) := by
  simp [resolveNote, h]

/-- An error for the completing write: the slot is LOST, with WRITE_FAILED (R7). -/
theorem resolveNote_of_error {s : State} {n k : Nat} (h : k < (stream s n).dir.length) :
    resolveNote false s { stream := n, slot := k, completing := true } = issueEvent .writeFailed [n, k, stampOf s n k]
      (loseSlot n k (modDir n k (fun e => { e with failed := true }) s)) := by
  have entry := dirEntry_modDir_self (fun e => { e with failed := true }) h
  simp [resolveNote, entry, stampOf]

theorem exec_completingWriteResponse (tag : Nat) (okay : Bool) (s : State) :
    exec (.completingWriteResponse tag okay) s = .next (finish s (writeAnswered tag okay s)) := rfl

end Sys2Proof.Machine

open Sys2Proof Sys2Proof.Machine

/-- Settles O11, by the stream's state and the responses to the fill's writes. -/
theorem completingWriteResponse : Obligations.CompletingWriteResponse := by
  unfold Obligations.CompletingWriteResponse
  refine ⟨?completing, ?earlier⟩
  case completing =>
    intro s tag n k w pre post hq h htag hpre hk wind ok ready resumed passed
    subst htag
    have answered (okay : Bool) := writeAnswered_of_first h hpre okay
    simp only [List.foldl_cons, List.foldl_nil] at answered
    have fine : Quiet ok := hq
    have quiet : Quiet ready := fine.readied n k
    have same : statusFields ready = statusFields s := statusFields_readied n k ok
    have stamp : stampOf ready n k = stampOf s n k := readied_stamp (s := ok) hk
    have done_of (u : State) (ha : resolveNote true ok { stream := n, slot := k, completing := true } = u) (hu : Quiet u)
        (hf : statusFields u = statusFields s) : exec (.completingWriteResponse w.tag true) s = .next u := by
      rw [exec_completingWriteResponse, answered, ha, finish_of_quiet_of_eq hu hf]
    have refreshed_of (okay : Bool) (u v : State) (hv : v = { s with
        arb := { s.arb with passOut := pre ++ post }, answers := s.answers ++ [.write w.tag okay] })
        (ha : resolveNote okay v { stream := n, slot := k, completing := true } = u)
        (hu : Quiet u) : exec (.completingWriteResponse w.tag okay) s = .next (refreshStatus s u) := by
      rw [exec_completingWriteResponse, answered, ← hv, ha, finish_of_quiet hu]
    refine ⟨fun hf hst => ?running, fun hf hst => ?lapsed, fun hf hst => ?seeding, fun hf => ?failed, ?error⟩
    case running =>
      have became := (resolveNote_of_okay (s := ok) hf).trans (becomeReady_of_running (s := ok) hst k)
      obtain ⟨ahead, behind⟩ := lateTest_of_stamp (readied_plateFrame n k ok) stamp
      exact ⟨fun hl => done_of _ (became.trans (ahead hl)) quiet same,
        fun hl => done_of _ (became.trans (behind hl)) quiet.modDir ((statusFields_modDir ..).trans same)⟩
    case lapsed =>
      have became := (resolveNote_of_okay (s := ok) hf).trans (becomeReady_of_lapsed (s := ok) hst k)
      have log := issueEvent_logFrame .resumed [n, k, stampOf s n k]
        (modStream n (fun r => { r with state := .running, runningSince := s.enc.e }) ready)
      have running : Quiet resumed := log.quiet (quiet.modStream (by exact fun _ => rfl))
      have kept : stampOf resumed n k = stampOf s n k := by
        rw [stampOf, log.dirEntry, dirEntry_modStream (by exact fun _ => rfl)]
        exact stamp
      obtain ⟨ahead, behind⟩ := lateTest_of_stamp
        ((readied_plateFrame n k ok).trans ((modStream_plateFrame n _ _).trans log.plate)) kept
      exact ⟨fun hl => refreshed_of true _ ok rfl (became.trans (ahead hl)) running,
        fun hl => refreshed_of true _ ok rfl (became.trans (behind hl)) running.modDir⟩
    case seeding =>
      have became (hs : (stream s n).seed = none) :=
        (resolveNote_of_okay (s := ok) hf).trans (becomeReady_of_seed (s := ok) hst hs k)
      have entry : dirEntry ready n k = _ := readied_entry_self (s := ok) hk
      have unseeded (hs : (stream s n).seed = none) : (stream ready n).seed = none :=
        (readied_field (·.seed) (fun _ _ _ => rfl) n k ok n).trans hs
      refine ⟨fun hs => ?_, fun hs hl => ?_, fun hs hl => ?_⟩
      · exact done_of _ ((resolveNote_of_okay (s := ok) hf).trans (becomeReady_of_seeded (s := ok) hst hs k)) quiet same
      · have long := startSeed_of_long (s := ready) (n := n) (k := k) (by rw [entry]; exact hl)
        have asked : Quiet (seedAsked n k ready) := quiet.modStream (by exact fun _ => rfl)
        have image := (statusFields_issueReads (p := .seed n) rfl (bursts (slotAddr wind k + 32 + wind.winStart)
          (wind.winStop - wind.winStart)) (seedAsked n k ready)).trans (statusFields_modStream (by exact fun _ => rfl) ..)
        rw [done_of _ ((became hs).trans long) ((issueReads_logFrame _ _ _).quiet asked) (image.trans same), issueReads_eq,
          seedAsked, stamp]
        rfl
      · have short := startSeed_of_short (s := ready) (n := n) (k := k) (by rw [entry]; exact hl) (unseeded hs)
        exact done_of _ ((became hs).trans short) (quiet.modStream (by exact fun _ => rfl))
          ((statusFields_modStream (by exact fun _ => rfl) ..).trans same)
    case failed =>
      exact refreshed_of true _ ok rfl (resolveNote_of_failed (s := ok) hf)
        ((issueEvent_logFrame _ _ _).quiet ((loseSlot_dirFrame n k ok).quiet fine))
    case error =>
      exact refreshed_of false _ _ rfl (resolveNote_of_error hk)
        ((issueEvent_logFrame _ _ _).quiet ((loseSlot_dirFrame n k _).quiet (Quiet.modDir hq)))
  case earlier =>
    intro s tag n k w pre post okay hq h htag hpre answered
    subst htag
    rw [exec_completingWriteResponse, writeAnswered_of_first h hpre]
    cases okay with
    | true => exact congrArg _ (finish_of_quiet_of_eq hq (by rfl))
    | false => exact congrArg _ (finish_of_quiet_of_eq (Quiet.modDir hq) (statusFields_modDir ..))
end

section
/-! SUPPORT. Tallies: what a report leaves in its tally and in the others (R164, R165), and which operations leave a tally alone. -/

namespace Sys2Proof.Machine

@[simp] theorem TallyUnit.add_counts_length (t : TallyUnit) (k : TallyKey) (n : Nat) :
    (t.add k n).counts.length = t.counts.length := by
  unfold TallyUnit.add
  dsimp only
  split <;> simp

/-- A report adds to its tally, up to the top of the tally's range. -/
theorem tallyOf_add_self {t : TallyUnit} {k : TallyKey} (h : k.index < t.counts.length) (n : Nat) :
    tallyOf (t.add k n) k = min (tallyOf t k + n) k.top := by
  unfold TallyUnit.add
  dsimp only
  split
  · rename_i hle
    simp [tallyOf, h] at hle ⊢
    omega
  · rename_i hgt
    simp [tallyOf, h] at hgt ⊢
    omega

/-- A report leaves the other tallies alone. -/
theorem tallyOf_add_of_ne {k j : TallyKey} (h : j.index ≠ k.index) (t : TallyUnit) (n : Nat) :
    tallyOf (t.add k n) j = tallyOf t j := by
  unfold TallyUnit.add
  dsimp only
  split <;> simp [tallyOf, List.getD, Ne.symm h]

/-- A tally stands as it was, in a table of tallies as long as it was. -/
structure TallyKept (k : TallyKey) (s t : State) : Prop where
  value : tallyOf t.tally k = tallyOf s.tally k
  length : t.tally.counts.length = s.tally.counts.length

theorem TallyKept.refl (k : TallyKey) (s : State) : TallyKept k s s := ⟨rfl, rfl⟩

theorem TallyKept.trans {k : TallyKey} {s t u : State} (h : TallyKept k s t) (g : TallyKept k t u) : TallyKept k s u :=
  ⟨g.value.trans h.value, g.length.trans h.length⟩

theorem TallyKept.of_eq {k : TallyKey} {s t : State} (h : t.tally = s.tally) : TallyKept k s t := by
  constructor <;> rw [h]

theorem tallyAdd_kept {k j : TallyKey} (h : k.index ≠ j.index) (n : Nat) (s : State) : TallyKept k s (tallyAdd j n s) :=
  ⟨tallyOf_add_of_ne h s.tally n, TallyUnit.add_counts_length s.tally j n⟩

theorem issueRecords_kept (k : TallyKey) (base size i : Nat) (rs : List LogRecord) (s : State) :
    TallyKept k s (issueRecords base size i rs s) := by
  induction rs generalizing i s with
  | nil => exact .refl k s
  | cons r rs ih => exact TallyKept.trans (by exact .of_eq rfl) (ih (i + 1) _)

section
variable {k : TallyKey} (h : k.index ≠ TallyKey.recordsLost.index)
include h

theorem loseRecords_kept (n : Nat) (s : State) : TallyKept k s (loseRecords n s) := (tallyAdd_kept h n _).trans (.of_eq rfl)

theorem takeGroups_kept (gs : List LogGroup) (s : State) : TallyKept k s (takeGroups gs s) := by
  induction gs generalizing s with
  | nil => exact .of_eq rfl
  | cons g gs ih =>
    unfold takeGroups
    split
    · exact (loseRecords_kept h _ s).trans (ih _)
    · exact TallyKept.trans (by exact .of_eq rfl) (issueRecords_kept k ..)

theorem pumpLog_kept (s : State) : TallyKept k s (pumpLog s) := by
  unfold pumpLog
  split
  · exact takeGroups_kept h _ s
  · exact .refl k s

theorem handGroup_kept (bodies : List RecordBody) (s : State) : TallyKept k s (handGroup bodies s) := by
  unfold handGroup
  dsimp only
  split
  · exact TallyKept.trans (by exact .of_eq rfl) (pumpLog_kept h _)
  · exact TallyKept.trans (by exact .of_eq rfl) (loseRecords_kept h _ _)

/-- An event may be lost, which another tally counts. -/
theorem issueEvent_kept (e : EventKind) (fields : List Nat) (s : State) : TallyKept k s (issueEvent e fields s) := by
  unfold issueEvent
  split
  · exact TallyKept.trans (by exact .of_eq rfl) (handGroup_kept h _ _)
  · exact handGroup_kept h _ s

end

end Sys2Proof.Machine
end

section
/-! SUPPORT. A stream that goes to FAULTED (R15, R17, R160), and one that goes to LAPSED (R17). -/

namespace Sys2Proof.Machine

/-! ### Slots lost, passed and unpinned -/

/-- Only the streams' records, the tallies and the arbiter's port differ. -/
def TrackFrame (s t : State) : Prop := t = { s with streams := t.streams, tally := t.tally, arb := t.arb }

theorem TrackFrame.refl (s : State) : TrackFrame s s := rfl

theorem TrackFrame.trans {s t u : State} (h : TrackFrame s t) (k : TrackFrame t u) : TrackFrame s u :=
  Eq.trans k (congrArg (fun x : State => { x with streams := u.streams, tally := u.tally, arb := u.arb }) h)

/-- A slot that is LOST with its stamp (R17). -/
def lostEntry (e : DirEntry) : DirEntry := { e with state := .lost, pin := false, awaiting := false, failed := false }

theorem loseSlot_trackFrame (n k : Nat) (s : State) : TrackFrame s (loseSlot n k s) := rfl

theorem loseSlot_entry_self {s : State} {n k : Nat} (h : k < (stream s n).dir.length) :
    dirEntry (loseSlot n k s) n k = lostEntry (dirEntry s n k) := by
  unfold loseSlot
  rw [(tallyAdd_logFrame _ _ _).dirEntry, (withdrawNotes_logFrame _ _ _).dirEntry, dirEntry_modDir_self _ h]
  rfl

theorem loseSlot_stream_of_ne {n m k : Nat} (s : State) (h : m ≠ n) : stream (loseSlot n k s) m = stream s m := by
  unfold loseSlot
  rw [(tallyAdd_logFrame _ _ _).stream, (withdrawNotes_logFrame _ _ _).stream, stream_modDir_of_ne _ _ _ h]

theorem loseSlot_entry_of_ne {n m k j : Nat} (s : State) (h : m ≠ n ∨ j ≠ k) :
    dirEntry (loseSlot n k s) m j = dirEntry s m j := by
  unfold loseSlot
  rw [(tallyAdd_logFrame _ _ _).dirEntry, (withdrawNotes_logFrame _ _ _).dirEntry, dirEntry_modDir_of_ne _ _ h]

/-- A slot lost is one missing line (R18). -/
theorem loseSlot_missing {s : State} {n : Nat} (h : (TallyKey.missing n).index < s.tally.counts.length) (k : Nat) :
    tallyOf (loseSlot n k s).tally (.missing n) = min (tallyOf s.tally (.missing n) + 1) 65535 :=
  tallyOf_add_self h 1

/-- These slots of a stream are LOST. -/
def loseAll (n : Nat) (ks : List Nat) (s : State) : State := ks.foldl (fun s k => loseSlot n k s) s

theorem loseAll_trackFrame (n : Nat) (ks : List Nat) (s : State) : TrackFrame s (loseAll n ks s) := by
  induction ks generalizing s with
  | nil => exact .refl s
  | cons k ks ih => exact (loseSlot_trackFrame n k s).trans (ih _)

theorem loseAll_dirFrame (n : Nat) (ks : List Nat) (s : State) : DirFrame s (loseAll n ks s) := by
  induction ks generalizing s with
  | nil => exact .refl s
  | cons k ks ih => exact (loseSlot_dirFrame n k s).trans (ih _)

theorem loseAll_streams_length (n : Nat) (ks : List Nat) (s : State) :
    (loseAll n ks s).streams.length = s.streams.length := by
  induction ks generalizing s with
  | nil => rfl
  | cons k ks ih => exact (ih _).trans (modDir_streams_length n k _ s)

theorem loseAll_stream_of_ne {n m : Nat} (h : m ≠ n) (ks : List Nat) (s : State) :
    stream (loseAll n ks s) m = stream s m := by
  induction ks generalizing s with
  | nil => rfl
  | cons k ks ih => exact (ih _).trans (loseSlot_stream_of_ne s h)

/-- Each of the slots is LOST, and the others are as they were. -/
theorem loseAll_entry {n j : Nat} (ks : List Nat) {s : State} (h : j < (stream s n).dir.length) :
    dirEntry (loseAll n ks s) n j = if j ∈ ks then lostEntry (dirEntry s n j) else dirEntry s n j := by
  induction ks generalizing s with
  | nil => rfl
  | cons k ks ih =>
    have hk : j < (stream (loseSlot n k s) n).dir.length := by rw [(loseSlot_dirFrame n k s).length]; exact h
    refine (ih hk).trans ?_
    by_cases hj : j = k
    · obtain rfl := hj
      rw [loseSlot_entry_self h]
      simp [lostEntry]
    · rw [loseSlot_entry_of_ne s (.inr hj)]
      simp [hj]

/-- Each of the slots is one missing line (R18). -/
theorem loseAll_missing {n a : Nat} (ks : List Nat) {s : State} (h : (TallyKey.missing n).index < s.tally.counts.length)
    (ha : tallyOf s.tally (.missing n) = min a 65535) :
    tallyOf (loseAll n ks s).tally (.missing n) = min (a + ks.length) 65535 := by
  induction ks generalizing s a with
  | nil => exact ha
  | cons k ks ih =>
    have length : (loseSlot n k s).tally.counts.length = s.tally.counts.length := TallyUnit.add_counts_length ..
    have one : tallyOf (loseSlot n k s).tally (.missing n) = min (a + 1) 65535 := by
      rw [loseSlot_missing h, ha]
      omega
    refine (ih (length ▸ h) one).trans ?_
    rw [List.length_cons]
    congr 1
    omega

/-- Every entry of a stream changed alike. -/
theorem dirEntry_mapDir {f : DirEntry → DirEntry} (hf : f DirEntry.blank = DirEntry.blank) (n : Nat) (s : State) (j : Nat) :
    dirEntry (modStream n (fun r => { r with dir := r.dir.map f }) s) n j = f (dirEntry s n j) := by
  by_cases hn : n < s.streams.length
  · rw [dirEntry, stream_modStream_self _ s hn, dirEntry]
    exact (congrArg _ hf.symm).trans (List.getD_map ..)
  · have out (t : State) (ht : ¬ n < t.streams.length) : dirEntry t n j = DirEntry.blank := by
      rw [dirEntry, stream, List.getD_eq_default _ _ (Nat.le_of_not_lt ht)]
      rfl
    rw [out s hn, out _ (by simpa using hn), hf]

theorem allPassed_entry (n : Nat) (s : State) (j : Nat) : dirEntry (allPassed n s) n j = passedEntry (dirEntry s n j) :=
  dirEntry_mapDir rfl n s j

theorem unpinStream_entry (n : Nat) (s : State) (j : Nat) :
    dirEntry (unpinStream n s) n j = { dirEntry s n j with pin := false } := dirEntry_mapDir rfl n s j

/-- What is no directory, a change of every entry leaves alone. -/
theorem stream_mapDir_field {α : Type} (g : StreamRec → α) (hg : ∀ r d, g { r with dir := d } = g r)
    (f : DirEntry → DirEntry) (n : Nat) (s : State) (m : Nat) :
    g (stream (modStream n (fun r => { r with dir := r.dir.map f }) s) m) = g (stream s m) :=
  stream_modStream_field g (fun r => hg r _) n s m

theorem mapDir_dirFrame (f : DirEntry → DirEntry) (n : Nat) (s : State) :
    DirFrame s (modStream n (fun r => { r with dir := r.dir.map f }) s) :=
  ⟨modStream_plateFrame n _ s, rfl, stream_mapDir_field (fun r => { r with dir := [] }) (fun _ _ => rfl) f n s,
    stream_modStream_field (·.dir.length) (fun _ => List.length_map ..) n s⟩

/-! ### FAULTED -/

/-- The slots of a stream whose completion is outstanding. -/
def awaitedSlots (s : State) (n : Nat) : List Nat := slotsWhere s n (fun e => e.state == .filling && e.awaiting)

/-- The stream's record and slots as FAULTED leaves them (R17). -/
def streamFaulted (n : Nat) (s : State) : State :=
  modStream n (fun r => { r with state := .faulted, seed := none, episode := false })
    (disown (· == .seed n) (unpinStream n (loseAll n (awaitedSlots s n) (allPassed n s))))

/-- With nothing held and nothing let go, there is no hold to be abandoned. -/
theorem abandonHold_of_quiet {s : State} (h : Quiet s) (n : Nat) : abandonHold n s = s := by
  obtain ⟨hh, -, ht⟩ := h
  have ended : endHold n .untracked .untracked s = s := by simp [endHold, hh]
  unfold abandonHold
  rw [ended]
  exact withToTake_of_eq (by rw [ht]; rfl)

theorem Quiet.streamFaulted {s : State} (h : Quiet s) (n : Nat) : Quiet (streamFaulted n s) := by
  have passed : Quiet (allPassed n s) := h.modStream (by exact fun _ => rfl)
  have lost := (loseAll_dirFrame n (awaitedSlots s n) _).quiet passed
  have unpinned : Quiet (unpinStream n _) := lost.modStream (by exact fun _ => rfl)
  exact ((disown_logFrame _ _).quiet unpinned).modStream (by exact fun _ => rfl)

theorem faultStream_of_quiet {s : State} (h : Quiet s) (n : Nat) :
    faultStream n s = issueEvent .streamFaulted [n] (streamFaulted n s) := by
  have quiet := (issueEvent_logFrame .streamFaulted [n] _).quiet (h.streamFaulted n)
  rw [← abandonHold_of_quiet quiet n]
  unfold faultStream
  rw [passReady_all]
  rfl

theorem streamFaulted_trackFrame (n : Nat) (s : State) : TrackFrame s (streamFaulted n s) := by
  have lost := (show TrackFrame s (allPassed n s) from rfl).trans (loseAll_trackFrame n (awaitedSlots s n) _)
  exact lost.trans rfl

theorem streamFaulted_stream_of_ne {n m : Nat} (h : m ≠ n) (s : State) : stream (streamFaulted n s) m = stream s m := by
  rw [streamFaulted, stream_modStream_of_ne _ _ h, (disown_logFrame _ _).stream, unpinStream, stream_modStream_of_ne _ _ h,
    loseAll_stream_of_ne h, allPassed, stream_modStream_of_ne _ _ h]

/-- No request of the stream's seed fetch concerns anything any more (log entry 26). -/
theorem streamFaulted_seed_dead {n : Nat} {s : State} {x : OwnTxn}
    (hx : x ∈ (streamFaulted n s).arb.ownWaiting ++ (streamFaulted n s).arb.ownOut) (hp : x.purpose = .seed n) :
    x.live = false := by
  have dead (l : List OwnTxn) (hx : x ∈ l.map (fun t : OwnTxn => if t.purpose == .seed n then { t with live := false } else t)) :
      x.live = false := by
    obtain ⟨y, -, rfl⟩ := List.mem_map.mp hx
    by_cases hy : (y.purpose == .seed n) = true
    · rw [if_pos hy]
    · rw [if_neg hy] at hp
      exact absurd (beq_iff_eq.mpr hp) hy
  exact (List.mem_append.mp hx).elim (dead _) (dead _)

/-- The slots and records as they stand before the stream's own record changes. -/
theorem streamFaulted_slots_dirFrame (n : Nat) (s : State) :
    DirFrame s (disown (· == .seed n) (unpinStream n (loseAll n (awaitedSlots s n) (allPassed n s)))) :=
  (((mapDir_dirFrame passedEntry n s).trans (loseAll_dirFrame n _ _)).trans (mapDir_dirFrame _ n _)).trans
    (disown_logFrame _ _).dirFrame

/-- FAULTED, with no seed fetch and no episode; the rest of the record but the directory is as it was. -/
theorem streamFaulted_stream {n : Nat} {s : State} (h : n < s.streams.length) : ∃ dir,
    stream (streamFaulted n s) n = { stream s n with state := .faulted, seed := none, episode := false, dir := dir } := by
  have frame := streamFaulted_slots_dirFrame n s
  have kept := frame.field (fun r => { r with dir := [], state := .faulted, seed := none, episode := false }) (fun _ => rfl) n
  have hn : n < (disown (· == Purpose.seed n) (unpinStream n (loseAll n (awaitedSlots s n) (allPassed n s)))).streams.length := by
    rw [disown_streams, unpinStream, modStream_streams_length, loseAll_streams_length, allPassed, modStream_streams_length]
    exact h
  refine ⟨(stream (disown (· == Purpose.seed n) (unpinStream n (loseAll n (awaitedSlots s n) (allPassed n s)))) n).dir, ?_⟩
  rw [streamFaulted, stream_modStream_self _ _ hn]
  exact congrArg (fun r : StreamRec => { r with dir := (stream (disown (· == Purpose.seed n) (unpinStream n
    (loseAll n (awaitedSlots s n) (allPassed n s)))) n).dir }) kept

theorem streamFaulted_dir_length (n : Nat) (s : State) (m : Nat) :
    (stream (streamFaulted n s) m).dir.length = (stream s m).dir.length :=
  (stream_modStream_field (·.dir.length) (by exact fun _ => rfl) n _ m).trans ((streamFaulted_slots_dirFrame n s).length m)

theorem mem_slotsWhere {s : State} {n j : Nat} {test : DirEntry → Bool} (h : j < (stream s n).dir.length) :
    j ∈ slotsWhere s n test ↔ test (dirEntry s n j) = true := by simp [slotsWhere, h]

/-- Each slot of a stream that goes to FAULTED (R17, R160). -/
theorem streamFaulted_entry {n j : Nat} {s : State} (h : j < (stream s n).dir.length) :
    dirEntry (streamFaulted n s) n j =
      if (dirEntry s n j).state = .filling ∧ (dirEntry s n j).awaiting = true then lostEntry (dirEntry s n j)
      else { passedEntry (dirEntry s n j) with pin := false } := by
  have hj : j < (stream (allPassed n s) n).dir.length := 
    (mapDir_dirFrame passedEntry n s).length n ▸ h
  rw [streamFaulted, dirEntry_modStream (by exact fun _ => rfl), (disown_logFrame _ _).dirEntry, unpinStream_entry,
    loseAll_entry _ hj, allPassed_entry]
  simp only [awaitedSlots, mem_slotsWhere h, Bool.and_eq_true, beq_iff_eq]
  split
  · rename_i hw
    simp [passedEntry, lostEntry, hw.1]
  · rfl

/-! ### The line timeout -/

/-- The fill in progress is over: its slot is LOST, with LINE_TIMEOUT (R15). -/
def timedOut (n k : Nat) (s : State) : State :=
  issueEvent .lineTimeout [n, k, stampOf s n k] (loseSlot n k (modStream n (fun r => { r with fill := none }) s))

theorem timeOutFill_of_fill {s : State} {n : Nat} {f : Fill} (h : (stream s n).fill = some f) : timeOutFill n s =
    if (streamWindow s n).recover then timedOut n f.slot s else faultStream n (timedOut n f.slot s) := by
  simp only [timeOutFill, h]
  rfl

theorem Quiet.timedOut {s : State} (h : Quiet s) (n k : Nat) : Quiet (timedOut n k s) :=
  (issueEvent_logFrame _ _ _).quiet ((loseSlot_dirFrame n k _).quiet (h.modStream (by exact fun _ => rfl)))

/-- Only the fill in progress and the directory change in the stream's record. -/
theorem timedOut_field {α : Type} (g : StreamRec → α) (hg : ∀ r d f, g { r with dir := d, fill := f } = g r)
    (n k : Nat) (s : State) (m : Nat) : g (stream (timedOut n k s) m) = g (stream s m) := by
  rw [timedOut, (issueEvent_logFrame _ _ _).stream, (loseSlot_dirFrame n k _).field g (by exact fun r => hg r [] r.fill),
    stream_modStream_field g (by exact fun r => hg r r.dir none)]

theorem timedOut_fill {s : State} {n : Nat} (h : n < s.streams.length) (k : Nat) : (stream (timedOut n k s) n).fill = none := by
  rw [timedOut, (issueEvent_logFrame _ _ _).stream, (loseSlot_dirFrame n k _).fill, stream_modStream_self _ s h]

theorem timedOut_streams_length (n k : Nat) (s : State) : (timedOut n k s).streams.length = s.streams.length := by
  rw [timedOut, (issueEvent_logFrame _ _ _).streams]
  exact (modDir_streams_length n k _ _).trans (modStream_streams_length n _ s)

theorem timedOut_stream_of_ne {n m k : Nat} (s : State) (h : m ≠ n) : stream (timedOut n k s) m = stream s m := by
  rw [timedOut, (issueEvent_logFrame _ _ _).stream, loseSlot_stream_of_ne _ h, stream_modStream_of_ne _ s h]

theorem timedOut_dir_length (n k : Nat) (s : State) (m : Nat) :
    (stream (timedOut n k s) m).dir.length = (stream s m).dir.length := by
  rw [timedOut, (issueEvent_logFrame _ _ _).stream, (loseSlot_dirFrame n k _).length,
    stream_modStream_field (·.dir.length) (by exact fun _ => rfl)]

theorem timedOut_entry {s : State} {n j : Nat} (h : j < (stream s n).dir.length) (k : Nat) :
    dirEntry (timedOut n k s) n j = if j = k then lostEntry (dirEntry s n j) else dirEntry s n j := by
  have kept := dirEntry_modStream (f := fun r => { r with fill := none }) (fun _ => rfl) n s n j
  rw [timedOut, (issueEvent_logFrame _ _ _).dirEntry]
  split
  · rename_i hj
    subst hj
    rw [loseSlot_entry_self, kept]
    rw [stream_modStream_field (·.dir.length) (by exact fun _ => rfl)]
    exact h
  · rename_i hj
    rw [loseSlot_entry_of_ne _ (.inr hj), kept]

/-- No tally of missing lines is the tally of lost records. -/
theorem missing_index_ne {n : Nat} (h : n < 8) : (TallyKey.missing n).index ≠ TallyKey.recordsLost.index := by
  simp only [TallyKey.index]
  omega

theorem missing_index_lt {n : Nat} (h : n < 8) : (TallyKey.missing n).index < tallyPlaces := by
  simp only [TallyKey.index, tallyPlaces]
  omega

theorem timedOut_missing {s : State} {n : Nat} (hn : n < 8) (h : s.tally.counts.length = tallyPlaces) (k : Nat) :
    tallyOf (timedOut n k s).tally (.missing n) = min (tallyOf s.tally (.missing n) + 1) 65535 :=
  (issueEvent_kept (missing_index_ne hn) _ _ _).value.trans (loseSlot_missing (h ▸ missing_index_lt hn) k)

theorem timedOut_counts_length {s : State} {n : Nat} (hn : n < 8) (k : Nat) :
    (timedOut n k s).tally.counts.length = s.tally.counts.length :=
  (issueEvent_kept (missing_index_ne hn) _ _ _).length.trans (TallyUnit.add_counts_length ..)

/-- The slots whose completion is outstanding once the timed-out slot is LOST. -/
theorem awaitedSlots_timedOut (n k : Nat) (s : State) : awaitedSlots (timedOut n k s) n =
    (List.range (stream s n).dir.length).filter
      (fun j => decide (j ≠ k ∧ (dirEntry s n j).state = .filling ∧ (dirEntry s n j).awaiting = true)) := by
  rw [awaitedSlots, slotsWhere, timedOut_dir_length]
  refine List.filter_congr fun j hj => ?_
  rw [timedOut_entry (List.mem_range.mp hj) k]
  by_cases h : j = k
  · simp [h, lostEntry]
  · simp only [h, if_false, ne_eq, not_false_eq_true, true_and, Bool.decide_and, Bool.decide_eq_true]
    rfl

/-- FAULTED tallies one missing line for each slot whose completion is outstanding (R17, R18). -/
theorem streamFaulted_missing {s : State} {n a : Nat} (hn : n < 8) (h : s.tally.counts.length = tallyPlaces)
    (ha : tallyOf s.tally (.missing n) = min a 65535) :
    tallyOf (streamFaulted n s).tally (.missing n) = min (a + (awaitedSlots s n).length) 65535 :=
  loseAll_missing (s := allPassed n s) _ (by rw [show (allPassed n s).tally = s.tally from rfl, h]; exact missing_index_lt hn) ha

theorem exec_lineTimeout (n : Fin 8) (s : State) :
    exec (.lineTimeout n) s = .next (if lineTimeoutDue s n then finish s (timeOutFill n s) else s) := rfl

theorem exec_streamLapsed (n : Fin 8) (s : State) :
    exec (.streamLapsed n) s = .next (if lapseDue s n then finish s (lapseStream n s) else s) := rfl

/-- A stream that holds a fill in progress has a record. -/
theorem lt_of_fill {s : State} {n : Nat} {f : Fill} (h : (stream s n).fill = some f) : n < s.streams.length := by
  by_contra hn
  rw [stream, List.getD_eq_default _ _ (Nat.le_of_not_lt hn)] at h
  cases h

end Sys2Proof.Machine

open Sys2Proof Sys2Proof.Machine

/-- Settles O12: the line timeout under each fault action, and the lapse. -/
theorem lineTimeoutAndLapse : Obligations.LineTimeoutAndLapse := by
  unfold Obligations.LineTimeoutAndLapse
  refine ⟨fun s n f hq hfill hdue => ?timeout, fun s n hq hst hdue => ?lapse⟩
  case timeout =>
    have due : lineTimeoutDue s n = true := by simp [lineTimeoutDue, hfill, hdue]
    have hn := lt_of_fill hfill
    have quiet := hq.timedOut n f.slot
    rw [exec_lineTimeout, if_pos due, timeOutFill_of_fill hfill]
    refine ⟨fun hr => by rw [if_pos hr, finish_of_quiet quiet]; rfl, fun hr => ?_⟩
    intro out awaited
    have faulted := (issueEvent_logFrame .streamFaulted [n] _).quiet (quiet.streamFaulted n)
    refine ⟨streamFaulted n (timedOut n f.slot s), ?_, streamFaulted_trackFrame n _, ?_, ?_, ?_, ?_, ?_, ?_⟩
    · rw [if_neg (by simp [hr]), faultStream_of_quiet quiet, finish_of_quiet faulted]
    · obtain ⟨dir, h⟩ := streamFaulted_stream (n := n) (s := timedOut n f.slot s) (timedOut_streams_length n _ s ▸ hn)
      have unfilled : stream (timedOut n f.slot s) n = { stream (timedOut n f.slot s) n with fill := none } := by
        rw [← timedOut_fill hn f.slot]
      have kept := timedOut_field (fun r => { r with fill := none, state := .faulted, seed := none, episode := false, dir := dir })
        (fun _ _ _ => rfl) n f.slot s n
      rw [unfilled] at h
      exact ⟨dir, h.trans (kept.trans (by rw [← hq.1 n]))⟩
    · rw [streamFaulted_dir_length, timedOut_dir_length]
    · intro j hj
      have entry := streamFaulted_entry (n := n) (s := timedOut n f.slot s) (timedOut_dir_length n f.slot s n ▸ hj)
      rw [timedOut_entry hj] at entry
      refine ⟨fun h => ?_, fun hne hw hr => ?_, fun hne hw hr => ?_⟩
      · rcases eq_or_ne j f.slot with hj | hj
        · rw [entry, if_pos hj, if_neg (by simp [lostEntry])]
          rfl
        · rw [entry, if_neg hj, if_pos (h.resolve_left hj)]
          rfl
      · rw [entry, if_neg hne, if_neg hw, passedEntry, if_pos hr]
      · rw [entry, if_neg hne, if_neg hw, passedEntry, if_neg hr]
    · exact fun m hm => (streamFaulted_stream_of_ne hm _).trans (timedOut_stream_of_ne s hm)
    · intro hl
      have lost := streamFaulted_missing n.isLt ((timedOut_counts_length n.isLt f.slot).trans hl)
        (timedOut_missing n.isLt hl f.slot)
      rw [awaitedSlots_timedOut] at lost
      exact lost
    · exact fun x hx hp => streamFaulted_seed_dead hx hp
  case lapse =>
    have due : lapseDue s n = true := by simp [lapseDue, hst, hdue]
    have quiet := (issueEvent_logFrame .streamLapsed [n] _).quiet
      (hq.modStream (f := fun r => { r with state := .lapsed, episode := false }) (n := n) (fun _ => rfl))
    rw [exec_streamLapsed, if_pos due, lapseStream, finish_of_quiet quiet]
end

section
/-! SUPPORT. The end of a fetch in bursts, and of a seed fetch (R16, R39, R45). -/

namespace Sys2Proof.Machine

/-! ### Responses to a fetch -/

/-- The responses to a fetch all of whose bursts are granted, each its burst's. -/
theorem burstsAnswered_of_fit {p : Purpose → Bool} {s : State} {txns : List OwnTxn} {results : List ReadResult}
    (h : allGranted p s = some txns) (hf : resultsFit txns results = true) (act : List OwnTxn → State → State) :
    burstsAnswered p results act s = act txns (clearOut p s) := by
  simp only [burstsAnswered, h, hf]
  rfl

/-- Requests that are no null rewrites of R138 tell nothing in the status block when they end. -/
theorem statusFields_clearOut {p : Purpose → Bool} (h : ∀ x, p x = true → x.drains = false) (s : State) :
    statusFields (clearOut p s) = statusFields s := by
  have drains : drainsOut (clearOut p s).arb = drainsOut s.arb := by
    simp only [drainsOut, clearOut, List.any_append, List.any_filter]
    congr 1
    refine congrArg (fun g => List.any s.arb.ownOut g) (funext fun x => ?_)
    cases hp : p x.purpose with
    | true => simp [h _ hp]
    | false => simp
  have code : enabledCode (clearOut p s) = enabledCode s := by
    simp only [enabledCode, drains]
    rfl
  simp only [statusFields, code]
  rfl

/-- Only the tallies, the Record Writer and the port differ. -/
theorem LogFrame.eq_with {s t : State} (h : LogFrame s t) : t = { s with tally := t.tally, writer := t.writer, arb := t.arb } := by
  cases s
  cases t
  obtain ⟨h1, h2, h3, h4, h5, h6, h7, h8, h9, h10, h11, h12, h13, h14, h15, h16, h17⟩ := h
  simp_all

/-! ### READY slots passed -/

theorem passReady_entry (n : Nat) (test : Nat → DirEntry → Bool) {s : State} {j : Nat} (h : j < (stream s n).dir.length) :
    dirEntry (passReady n test s) n j = if (dirEntry s n j).state = .ready ∧ test j (dirEntry s n j) = true
      then { dirEntry s n j with state := .done } else dirEntry s n j := by
  rw [dirEntry, passReady, stream_modStream_self _ s (lt_of_dir_length h)]
  simp [dirEntry, List.getD, h]

/-- A slot in any state but EMPTY is one of the directory's. -/
theorem lt_of_entry_state {s : State} {n j : Nat} (h : (dirEntry s n j).state ≠ .empty) : j < (stream s n).dir.length := by
  by_contra hj
  exact h (by rw [dirEntry, List.getD_eq_default _ _ (Nat.le_of_not_lt hj)]; rfl)

theorem lt_of_seed {s : State} {n : Nat} {f : SeedFetch} (h : (stream s n).seed = some f) : n < s.streams.length := by
  by_contra hn
  rw [stream, List.getD_eq_default _ _ (Nat.le_of_not_lt hn)] at h
  cases h

/-! ### The seed load -/

/-- A column after a seed load: those of the span are loaded, the others are as they were (R45). -/
theorem seedColumns_getElem? (first : Nat) (pixels : List Byte) {cs : List Column} {c : Nat} {x : Column}
    (h : cs[c]? = some x) : (seedColumns first pixels cs)[c]? = some (if first ≤ c then
      match pixels[c - first]? with
      | some p => { ref := 256 * p.toNat, age := 0, streak := false, clearRun := 0 }
      | none => x
    else x) := by
  rw [seedColumns, List.getElem?_mapIdx, h]
  rfl

/-- The columns and the counts after a seed load (R45). -/
def seedDetection (first : Nat) (pixels : List Byte) (d : Detection) : Detection :=
  { d with
    columns := seedColumns first pixels d.columns
    streakCounts := streakCountsAfter d.columns (seedColumns first pixels d.columns) d.streakCounts }

theorem seedLoad_logFrame (first : Nat) (pixels : List Byte) (s : State) :
    LogFrame { s with det := seedDetection first pixels s.det } (seedLoad first pixels s) :=
  streakEvents_logFrame _ _ _ _ _

/-- The streams' records after a completed seed fetch (R16). -/
def seedEntered (n : Nat) (f : SeedFetch) (s : State) : State :=
  modStream n (fun r => { r with state := .running, entryStamp := some f.stamp, runningSince := s.enc.e, seed := none })
    (passReady n (fun k d => decide (k = f.slot) && d.stamp == some f.stamp) s)

/-- The pixels of a seed slot's span, as its bursts returned them (R39). -/
def seedPixels (w : StreamWindow) (k : Nat) (results : List ReadResult) : List Byte :=
  spanBytes (slotAddr w k + 32 + w.winStart) (w.winStop - w.winStart) results

theorem seedDone_logFrame (n : Nat) (f : SeedFetch) (results : List ReadResult) (s : State) :
    let w := streamWindow s n
    LogFrame { seedEntered n f s with det := seedDetection (spanFirst w) (seedPixels w f.slot results) s.det }
      (seedDone n f results s) := seedLoad_logFrame _ _ _

theorem seedEntered_stream_of_ne {n m : Nat} (f : SeedFetch) (s : State) (h : m ≠ n) :
    stream (seedEntered n f s) m = stream s m := by
  rw [seedEntered, stream_modStream_of_ne _ _ h, passReady, stream_modStream_of_ne _ _ h]

/-- The seed slot is DONE when it still holds its stamp in state READY (R16). -/
theorem seedEntered_entry {n : Nat} {f : SeedFetch} {s : State} (hs : (dirEntry s n f.slot).stamp = some f.stamp)
    (hr : (dirEntry s n f.slot).state = .ready) : (dirEntry (seedEntered n f s) n f.slot).state = .done := by
  have hj : f.slot < (stream s n).dir.length := lt_of_entry_state (by simp [hr])
  rw [seedEntered, dirEntry_modStream (by exact fun _ => rfl), passReady_entry _ _ hj]
  simp [hs, hr]

theorem Quiet.seedEntered {s : State} (h : Quiet s) (n : Nat) (f : SeedFetch) : Quiet (seedEntered n f s) :=
  (h.modStream (f := fun r => { r with dir := r.dir.mapIdx _ }) (fun _ => rfl)).modStream (by exact fun _ => rfl)

theorem exec_seedFetchDone (n : Fin 8) (results : List ReadResult) (s : State) :
    exec (.seedFetchDone n results) s = .next (finish s (match (stream s n).seed with
      | some f => burstsAnswered (· == .seed n) results (fun _ => endSeed n f results) s
      | none => clearOut (· == .seed n) s)) := rfl

/-- No seed fetch is a null rewrite. -/
theorem seed_drains {n : Nat} {x : Purpose} (h : (x == Purpose.seed n) = true) : x.drains = false := by
  rw [beq_iff_eq.mp h]
  rfl

end Sys2Proof.Machine

open Sys2Proof Sys2Proof.Machine

/-- Settles O13: the seed fetch completed, and failed. -/
theorem seedFetchDone : Obligations.SeedFetchDone := by
  unfold Obligations.SeedFetchDone
  intro s n f results txns hq hseed hg hf
  have hn := lt_of_seed hseed
  have cleared : Quiet (clearOut (· == .seed n.val) s) := (clearOut_logFrame _ s).quiet hq
  have answered := burstsAnswered_of_fit hg hf (fun _ => endSeed n f results)
  refine ⟨fun hok => ?done, fun hbad => ?failed⟩
  case done =>
    have log := seedDone_logFrame n f results (clearOut (· == .seed n.val) s)
    have ended : endSeed n f results (clearOut (· == .seed n.val) s) = seedDone n f results (clearOut (· == .seed n.val) s) :=
      if_pos hok
    have frame := log.trans (refreshStatus_logFrame s _)
    have same (m : Nat) : stream (refreshStatus s (seedDone n f results (clearOut (· == .seed n.val) s))) m =
      stream (seedEntered n f (clearOut (· == .seed n.val) s)) m := frame.stream m
    have entered : stream (seedEntered n f (clearOut (· == .seed n.val) s)) n = _ :=
      stream_modStream_self _ _ (by simpa [passReady] using hn)
    refine ⟨refreshStatus s (seedDone n f results (clearOut (· == .seed n.val) s)), ?_, ?_, ?_, ?_, ?_, ?_, ?_, ?_, ?_⟩
    · rw [exec_seedFetchDone, hseed]
      simp only [answered, ended]
      exact congrArg _ (finish_of_quiet (log.quiet (cleared.seedEntered n f)))
    · rw [same, entered]
    · rw [same, entered]
    · rw [same, entered]
      rfl
    · rw [same, entered]
    · intro hs hr
      rw [frame.dirEntry]
      exact seedEntered_entry (s := clearOut (· == .seed n.val) s) hs hr
    · exact fun m hm => (same m).trans (seedEntered_stream_of_ne f _ hm)
    · intro c x hx
      rw [frame.det]
      exact seedColumns_getElem? _ _ hx
    · rw [frame.eq_with]
      rfl
  case failed =>
    have ended : endSeed n f results (clearOut (· == .seed n.val) s) =
        allPassed n (modStream n (fun r => { r with seed := none }) (clearOut (· == .seed n.val) s)) := by
      rw [← seedFailed_eq]
      exact if_neg (by simp [hbad])
    have quiet := cleared.modStream (f := fun r => { r with seed := none }) (n := n) (fun _ => rfl)
    refine ⟨allPassed n (modStream n (fun r => { r with seed := none }) (clearOut (· == .seed n.val) s)),
      ?_, ?_, ?_, ?_, ?_, rfl⟩
    · rw [exec_seedFetchDone, hseed]
      simp only [answered, ended]
      refine congrArg _ (finish_of_quiet_of_eq (quiet.modStream (by exact fun _ => rfl)) ?_)
      rw [allPassed, statusFields_modStream (by exact fun _ => rfl), statusFields_modStream (by exact fun _ => rfl),
        statusFields_clearOut (by exact fun _ => seed_drains)]
    · rw [allPassed, stream_modStream_field (·.state) (by exact fun _ => rfl),
        stream_modStream_field (·.state) (by exact fun _ => rfl)]
      rfl
    · rw [allPassed, stream_modStream_field (·.seed) (by exact fun _ => rfl), stream_modStream_self _ _ (by exact hn)]
    · intro e he
      rw [allPassed, stream_modStream_self _ _ (by simpa using hn)] at he
      obtain ⟨d, -, rfl⟩ := List.mem_map.mp he
      unfold passedEntry
      split <;> simp_all
    · intro m hm
      rw [allPassed, stream_modStream_of_ne _ _ hm, stream_modStream_of_ne _ _ hm]
      rfl
end

section
/-! SUPPORT. STREAM START and STREAM STOP (R19, R20): the checks, and what a stop leaves. -/

namespace Sys2Proof.Machine

/-! ### Orders ready to be executed -/

/-- The order that is ready is taken (R178). -/
theorem withOrder_of_ready {s : State} {kind : Nat} {o : List Byte} (h : OrderReady s kind o) (act : List Byte → State → State) :
    withOrder kind act s = act o s := by
  obtain ⟨hp, hk⟩ := h
  simp [withOrder, readyOrder, hp, hk]

/-- A status block refresh changes the Record Writer and the port alone (R184). -/
theorem refreshStatus_eq_with (b s : State) :
    refreshStatus b s = { s with writer := (refreshStatus b s).writer, arb := (refreshStatus b s).arb } := by
  unfold refreshStatus
  split
  · rfl
  · unfold promptStatus
    split <;> rfl

/-! ### The checks of STREAM START -/

/-- No other stream in service clashes. -/
theorem clashes_eq_false_iff {s : State} {n : Nat} {test : StreamWindow → StreamWindow → Bool} : clashes s n test = false ↔
    ∀ m < 8, m ≠ n → (stream s m).state ≠ .off → test (streamWindow s n) (streamWindow s m) = false := by
  simp [clashes]

theorem columnsMeet_eq_false_iff {a b : StreamWindow} :
    columnsMeet a b = false ↔ spanLast a < spanFirst b ∨ spanLast b < spanFirst a := by
  simp only [columnsMeet, Bool.and_eq_false_iff, decide_eq_false_iff_not, Nat.not_le]
  exact or_comm

/-- No other stream in service shares a column. -/
theorem clashes_columns {s : State} {n : Nat} : clashes s n columnsMeet = false ↔
    ∀ m < 8, m ≠ n → (stream s m).state ≠ .off → spanLast (streamWindow s n) < spanFirst (streamWindow s m) ∨
      spanLast (streamWindow s m) < spanFirst (streamWindow s n) := by
  simp only [clashes_eq_false_iff, columnsMeet_eq_false_iff]

/-- No other stream in service shares a byte of its ring. -/
theorem clashes_rings {s : State} {n : Nat} : clashes s n streamRingsMeet = false ↔
    ∀ m < 8, m ≠ n → (stream s m).state ≠ .off → overlaps (streamWindow s n).base (ringBytes (streamWindow s n))
      (streamWindow s m).base (ringBytes (streamWindow s m)) = false := by
  simp only [clashes_eq_false_iff, streamRingsMeet]

/-- No other stream in service has the source tag. -/
theorem clashes_tags {s : State} {n : Nat} : clashes s n (fun a b => a.tag == b.tag) = false ↔
    ∀ m < 8, m ≠ n → (stream s m).state ≠ .off → (streamWindow s m).tag ≠ (streamWindow s n).tag := by
  simp only [clashes_eq_false_iff, beq_eq_false_iff_ne]
  exact forall_congr' fun m => forall_congr' fun _ => forall_congr' fun _ => forall_congr' fun _ => ne_comm

/-- A STREAM START that a check refuses completes with its code. -/
theorem takeStreamStart_of_refused {s : State} {o : List Byte} {c : Completion} (h : startCheck s (fieldAt o 0x10 1) = c)
    (hc : c ≠ .done) : takeStreamStart o s = complete c s := by
  unfold takeStreamStart
  simp only [h]

/-! ### What a stop leaves -/

/-- The stream is OFF, its writes in flight concern no fill, its seed fetch nothing, and its entry of the coverage record is
marked (R20, R38). -/
def offStream (n : Nat) (s : State) : State :=
  let s1 := disown (· == .seed n) (modStream n (fun _ => StreamRec.off) (withdrawStream n s))
  { s1 with asm := { s1.asm with record := s1.asm.record.map (fun es =>
      es.map (fun e => if e.stream = n then { e with stopped := true } else e)) } }

theorem stopStream_of_off {s : State} {n : Nat} (h : (stream s n).state = .off) : stopStream n s = s := by
  simp [stopStream, h]

theorem stopStream_of_on {s : State} {n : Nat} (h : (stream s n).state ≠ .off) :
    stopStream n s = offStream n (abandonHold n (dropCopyOf n s)) := by
  simp only [stopStream, beq_iff_eq, h]
  rfl

theorem offStream_stream_self {s : State} {n : Nat} (h : n < s.streams.length) : stream (offStream n s) n = StreamRec.off :=
  stream_modStream_self _ (withdrawStream n s) h

theorem offStream_stream_of_ne {n m : Nat} (s : State) (h : m ≠ n) : stream (offStream n s) m = stream s m :=
  stream_modStream_of_ne _ (withdrawStream n s) h

/-- A stream that has no record holds nothing. -/
theorem hold_offStream {s : State} {n : Nat} (h : ∀ m, m ≠ n → (stream s m).hold = none) (m : Nat) :
    (stream (offStream n s) m).hold = none := by
  by_cases hm : m = n
  · obtain rfl := hm
    by_cases hn : m < s.streams.length
    · rw [offStream_stream_self hn]
      rfl
    · rw [stream, List.getD_eq_default]
      · rfl
      · exact Nat.le_of_not_lt fun hl => hn (by rwa [show (offStream m s).streams.length = s.streams.length from
          modStream_streams_length ..] at hl)
  · rw [offStream_stream_of_ne s hm, h m hm]

theorem offStream_cap (n : Nat) (s : State) : (offStream n s).cap = s.cap := rfl

theorem Quiet.offStream {s : State} (h : Quiet s) (n : Nat) : Quiet (offStream n s) :=
  ⟨hold_offStream fun m _ => h.1 m, h.2.1, h.2.2⟩

theorem dropCopyOf_of_no_copy {s : State} (h : s.cap.copy = none) (n : Nat) : dropCopyOf n s = s := by simp [dropCopyOf, h]

theorem stopStream_of_quiet {s : State} {n : Nat} (hq : Quiet s) (h : (stream s n).state ≠ .off) :
    stopStream n s = offStream n s := by
  rw [stopStream_of_on h, dropCopyOf_of_no_copy hq.2.1, abandonHold_of_quiet hq]

/-- A completion leaves a quiet state quiet. -/
theorem Quiet.complete {s : State} (h : Quiet s) (c : Completion) : Quiet (complete c s) := h

theorem exec_streamStart (s : State) :
    exec .streamStart s = .next (refreshStatus s (withOrder kindStreamStart takeStreamStart s)) := rfl

theorem exec_streamStop (s : State) :
    exec .streamStop s = .next (finish s (withOrder kindStreamStop takeStreamStop s)) := rfl

theorem takeStreamStop_of_le {o : List Byte} (h : fieldAt o 0x10 1 ≤ 7) (s : State) :
    takeStreamStop o s = complete .done (stopStream (fieldAt o 0x10 1) s) := if_neg (Nat.not_lt_of_le h)

/-! ### A hold abandoned at a stop (R12) -/

/-- Writes that go untracked wait at the arbiter in order. -/
def forwardAll (ws : List UpWrite) (s : State) : State :=
  { s with arb := { s.arb with passWaiting := s.arb.passWaiting ++ ws.map (fun w => .write w []) } }

/-- Plain writes let go untracked go to the arbiter in order, and nothing else happens (R12). -/
theorem drain_untracked {n : Nat} (ws : List UpWrite) {s : State} {f : Nat} (hf : ws.length < f)
    (hw : ∀ w ∈ ws, PlainWrite s w) :
    drain f { s with toTake := ws.map (fun w => { stream := n, write := w, mode := .untracked }) } =
      { forwardAll ws s with toTake := [] } := by
  induction ws generalizing s f with
  | nil =>
    obtain ⟨f, rfl⟩ : ∃ g, f = g + 1 := ⟨f - 1, by simp at hf; omega⟩
    simp only [forwardAll, List.map_nil, List.append_nil]
    rfl
  | cons w ws ih =>
    obtain ⟨f, rfl⟩ : ∃ g, f = g + 1 := ⟨f - 1, by omega⟩
    simp only [List.length_cons] at hf
    obtain ⟨plain, others⟩ := List.forall_mem_cons.mp hw
    have taken (l : List LetGo) : takeLetGo { stream := n, write := w, mode := .untracked } { s with toTake := l } =
        { forwardPass (.write w []) s with toTake := l } := by
      have judged : takeWrite w .untracked { s with toTake := l } = judgeWrite w .untracked { s with toTake := l } := by
        simp [takeWrite]
      have kept : PlainWrite { s with toTake := l } w := plain
      simp only [takeLetGo, judged, judgeWrite_of_plain kept, passWrite_untracked kept false (.inl rfl)]
      rfl
    have next (l : List LetGo) (t : State) : nextLetGo t [] ({ stream := n, write := w, mode := .untracked } :: l) =
        some ({ stream := n, write := w, mode := .untracked }, l) := by simp [nextLetGo, takeable]
    have rest := ih (s := forwardPass (.write w []) s) (f := f) (by omega)
      (fun v hv => forwardPass_plainWrite (others v hv) _)
    have all : forwardAll ws (forwardPass (.write w []) s) = forwardAll (w :: ws) s := by
      simp [forwardAll, forwardPass]
    rw [all] at rest
    rw [drain, List.map_cons, next]
    simp only []
    rw [taken, refreshStatus_of_eq (by rfl)]
    exact rest

/-- A hold ended untracked lets its writes go in order (R12). -/
theorem abandonHold_of_hold {s : State} {n : Nat} {h : Hold} (hs : (stream s n).hold = some h) (ht : s.toTake = []) :
    abandonHold n s = { modStream n (fun r => { r with hold := none }) s with
      toTake := (h.held :: h.queue).map (fun w => { stream := n, write := w, mode := .untracked }) } := by
  unfold abandonHold endHold
  simp only [hs, ht]
  simp

theorem refreshStatus_passWaiting (b s : State) : (refreshStatus b s).arb.passWaiting = s.arb.passWaiting := by
  unfold refreshStatus
  split
  · rfl
  · unfold promptStatus
    split <;> rfl

/-- A stopped stream's writes in flight concern no fill (R20). -/
theorem offStream_passWaiting (n : Nat) (s : State) : (offStream n s).arb.passWaiting = s.arb.passWaiting.map (fun x =>
    match x with
    | .write w notes => .write w (notes.filter (fun y => y.stream != n))
    | .read r nulls => .read r nulls) := by
  refine List.map_congr_left fun x _ => ?_
  cases x <;> rfl

/-- The part stopped while its stream holds writes: they go to the arbiter untracked, the held one first (R12, R20). -/
theorem finish_stopped {b s : State} {n : Nat} (ws : List UpWrite) (hq : Quiet s) (hl : ws.length < 1024)
    (hw : ∀ w ∈ ws, PlainWrite s w) :
    finish b { s with toTake := ws.map (fun w => { stream := n, write := w, mode := .untracked }) } =
      forwardAll ws (refreshStatus b s) := by
  have frame := refreshStatus_logFrame b s
  obtain ⟨hh, hc, ht⟩ := frame.quiet hq
  have drained := drain_untracked (n := n) ws hl (fun w h => frame.plate.plainWrite (hw w h))
  rw [finish, refreshStatus_withToTake]
  exact settleHolds_of_drained (by exact hc) (drained.trans (withToTake_of_eq (by exact ht))) hc
    (fun m => releasable_of_no_hold (hh m)) 255

/-! ### A copy abandoned at a stop (R163) -/

theorem dropCopyOf_of_copy {s : State} {n : Nat} {c : Copy} (hc : s.cap.copy = some c) (h : ∃ cs ∈ c.streams, cs.stream = n) :
    dropCopyOf n s = dropCopy s := by
  have meets : c.streams.any (fun cs => cs.stream == n) = true := by simpa using h
  simp only [dropCopyOf, hc, meets]
  rfl

/-- The copy ends: its slot is FREE, its requests are taken back and every pin is cleared (R163). -/
theorem dropCopy_of_copy {s : State} {c : Copy} (hc : s.cap.copy = some c) : dropCopy s =
    unpinAll (withdrawOwn Purpose.isCapture { s with cap := { slots := s.cap.slots.set c.slot .free, copy := none } }) := by
  simp only [dropCopy, hc]

theorem dropCopy_cap {s : State} {c : Copy} (hc : s.cap.copy = some c) :
    (dropCopy s).cap = { slots := s.cap.slots.set c.slot .free, copy := none } := by
  rw [dropCopy_of_copy hc]
  rfl

/-- A stream with its pins cleared. -/
theorem unpinAll_stream (s : State) (m : Nat) :
    stream (unpinAll s) m = { stream s m with dir := (stream s m).dir.map (fun e => { e with pin := false }) } := by
  simp only [stream, unpinAll, List.getD, List.getElem?_map]
  cases s.streams[m]? <;> rfl

theorem Quiet.dropCopy {s : State} {c : Copy} (hc : s.cap.copy = some c) (hh : ∀ m, (stream s m).hold = none)
    (ht : s.toTake = []) : Quiet (dropCopy s) := by
  rw [dropCopy_of_copy hc]
  exact ⟨fun m => by rw [unpinAll_stream]; exact hh m, rfl, ht⟩

/-- No request of the copy is left waiting (R163). -/
theorem withdrawOwn_waiting {p : Purpose → Bool} {s : State} {x : OwnTxn} (h : x ∈ (withdrawOwn p s).arb.ownWaiting) :
    p x.purpose = false := by
  simpa using (List.mem_filter.mp h).2

/-- A granted request of the copy concerns nothing any more (R163). -/
theorem withdrawOwn_out {p : Purpose → Bool} {s : State} {x : OwnTxn} (h : x ∈ (withdrawOwn p s).arb.ownOut)
    (hp : p x.purpose = true) : x.live = false := by
  obtain ⟨y, -, rfl⟩ := List.mem_map.mp h
  by_cases hy : p y.purpose = true
  · rw [if_pos hy]
  · rw [if_neg hy] at hp
    exact absurd hp hy

/-- A request disowned keeps its purpose, and one that concerned nothing still does. -/
theorem mem_disowned {p : Purpose → Bool} {l : List OwnTxn} {x : OwnTxn}
    (h : x ∈ l.map (fun t : OwnTxn => if p t.purpose then { t with live := false } else t)) :
    ∃ y ∈ l, x.purpose = y.purpose ∧ (y.live = false → x.live = false) := by
  obtain ⟨y, hy, rfl⟩ := List.mem_map.mp h
  refine ⟨y, hy, ?_⟩
  split <;> simp

/-- What the status block refresh adds to the waiting requests is its own write. -/
theorem mem_refreshStatus_waiting {b s : State} {x : OwnTxn} (h : x ∈ (refreshStatus b s).arb.ownWaiting) :
    x ∈ s.arb.ownWaiting ∨ x.purpose = .status := by
  unfold refreshStatus at h
  split at h
  · exact .inl h
  · unfold promptStatus at h
    split at h
    · exact .inl h
    · exact (List.mem_append.mp h).imp_right fun h => by rw [List.mem_singleton.mp h]

theorem refreshStatus_ownOut (b s : State) : (refreshStatus b s).arb.ownOut = s.arb.ownOut := by
  unfold refreshStatus
  split
  · rfl
  · unfold promptStatus
    split <;> rfl

/-- The writes let go play no part in a stop. -/
theorem offStream_withToTake (n : Nat) (s : State) (l : List LetGo) :
    offStream n { s with toTake := l } = { offStream n s with toTake := l } := rfl

theorem complete_withToTake (c : Completion) (s : State) (l : List LetGo) :
    complete c { s with toTake := l } = { complete c s with toTake := l } := rfl

/-- The state a stop leaves, its hold gone. -/
def stoppedHold (n : Nat) (s : State) : State := offStream n (modStream n (fun r => { r with hold := none }) s)

theorem Quiet.stoppedHold {s : State} {n : Nat} (hc : s.cap.copy = none) (ht : s.toTake = [])
    (ho : ∀ m, m ≠ n → (stream s m).hold = none) : Quiet (stoppedHold n s) :=
  Quiet.offStream (s := Machine.modStream n (fun r => { r with hold := none }) s) ⟨hold_unheld ho, hc, ht⟩ n

theorem offStream_plateFields (n : Nat) (s : State) : (offStream n s).straps = s.straps ∧
    (offStream n s).anchor = s.anchor ∧ (offStream n s).window = s.window := ⟨rfl, rfl, rfl⟩

/-- A plain write is one still after a stop. -/
theorem PlainWrite.stopped {s : State} {w : UpWrite} (h : PlainWrite s w) (n : Nat) :
    PlainWrite (complete .done (stoppedHold n s)) w := by
  obtain ⟨straps, anchor, window⟩ := offStream_plateFields n (modStream n (fun r => { r with hold := none }) s)
  exact h.congr (by rw [complete_straps]; exact straps) (by rw [complete_anchor]; exact anchor)
    (by rw [complete_window]; exact window)

theorem stopStream_of_hold {s : State} {n : Nat} {h : Hold} (hc : s.cap.copy = none) (hon : (stream s n).state ≠ .off)
    (hs : (stream s n).hold = some h) (ht : s.toTake = []) : stopStream n s = { stoppedHold n s with
      toTake := (h.held :: h.queue).map (fun w => { stream := n, write := w, mode := .untracked }) } := by
  rw [stopStream_of_on hon, dropCopyOf_of_no_copy hc, abandonHold_of_hold hs ht, offStream_withToTake, stoppedHold]

/-- A stop changes the streams, the record, the phase and the port alone. -/
theorem stopped_eq_with (b s : State) (n : Nat) : refreshStatus b (complete .done (offStream n s)) =
    { s with
      streams := (offStream n s).streams
      asm := (offStream n s).asm
      orders := { s.orders with phase := .completing 1 }
      writer := (refreshStatus b (complete .done (offStream n s))).writer
      arb := (refreshStatus b (complete .done (offStream n s))).arb } :=
  (refreshStatus_eq_with b (complete .done (offStream n s))).trans rfl

/-- A state that differs from another in five parts is the other with its own five parts. -/
theorem eq_with_parts {s t : State} {rs : List StreamRec} {a : Assembler} {o : OrderUnit} {w : RecordWriter} {b : Arbiter}
    (h : t = { s with streams := rs, asm := a, orders := o, writer := w, arb := b }) :
    t = { s with streams := t.streams, asm := t.asm, orders := t.orders, writer := t.writer, arb := t.arb } := by
  subst h
  rfl

theorem forwardAll_passWaiting (ws : List UpWrite) (s : State) :
    (forwardAll ws s).arb.passWaiting = s.arb.passWaiting ++ ws.map (fun w => .write w []) := rfl

/-- A stop with a hold, and the writes let go, change the streams, the record, the phase and the port alone. -/
theorem forwardAll_stopped_eq_with (b s : State) (n : Nat) (ws : List UpWrite) :
    forwardAll ws (refreshStatus b (complete .done (stoppedHold n s))) =
      { s with
        streams := (stoppedHold n s).streams
        asm := (stoppedHold n s).asm
        orders := { s.orders with phase := .completing 1 }
        writer := (refreshStatus b (complete .done (stoppedHold n s))).writer
        arb := (forwardAll ws (refreshStatus b (complete .done (stoppedHold n s)))).arb } :=
  congrArg (fun t : State => { t with arb := (forwardAll ws (refreshStatus b (complete .done (stoppedHold n s)))).arb })
    (stopped_eq_with b (modStream n (fun r => { r with hold := none }) s) n)

theorem eq_with_parts' {s t : State} {rs : List StreamRec} {a : Assembler} {c : Capture} {o : OrderUnit} {w : RecordWriter}
    {b : Arbiter} (h : t = { s with streams := rs, asm := a, cap := c, orders := o, writer := w, arb := b }) : t = { s with
      streams := t.streams, asm := t.asm, cap := t.cap, orders := t.orders, writer := t.writer, arb := t.arb } := by
  subst h
  rfl

/-- A copy abandoned changes the streams, the slots and the port alone. -/
theorem dropCopy_eq_with (s : State) :
    dropCopy s = { s with streams := (dropCopy s).streams, cap := (dropCopy s).cap, arb := (dropCopy s).arb } := by
  unfold dropCopy
  split <;> rfl

theorem stopped_copy_eq_with (b s : State) (n : Nat) : refreshStatus b (complete .done (offStream n (dropCopy s))) =
    { s with
      streams := (offStream n (dropCopy s)).streams
      asm := (offStream n (dropCopy s)).asm
      cap := (dropCopy s).cap
      orders := { s.orders with phase := .completing 1 }
      writer := (refreshStatus b (complete .done (offStream n (dropCopy s)))).writer
      arb := (refreshStatus b (complete .done (offStream n (dropCopy s)))).arb } :=
  (stopped_eq_with b (dropCopy s) n).trans (congrArg (fun u : State => { u with
    streams := (offStream n (dropCopy s)).streams
    asm := (offStream n (dropCopy s)).asm
    orders := { u.orders with phase := .completing 1 }
    writer := (refreshStatus b (complete .done (offStream n (dropCopy s)))).writer
    arb := (refreshStatus b (complete .done (offStream n (dropCopy s)))).arb }) (dropCopy_eq_with s))

/-- A stop adds its completion to the waiting requests, and disowns others. -/
theorem mem_offStream_waiting {s : State} {n : Nat} {c : Completion} {x : OwnTxn}
    (h : x ∈ (complete c (offStream n s)).arb.ownWaiting) :
    (∃ y ∈ s.arb.ownWaiting, x.purpose = y.purpose) ∨ x.purpose = .completion := by
  rw [complete_arb] at h
  rcases List.mem_append.mp h with h | h
  · obtain ⟨y, hy, hp, -⟩ := mem_disowned (p := (· == Purpose.seed n)) h
    exact .inl ⟨y, hy, hp⟩
  · exact .inr (by rw [List.mem_singleton.mp h])

theorem mem_offStream_out {s : State} {n : Nat} {c : Completion} {x : OwnTxn}
    (h : x ∈ (complete c (offStream n s)).arb.ownOut) :
    ∃ y ∈ s.arb.ownOut, x.purpose = y.purpose ∧ (y.live = false → x.live = false) :=
  mem_disowned (p := (· == Purpose.seed n)) h

/-! ### The clauses -/

/-- STREAM START: each check in its turn, and the start. -/
theorem streamStart_checks {s : State} {o : List Byte} (hr : OrderReady s kindStreamStart o) :
    let n := fieldAt o 0x10 1
    let w := streamWindow s n
    (startCheck s n = .done → exec .streamStart s = .next (refreshStatus s (complete .done (modStream n
      (fun _ => { StreamRec.off with state := .seeding, dir := List.replicate w.slotCount DirEntry.blank }) s)))) ∧
    ∀ c, startCheck s n = c → c ≠ .done → exec .streamStart s = .next (complete c s) := by
  refine ⟨fun h => ?_, fun c h hc => ?_⟩
  · have started : takeStreamStart o s = complete .done (startStream (fieldAt o 0x10 1) s) := by
      unfold takeStreamStart
      simp only [h]
    rw [exec_streamStart, withOrder_of_ready hr, started]
    rfl
  · rw [exec_streamStart, withOrder_of_ready hr, takeStreamStart_of_refused h hc,
      refreshStatus_of_eq (statusFields_complete c s)]

/-- STREAM STOP in a quiet state. -/
theorem streamStop_of_quiet {s : State} {o : List Byte} (hr : OrderReady s kindStreamStop o) (hq : Quiet s) :
    let n := fieldAt o 0x10 1
    (7 < n → exec .streamStop s = .next (complete .range s)) ∧
    (n ≤ 7 → (stream s n).state = .off → exec .streamStop s = .next (complete .done s)) ∧
    (n ≤ 7 → (stream s n).state ≠ .off →
      exec .streamStop s = .next (refreshStatus s (complete .done (offStream n s)))) := by
  refine ⟨fun hn => ?_, fun hn hoff => ?_, fun hn hon => ?_⟩
  · have range : takeStreamStop o s = complete .range s := if_pos hn
    rw [exec_streamStop, withOrder_of_ready hr, range,
      finish_of_quiet_of_eq (hq.complete .range) (statusFields_complete _ s)]
  · rw [exec_streamStop, withOrder_of_ready hr, takeStreamStop_of_le hn, stopStream_of_off hoff,
      finish_of_quiet_of_eq (hq.complete .done) (statusFields_complete _ s)]
  · rw [exec_streamStop, withOrder_of_ready hr, takeStreamStop_of_le hn, stopStream_of_quiet hq hon,
      finish_of_quiet ((hq.offStream _).complete .done)]

/-- STREAM STOP of a stream that holds writes. -/
theorem streamStop_of_hold {s : State} {o : List Byte} {h : Hold} (hr : OrderReady s kindStreamStop o)
    (hc : s.cap.copy = none) (ht : s.toTake = []) (hn : fieldAt o 0x10 1 ≤ 7)
    (hon : (stream s (fieldAt o 0x10 1)).state ≠ .off) (ho : ∀ m, m ≠ fieldAt o 0x10 1 → (stream s m).hold = none)
    (hs : (stream s (fieldAt o 0x10 1)).hold = some h) (hlen : h.queue.length < 16)
    (hw : ∀ w ∈ h.held :: h.queue, PlainWrite s w) : exec .streamStop s = .next (forwardAll (h.held :: h.queue)
      (refreshStatus s (complete .done (stoppedHold (fieldAt o 0x10 1) s)))) := by
  have quiet := (Quiet.stoppedHold hc ht ho).complete .done
  have plain (w : UpWrite) (hm : w ∈ h.held :: h.queue) := (hw w hm).stopped (fieldAt o 0x10 1)
  rw [exec_streamStop, withOrder_of_ready hr, takeStreamStop_of_le hn, stopStream_of_hold hc hon hs ht,
    complete_withToTake, finish_stopped (h.held :: h.queue) quiet (by simp; omega) plain]

/-- What a stop with a hold leaves. -/
theorem stoppedHold_outcome {s : State} {n : Nat} (hon : (stream s n).state ≠ .off) (ht : s.toTake = []) (ws : List UpWrite) :
    let t := forwardAll ws (refreshStatus s (complete .done (stoppedHold n s)))
    stream t n = StreamRec.off ∧ (∀ m, m ≠ n → stream t m = stream s m) ∧
      t.arb.passWaiting = s.arb.passWaiting.map (fun x => match x with
          | .write w notes => .write w (notes.filter (fun y => y.stream != n))
          | .read r nulls => .read r nulls) ++ ws.map (fun w => .write w []) ∧
      t.toTake = [] ∧ t = { s with
        streams := t.streams, asm := t.asm, orders := t.orders, writer := t.writer, arb := t.arb } := by
  have hlt : n < (modStream n (fun r => { r with hold := none }) s).streams.length := by
    simpa using lt_of_stream_ne_off hon
  have frame := refreshStatus_logFrame s (complete .done (stoppedHold n s))
  have waiting := offStream_passWaiting n (modStream n (fun r => { r with hold := none }) s)
  refine ⟨(frame.stream n).trans (offStream_stream_self hlt),
    fun m hm => (frame.stream m).trans ((offStream_stream_of_ne _ hm).trans (stream_modStream_of_ne _ s hm)), ?_,
    frame.toTake.trans ht, eq_with_parts (forwardAll_stopped_eq_with s s n ws)⟩
  rw [forwardAll_passWaiting, refreshStatus_passWaiting, complete_arb]
  exact congrArg (· ++ ws.map (fun w => PassTxn.write w [])) waiting

/-- STREAM STOP of a capture stream. -/
theorem streamStop_of_copy {s : State} {o : List Byte} {c : Copy} (hr : OrderReady s kindStreamStop o)
    (hh : ∀ m, (stream s m).hold = none) (ht : s.toTake = []) (hc : s.cap.copy = some c) (hn : fieldAt o 0x10 1 ≤ 7)
    (hon : (stream s (fieldAt o 0x10 1)).state ≠ .off) (hmeets : ∃ cs ∈ c.streams, cs.stream = fieldAt o 0x10 1) :
    exec .streamStop s =
      .next (refreshStatus s (complete .done (offStream (fieldAt o 0x10 1) (dropCopy s)))) := by
  have dropped := Quiet.dropCopy hc hh ht
  rw [exec_streamStop, withOrder_of_ready hr, takeStreamStop_of_le hn, stopStream_of_on hon, dropCopyOf_of_copy hc hmeets,
    abandonHold_of_quiet dropped, finish_of_quiet ((dropped.offStream _).complete .done)]

/-- What the copy's requests are once it is abandoned by a stop. -/
theorem capture_abandoned {b s : State} {c : Copy} (hc : s.cap.copy = some c) (n : Nat) :
    let t := refreshStatus b (complete .done (offStream n (dropCopy s)))
    (∀ x ∈ t.arb.ownWaiting, x.purpose.isCapture = false) ∧
      ∀ x ∈ t.arb.ownOut, x.purpose.isCapture = true → x.live = false := by
  refine ⟨fun x hx => ?_, fun x hx hp => ?_⟩
  · rcases mem_refreshStatus_waiting hx with hx | hx
    · rcases mem_offStream_waiting hx with ⟨y, hy, hp⟩ | hp
      · rw [dropCopy_of_copy hc] at hy
        rw [hp]
        exact withdrawOwn_waiting (p := Purpose.isCapture) hy
      · rw [hp]
        rfl
    · rw [hx]
      rfl
  · rw [refreshStatus_ownOut] at hx
    obtain ⟨y, hy, hxy, hlive⟩ := mem_offStream_out hx
    rw [dropCopy_of_copy hc] at hy
    exact hlive (withdrawOwn_out (p := Purpose.isCapture) hy (hxy ▸ hp))

end Sys2Proof.Machine

open Sys2Proof Sys2Proof.Machine

/-- Settles O44: the checks of a start, then a plain stop, one with a hold and one with a copy. -/
theorem streamStartStop : Obligations.StreamStartStop := by
  unfold Obligations.StreamStartStop
  refine ⟨?start, ?stop, ?held, ?copied⟩
  case start =>
    intro s o hr n w others
    obtain ⟨started, refused⟩ := streamStart_checks hr
    have refused {c : Completion} (h : startCheck s n = c) (hc : c ≠ .done) := refused c h hc
    refine ⟨fun hn => ?_, fun hn hon => ?_, fun hn hoff hv => ?_, fun hn hoff hv hh hc => ?_, fun hn hoff hv hh hc hm => ?_,
      fun hn hoff hv hh hc hm hbad => ?_, fun hn hoff hv hh hc hm hrings ha htags => ?_⟩
    · exact refused (if_pos hn) (by decide)
    · exact refused (c := .busy) (by simp [startCheck, Nat.not_lt_of_le hn, hon]) (by decide)
    · refine refused (c := .tableBad) ?_ (by decide)
      rcases hv with hv | hv <;> simp [startCheck, Nat.not_lt_of_le hn, hoff, w, hv]
    · exact refused (c := .range) (by simp [startCheck, Nat.not_lt_of_le hn, hoff, w, hv, hh, Config.columnCount, hc]) (by decide)
    · have meet : clashes s n columnsMeet = true := by
        rw [← Bool.not_eq_false]
        exact fun h => hm (clashes_columns.mp h)
      exact refused (c := .overlap)
        (by simp [startCheck, Nat.not_lt_of_le hn, hoff, w, hv, hh, Config.columnCount, Nat.not_le_of_lt hc, meet]) (by decide)
    · have apart : clashes s n columnsMeet = false := clashes_columns.mpr hm
      have bad : clashes s n streamRingsMeet = true ∨ meetsAnchor s w.base (ringBytes w) = true ∨
          clashes s n (fun a b => a.tag == b.tag) = true := by
        simp only [← Bool.not_eq_false (clashes _ _ _)]
        exact hbad.imp (fun h hc => h (clashes_rings.mp hc)) (Or.imp id fun h hc => h (clashes_tags.mp hc))
      refine refused (c := .overlap) ?_ (by decide)
      simp only [startCheck, Nat.not_lt_of_le hn, hoff, w, hv, hh, Config.columnCount, Nat.not_le_of_lt hc, apart]
      rcases bad with h | h | h <;> simp [h, w]
    · have check : startCheck s n = .done := by
        simp [startCheck, Nat.not_lt_of_le hn, hoff, w, hv, hh, Config.columnCount, Nat.not_le_of_lt hc,
          clashes_columns.mpr hm, clashes_rings.mpr hrings, clashes_tags.mpr htags, meetsAnchor, ha]
      exact started check
  case stop =>
    intro s o hr hq n
    obtain ⟨above, off, on⟩ := streamStop_of_quiet hr hq
    refine ⟨above, off, fun hn hon => ?_⟩
    have hlt := lt_of_stream_ne_off hon
    have frame := refreshStatus_logFrame s (complete .done (offStream n s))
    refine ⟨_, on hn hon, (frame.stream n).trans (offStream_stream_self hlt),
      fun m hm => (frame.stream m).trans (offStream_stream_of_ne s hm), ?_, ?_, ?_, ?_⟩
    · rw [stopped_eq_with]
    · rw [stopped_eq_with]
      rfl
    · rw [stopped_eq_with]
    · rw [stopped_eq_with]
  case held =>
    intro s o h hr hc ht n hn hon ho hs hlen hw
    exact ⟨_, streamStop_of_hold hr hc ht hn hon ho hs hlen hw, stoppedHold_outcome hon ht _⟩
  case copied =>
    intro s o c hr hh ht hc n hn hon hmeets
    have on : n < (dropCopy s).streams.length := by
      rw [dropCopy_of_copy hc]
      simpa [unpinAll, withdrawOwn] using lt_of_stream_ne_off hon
    have frame := refreshStatus_logFrame s (complete .done (offStream n (dropCopy s)))
    obtain ⟨waiting, granted⟩ := capture_abandoned (b := s) hc n
    refine ⟨_, streamStop_of_copy hr hh ht hc hn hon hmeets, (frame.stream n).trans (offStream_stream_self on), ?_,
      fun m hm => ?_, waiting, granted, ?_⟩
    · rw [frame.cap, complete_cap, offStream_cap, dropCopy_cap hc]
    · refine (frame.stream m).trans ((offStream_stream_of_ne _ hm).trans ?_)
      rw [dropCopy_of_copy hc, unpinAll_stream]
      rfl
    · exact eq_with_parts' (stopped_copy_eq_with s s n)
end

section
/-! SUPPORT. A window cache with a ninth stream entry, which a REFRESH of entry 8 takes for the part it replaces (R180). No
command brings such a cache about, but the statement about REFRESH asks nothing of the cache's length. -/

namespace Sys2Proof.Machine

/-- A valid stream entry whose ring lies at 0x10000. -/
def ninthEntry : StreamWindow :=
  { valid := true, base := 0x10000, slotSize := 64, slotCount := 4, colBase := 0, winStart := 0, winStop := 8, stagger := 0,
    policy := .hold, holdLimit := 1, lineTimeout := 1, recover := true, tag := 0 }

/-- Entry 8 as read: a ring of 32 slots at 0x10000. Taken for a stream entry, it has no slots. -/
def entryEight : List Byte := [0, 0, 1, 0, 0, 0, 0, 0, 32] ++ List.replicate 55 0

/-- The fetch of entry 8, granted. -/
def ticketFetch : OwnTxn := { purpose := .tableFetch, live := true, addr := 640, body := .read 64 }

/-- The part after reset, but for the ninth entry, with a REFRESH of entry 8 whose fetch is granted. -/
def nineEntries : State :=
  { State.reset with
    window := { State.reset.window with streams := List.replicate 8 StreamWindow.blank ++ [ninthEntry] }
    orders := { State.reset.orders with phase := .refreshFetch 8 }
    arb := { State.reset.arb with ownOut := [ticketFetch] } }

theorem nineEntries_awaited : Awaited nineEntries (· == .tableFetch) ticketFetch [] :=
  ⟨[], [], rfl, rfl, by simp, rfl, rfl⟩

/-- The rings overlap. -/
theorem ninthEntry_meets : ringsMeet ninthEntry (parseTicket nineEntries entryEight) = true := by decide

/-- And yet entry 8 is valid after the REFRESH: the ninth entry is read anew, without a ring. -/
theorem nineEntries_ticket_valid : partValid (refreshedWindow nineEntries 8 entryEight) 8 = true := by decide

end Sys2Proof.Machine

open Sys2Proof Sys2Proof.Machine

/-- Refutes O43: with a window cache of nine stream entries, entry 8 replaced alone stays valid although its ring overlaps that
of the valid ninth, since the replacement reads the cache's place 8 as the part numbered 8. -/
theorem not_refresh : ¬ Obligations.Refresh := by
  unfold Obligations.Refresh
  rintro ⟨-, -, refreshed⟩
  obtain ⟨hwindow, -, -, -, invalid, -⟩ :=
    refreshed nineEntries 8 ticketFetch [] entryEight nineEntries_awaited rfl rfl
  have h := invalid rfl rfl ninthEntry (by simp [nineEntries]) rfl ninthEntry_meets
  rw [hwindow, nineEntries_ticket_valid] at h
  cases h
end

section
/-! SUPPORT. What a line's act, a decision and a retirement leave of the streams' records: everything but the pins (R158). -/

namespace Sys2Proof.Machine

/-- A stream's record with its pins cleared. -/
def StreamRec.unpinned (r : StreamRec) : StreamRec := { r with dir := r.dir.map (fun e => { e with pin := false }) }

/-- The streams' records are as they were but for the pins. -/
def PinFrame (s t : State) : Prop := t.streams.map StreamRec.unpinned = s.streams.map StreamRec.unpinned

theorem PinFrame.refl (s : State) : PinFrame s s := rfl

theorem PinFrame.trans {s t u : State} (h : PinFrame s t) (k : PinFrame t u) : PinFrame s u := Eq.trans k h

theorem PinFrame.of_streams {s t : State} (h : t.streams = s.streams) : PinFrame s t := congrArg _ h

theorem PinFrame.ofBlobs (s : State) (x : BlobTracker) : PinFrame s { s with blobs := x } := rfl

theorem PinFrame.ofSched (s : State) (x : Scheduler) : PinFrame s { s with sched := x } := rfl

theorem LogFrame.pin {s t : State} (h : LogFrame s t) : PinFrame s t := .of_streams h.streams

theorem PinFrame.foldl {α : Type} {f : State → α → State} (h : ∀ s a, PinFrame s (f s a)) (l : List α) (s : State) :
    PinFrame s (l.foldl f s) := by
  induction l generalizing s with
  | nil => exact .refl s
  | cons a l ih => exact (h s a).trans (ih _)

/-! ### What the frame says of a stream -/

theorem PinFrame.stream {s t : State} (h : PinFrame s t) (n : Nat) : (stream t n).unpinned = (Machine.stream s n).unpinned := by
  have read (u : State) : (Machine.stream u n).unpinned = (u.streams.map StreamRec.unpinned).getD n StreamRec.off := by
    rw [Machine.stream, List.getD, List.getD, List.getElem?_map]
    cases u.streams[n]? <;> rfl
  rw [read, read, h]

theorem PinFrame.state {s t : State} (h : PinFrame s t) (n : Nat) : (Machine.stream t n).state = (Machine.stream s n).state := by
  have same := congrArg StreamRec.state (h.stream n)
  exact same

theorem PinFrame.hold {s t : State} (h : PinFrame s t) (n : Nat) : (Machine.stream t n).hold = (Machine.stream s n).hold := by
  have same := congrArg StreamRec.hold (h.stream n)
  exact same

/-- A slot is as it was but for its pin. -/
theorem PinFrame.entry {s t : State} (h : PinFrame s t) (n k : Nat) :
    { dirEntry t n k with pin := false } = { dirEntry s n k with pin := false } := by
  have read (u : State) : { dirEntry u n k with pin := false } = (Machine.stream u n).unpinned.dir.getD k DirEntry.blank := by
    rw [dirEntry, List.getD, List.getD, StreamRec.unpinned, List.getElem?_map]
    cases (Machine.stream u n).dir[k]? <;> rfl
  rw [read, read, h.stream]

theorem PinFrame.entry_state {s t : State} (h : PinFrame s t) (n k : Nat) :
    (dirEntry t n k).state = (dirEntry s n k).state := by
  have same := congrArg DirEntry.state (h.entry n k)
  exact same

theorem PinFrame.entry_stamp {s t : State} (h : PinFrame s t) (n k : Nat) :
    (dirEntry t n k).stamp = (dirEntry s n k).stamp := by
  have same := congrArg DirEntry.stamp (h.entry n k)
  exact same

/-! ### Flaws -/

/-- An update of the directory's pins alone. -/
theorem modStream_pinFrame {f : StreamRec → StreamRec} (h : ∀ r, (f r).unpinned = r.unpinned) (n : Nat) (s : State) :
    PinFrame s (modStream n f s) := map_modify_of_same h s.streams n

theorem pinDirectory_pinFrame (c : Copy) (cs : CapStream) (s : State) : PinFrame s (pinDirectory c cs s) := by
  refine modStream_pinFrame (fun r => ?_) cs.stream s
  simp only [StreamRec.unpinned, List.map_map]
  congr 1
  refine List.map_congr_left fun e _ => ?_
  simp only [Function.comp_apply]
  split
  case h_4 => rfl
  all_goals split <;> rfl

theorem startCopy_pinFrame (k n c0 c1 y0 : Nat) (s : State) : PinFrame s (startCopy k n c0 c1 y0 s) :=
  PinFrame.trans (by exact .of_streams rfl) (PinFrame.foldl (fun s cs => pinDirectory_pinFrame _ cs s) _ _)

theorem offerCapture_pinFrame (f : Flaw) (s : State) : PinFrame s (offerCapture f s).2 := by
  unfold offerCapture
  split
  · split
    · exact startCopy_pinFrame ..
    · exact .of_streams rfl
  · exact .refl s

theorem submitFlaw_pinFrame (f : ListedFlaw) (s : State) : PinFrame s (submitFlaw f s) := by
  unfold submitFlaw
  split
  · exact .of_streams rfl
  · split
    · exact .of_streams rfl
    · exact PinFrame.trans (by exact .of_streams rfl) (issueEvent_logFrame _ _ _).pin

theorem routeFlaw_pinFrame (f : Flaw) (s : State) : PinFrame s (routeFlaw f s) := by
  have h : PinFrame s (tallyAdd (.flaw f.cls) 1 (handGroup [.flaw (offerCapture f s).1] (offerCapture f s).2)) :=
    ((offerCapture_pinFrame f s).trans (handGroup_logFrame _ _).pin).trans (tallyAdd_logFrame _ _ _).pin
  unfold routeFlaw
  dsimp only
  split
  · exact h
  · have offered := h.trans (PinFrame.of_streams rfl : PinFrame _ (offerPlates (offerCapture f s).1 _))
    split
    · exact offered.trans (submitFlaw_pinFrame _ _)
    · exact offered

theorem raiseFlaw_pinFrame (f : Flaw) (s : State) : PinFrame s (raiseFlaw f s) :=
  PinFrame.trans (by exact .of_streams rfl) (routeFlaw_pinFrame _ _)

theorem raiseFlaws_pinFrame (fs : List Flaw) (s : State) : PinFrame s (raiseFlaws fs s) :=
  PinFrame.foldl (fun s f => raiseFlaw_pinFrame f s) fs s

/-! ### The Blob Tracker's act -/

theorem closeBlob_pinFrame (s : State) (x : Blob × Bool) : PinFrame s (closeBlob s x) := by
  unfold closeBlob
  split
  · exact .of_streams rfl
  · exact raiseFlaw_pinFrame _ s

theorem feedDense_pinFrame (l : Nat) (d : List Run) (o : Bool) (s : State) : PinFrame s (feedDense l d o s) := by
  unfold feedDense
  split
  · exact .refl s
  · dsimp only
    split
    · exact .of_streams rfl
    · exact PinFrame.trans (by exact .of_streams rfl) (issueEvent_logFrame _ _ _).pin

theorem testDense_pinFrame (l : Nat) (s : State) : PinFrame s (testDense l s) := by
  unfold testDense
  split
  · exact .refl s
  · split
    · exact PinFrame.trans (by exact .of_streams rfl) (raiseFlaw_pinFrame _ _)
    · split
      · exact PinFrame.trans (by exact .of_streams rfl) (raiseFlaw_pinFrame _ _)
      · exact .refl s

theorem takeCoverage_pinFrame (l g : Nat) (u : Bool) (s : State) : PinFrame s (takeCoverage l g u s) := by
  unfold takeCoverage
  split
  · split <;> exact .of_streams rfl
  · split
    · exact .of_streams rfl
    · split
      · exact PinFrame.trans (by exact .of_streams rfl) (raiseFlaw_pinFrame _ _)
      · exact .of_streams rfl

theorem takeCoverages_pinFrame (l g : Nat) (us : List Bool) (s : State) : PinFrame s (takeCoverages l g us s) := by
  induction us generalizing g s with
  | nil => exact .refl s
  | cons u us ih => exact (takeCoverage_pinFrame l g u s).trans (ih _ _)

theorem splitGaps_pinFrame (c : Nat) (a : Bool) (s : State) : PinFrame s (splitGaps c a s).2 := by
  unfold splitGaps
  dsimp only
  refine PinFrame.foldl (fun t g => ?_) _ s
  split <;> exact .of_streams rfl

theorem takeSplits_pinFrame (l : Nat) (s : State) : PinFrame s (takeSplits l s) := by
  unfold takeSplits
  exact PinFrame.trans (by exact .of_streams rfl) (PinFrame.foldl
    (fun s c => (splitGaps_pinFrame c false s).trans (raiseFlaws_pinFrame _ _)) _ _)

/-- The act over a line changes no stream's record but its pins (R64, R158). -/
theorem blobAct_pinFrame (l : Nat) (rs os : List Run) (us : List Bool) (s : State) : PinFrame s (blobAct l rs os us s) := by
  unfold blobAct
  exact ((((((PinFrame.ofBlobs s _).trans (feedDense_pinFrame ..)).trans (PinFrame.ofBlobs _ _)).trans
    (PinFrame.foldl closeBlob_pinFrame _ _)).trans (testDense_pinFrame _ _)).trans (takeCoverages_pinFrame _ _ _ _)).trans
    (takeSplits_pinFrame _ _)

/-! ### Decisions and retirements -/

theorem trySeal_streams (n : Nat) (s : State) : (trySeal n s).streams = s.streams := by
  unfold trySeal
  split
  · rfl
  · dsimp only
    split <;> rfl

theorem pumpSeals_pinFrame (s : State) : PinFrame s (pumpSeals s) :=
  PinFrame.foldl (f := fun s (p : Plate) => trySeal p.num s) (fun s p => .of_streams (trySeal_streams p.num s)) _ s

theorem testRequest_pinFrame (p : Plan) (s : State) : PinFrame s (testRequest p s) := by
  unfold testRequest
  split
  · split
    · exact PinFrame.trans (by exact .of_streams rfl) (issueEvent_logFrame _ _ _).pin
    · exact .refl s
  · exact .refl s

theorem giveCut_pinFrame (c : Nat) (s : State) : PinFrame s (giveCut c s).2 := by
  unfold giveCut
  split
  · exact splitGaps_pinFrame _ _ s
  · exact .of_streams rfl

theorem enterPlate_pinFrame (q : Plate) (s : State) : PinFrame s (enterPlate q s) := rfl

theorem removePassed_pinFrame (l : Nat) (s : State) : PinFrame s (removePassed l s) := rfl

theorem jumpUnplanned_pinFrame (x : Nat) (s : State) : PinFrame s (jumpUnplanned x s) := rfl

theorem tallyAdd_pinFrame (k : TallyKey) (n : Nat) (s : State) : PinFrame s (tallyAdd k n s) := rfl

theorem tallyDecision_pinFrame (q : Plate) (s : State) : PinFrame s (tallyDecision q s) := by
  have lengths (u : State) : PinFrame u (tallyAdd .sAdvance (q.cut - q.start) (tallyAdd .decidedLength (q.cut - q.start) u)) :=
    (tallyAdd_pinFrame _ _ u).trans (tallyAdd_pinFrame _ _ _)
  unfold tallyDecision
  dsimp only
  split
  · exact ((tallyAdd_pinFrame _ _ s).trans (lengths _)).trans (tallyAdd_pinFrame _ _ _)
  · exact (tallyAdd_pinFrame _ _ s).trans (lengths _)

theorem decidePlate_pinFrame (p : Plan) (c : Nat) (k : PlateKind) (f u : Bool) (s : State) :
    PinFrame s (decidePlate p c k f u s) := by
  unfold decidePlate
  exact ((((((enterPlate_pinFrame _ s).trans (removePassed_pinFrame _ _)).trans (giveCut_pinFrame _ _)).trans
    (pumpSeals_pinFrame _)).trans (tallyDecision_pinFrame _ _)).trans (PinFrame.ofSched _ _)).trans (raiseFlaws_pinFrame _ _)

theorem starve_pinFrame (p : Plan) (s : State) : PinFrame s (starve p s) :=
  (issueEvent_logFrame _ _ s).pin.trans (jumpUnplanned_pinFrame _ _)

theorem finishDecision_pinFrame (p : Plan) (c : Choice) (f : Bool) (s : State) : PinFrame s (finishDecision p c f s) := by
  unfold finishDecision
  dsimp only
  split
  · exact decidePlate_pinFrame ..
  · split
    · split
      · exact ((PinFrame.ofSched s _).trans (issueEvent_logFrame _ _ _).pin).trans (decidePlate_pinFrame ..)
      · exact decidePlate_pinFrame ..
    · exact (issueEvent_logFrame _ _ s).pin.trans (jumpUnplanned_pinFrame _ _)

theorem evaluateOnce_pinFrame (p : Plan) (s : State) : PinFrame s (evaluateOnce p s).2 := by
  unfold evaluateOnce
  dsimp only
  split
  · split
    · exact (testRequest_pinFrame p s).trans (starve_pinFrame _ _)
    · exact testRequest_pinFrame p s
  · split
    · exact (testRequest_pinFrame p s).trans (finishDecision_pinFrame ..)
    · exact testRequest_pinFrame p s

theorem evaluateLoop_pinFrame (p : Plan) (n : Nat) (s : State) : PinFrame s (evaluateLoop p n s) := by
  induction n generalizing s with
  | zero => exact .refl s
  | succ n ih =>
    unfold evaluateLoop
    dsimp only
    split
    · exact (evaluateOnce_pinFrame p s).trans (ih _)
    · exact evaluateOnce_pinFrame p s

/-- An evaluation changes no stream's record but its pins (R101, R158). -/
theorem evaluate_pinFrame (s : State) : PinFrame s (evaluate s) := by
  unfold evaluate
  split
  · split
    · exact evaluateLoop_pinFrame ..
    · exact .refl s
  · exact .refl s

theorem tallyRetirement_pinFrame (p : Plate) (s : State) : PinFrame s (tallyRetirement p s) := by
  have pieces (u : State) : PinFrame u (p.pieces.foldl tallyPiece u) := PinFrame.foldl (fun _ _ => by exact .refl _) _ u
  unfold tallyRetirement
  dsimp only
  generalize hu : tallyAdd (.retired p.state) 1 s = u
  have retired : PinFrame s u := hu ▸ (tallyAdd_logFrame _ _ s).pin
  exact (retired.trans (pieces u)).trans (by exact .of_streams rfl)

theorem modSlot_pinFrame (j : Nat) (f : SlotRec → SlotRec) (s : State) : PinFrame s (modSlot j f s) := rfl

theorem retirePlate_pinFrame (p : Plate) (s : State) : PinFrame s (retirePlate p s) :=
  (((handGroup_logFrame _ s).pin.trans (tallyRetirement_pinFrame p _)).trans (PinFrame.ofSched _ _)).trans
    (modSlot_pinFrame _ _ _)

theorem retireLoop_pinFrame (n : Nat) (s : State) : PinFrame s (retireLoop n s) := by
  induction n generalizing s with
  | zero => exact .refl s
  | succ n ih =>
    unfold retireLoop
    split
    · split
      · exact ((retirePlate_pinFrame _ s).trans (evaluate_pinFrame _)).trans (ih _)
      · exact .refl s
    · exact .refl s

theorem plateChanged_pinFrame (s : State) : PinFrame s (plateChanged s) :=
  PinFrame.trans (by exact .of_streams rfl) (retireLoop_pinFrame _ (gradeTest s))

end Sys2Proof.Machine
end

section
/-! SUPPORT. The end of a line's pixel fetch (R36 to R41): what is handed over, and the slots behind the line. -/

namespace Sys2Proof.Machine

/-! ### What the Capture Engine's advance leaves alone -/

/-- Only the copy and the port differ. -/
def CopyFrame (s t : State) : Prop := t = { s with cap := t.cap, arb := t.arb }

theorem CopyFrame.refl (s : State) : CopyFrame s s := rfl

theorem CopyFrame.trans {s t u : State} (h : CopyFrame s t) (k : CopyFrame t u) : CopyFrame s u :=
  Eq.trans k (congrArg (fun x : State => { x with cap := u.cap, arb := u.arb }) h)

theorem CopyFrame.foldl {α : Type} {f : State → α → State} (h : ∀ s a, CopyFrame s (f s a)) (l : List α) (s : State) :
    CopyFrame s (l.foldl f s) := by
  induction l generalizing s with
  | nil => exact .refl s
  | cons a l ih => exact (h s a).trans (ih _)

theorem CopyFrame.streams {s t : State} (h : CopyFrame s t) : t.streams = s.streams := by rw [h]

theorem CopyFrame.stream {s t : State} (h : CopyFrame s t) (n : Nat) : stream t n = Machine.stream s n := by
  rw [Machine.stream, h.streams, Machine.stream]

theorem CopyFrame.asm {s t : State} (h : CopyFrame s t) : t.asm = s.asm := by rw [h]

theorem CopyFrame.toTake {s t : State} (h : CopyFrame s t) : t.toTake = s.toTake := by rw [h]

theorem CopyFrame.ofCap (s : State) (c : Capture) : CopyFrame s { s with cap := c } := rfl

theorem issueOwn_copyFrame (p : Purpose) (a : Nat) (b : OwnBody) (s : State) : CopyFrame s (issueOwn p a b s) := rfl

theorem issueReads_copyFrame (p : Purpose) (bs : List (Nat × Nat)) (s : State) : CopyFrame s (issueReads p bs s) := by
  rw [issueReads_eq]
  rfl

theorem testSegments_copyFrame (s : State) : CopyFrame s (testSegments s) := by
  unfold testSegments
  split
  · exact .refl s
  · exact .ofCap s _

theorem missSegment_copyFrame (cs : CapStream) (s : State) : CopyFrame s (missSegment cs s) := rfl

theorem advanceCapStream_copyFrame (n f : Nat) (s : State) : CopyFrame s (advanceCapStream n f s) := by
  induction f generalizing s with
  | zero => exact .refl s
  | succ f ih =>
    unfold advanceCapStream
    split
    · exact .refl s
    · split
      · exact .refl s
      · split
        · exact .refl s
        · split
          · exact .refl s
          · exact (missSegment_copyFrame _ s).trans (ih _)
          · exact (CopyFrame.ofCap s _).trans (issueReads_copyFrame _ _ _)

theorem advanceRows_copyFrame (f : Nat) (s : State) : CopyFrame s (advanceRows f s) := by
  induction f generalizing s with
  | zero => exact .refl s
  | succ f ih =>
    unfold advanceRows
    split
    · exact .refl s
    · split
      · exact ((CopyFrame.ofCap s _).trans (issueOwn_copyFrame _ _ _ _)).trans (ih _)
      · exact .refl s

theorem advanceHeader_copyFrame (s : State) : CopyFrame s (advanceHeader s) := by
  unfold advanceHeader
  split
  · exact .refl s
  · split
    · exact (CopyFrame.ofCap s _).trans (issueOwn_copyFrame _ _ _ _)
    · exact .refl s

/-- The Capture Engine's advance changes the copy and the port alone (R159 to R161). -/
theorem advanceCapture_copyFrame (s : State) : CopyFrame s (advanceCapture s) := by
  unfold advanceCapture
  split
  · exact .refl s
  · exact (((testSegments_copyFrame s).trans (CopyFrame.foldl (fun s cs => advanceCapStream_copyFrame _ _ s) _ _)).trans
      (advanceRows_copyFrame _ _)).trans (advanceHeader_copyFrame _)

/-! ### What is left to be done when no stream holds a write -/

theorem settleHolds_of_unheld {s : State} (hh : ∀ n, (stream s n).hold = none) (ht : s.toTake = []) (f : Nat) :
    settleHolds (f + 1) s = advanceCapture (testSegments s) := by
  have frame := (testSegments_copyFrame s).trans (advanceCapture_copyFrame _)
  have same : drain 1024 (testSegments s) = testSegments s := by
    have none_left : (testSegments s).toTake = [] := (testSegments_copyFrame s).toTake.trans ht
    simp [drain, none_left, nextLetGo]
  have idle : (List.range 8).find? (releasable (advanceCapture (testSegments s))) = none := by
    rw [List.find?_eq_none]
    exact fun n _ => by simp [releasable_of_no_hold ((congrArg StreamRec.hold (frame.stream n)).trans (hh n))]
  simp [settleHolds, same, idle]

/-- With no hold and nothing let go, a command's end is the refresh and the copy's advance: the slots stay as they are. -/
theorem finish_of_unheld {b s : State} (hh : ∀ n, (stream s n).hold = none) (ht : s.toTake = []) :
    PlateFrame s (finish b s) ∧ PinFrame s (finish b s) := by
  have log := refreshStatus_logFrame b s
  have ended : finish b s = advanceCapture (testSegments (refreshStatus b s)) :=
    settleHolds_of_unheld (fun n => (congrArg StreamRec.hold (log.stream n)).trans (hh n)) (log.toTake.trans ht) 255
  rw [ended]
  exact ⟨(log.plate.trans (testSegments_plateFrame _)).trans (advanceCapture_plateFrame _),
    log.pin.trans (.of_streams ((testSegments_copyFrame _).trans (advanceCapture_copyFrame _)).streams)⟩

/-! ### Slots passed by a line -/

/-- Slots keep their stamps, READY slots may be DONE, and the rest of the streams' records is as it was. -/
structure PassFrame (s t : State) : Prop where
  plate : PlateFrame s t
  state : ∀ n, (stream t n).state = (stream s n).state
  hold : ∀ n, (stream t n).hold = (stream s n).hold
  stamp : ∀ n k, (dirEntry t n k).stamp = (dirEntry s n k).stamp
  entry : ∀ n k, (dirEntry t n k).state = (dirEntry s n k).state ∨
    (dirEntry s n k).state = .ready ∧ (dirEntry t n k).state = .done

theorem PassFrame.refl (s : State) : PassFrame s s :=
  ⟨.refl s, fun _ => rfl, fun _ => rfl, fun _ _ => rfl, fun _ _ => .inl rfl⟩

theorem PassFrame.trans {s t u : State} (h : PassFrame s t) (k : PassFrame t u) : PassFrame s u where
  plate := h.plate.trans k.plate
  state n := (k.state n).trans (h.state n)
  hold n := (k.hold n).trans (h.hold n)
  stamp n j := (k.stamp n j).trans (h.stamp n j)
  entry n j := by
    rcases h.entry n j with hs | ⟨hr, hd⟩
    · rcases k.entry n j with ks | ⟨kr, kd⟩
      · exact .inl (ks.trans hs)
      · exact .inr ⟨hs ▸ kr, kd⟩
    · rcases k.entry n j with ks | ⟨kr, -⟩
      · exact .inr ⟨hr, ks.trans hd⟩
      · exact absurd (kr.symm.trans hd) (by decide)

/-- A slot that is DONE stays so. -/
theorem PassFrame.done {s t : State} (h : PassFrame s t) {n k : Nat} (hd : (dirEntry s n k).state = .done) :
    (dirEntry t n k).state = .done := by
  rcases h.entry n k with hs | ⟨hr, -⟩
  · exact hs.trans hd
  · exact absurd (hr.symm.trans hd) (by decide)

/-- A slot that is READY stays so or is DONE. -/
theorem PassFrame.ready {s t : State} (h : PassFrame s t) {n k : Nat} (hr : (dirEntry s n k).state = .ready) :
    (dirEntry t n k).state = .ready ∨ (dirEntry t n k).state = .done :=
  (h.entry n k).imp (·.trans hr) (·.2)

theorem passReady_dir_length (n : Nat) (test : Nat → DirEntry → Bool) (s : State) (m : Nat) :
    (stream (passReady n test s) m).dir.length = (stream s m).dir.length :=
  stream_modStream_field (·.dir.length) (by exact fun _ => List.length_mapIdx) n s m

theorem passReady_stream_of_ne {n m : Nat} (test : Nat → DirEntry → Bool) (s : State) (h : m ≠ n) :
    stream (passReady n test s) m = stream s m := stream_modStream_of_ne _ s h

theorem passReady_passFrame (n : Nat) (test : Nat → DirEntry → Bool) (s : State) : PassFrame s (passReady n test s) := by
  have entry (m k : Nat) : dirEntry (passReady n test s) m k = dirEntry s m k ∨
      (dirEntry s m k).state = .ready ∧ dirEntry (passReady n test s) m k = { dirEntry s m k with state := .done } := by
    by_cases hm : m = n
    · subst hm
      by_cases hk : k < (stream s m).dir.length
      · rw [passReady_entry m test hk]
        split
        · rename_i h
          exact .inr ⟨h.1, rfl⟩
        · exact .inl rfl
      · left
        rw [dirEntry, dirEntry, List.getD_eq_default _ _ (by rw [passReady_dir_length]; omega),
          List.getD_eq_default _ _ (by omega)]
    · left
      rw [dirEntry, passReady_stream_of_ne test s hm, dirEntry]
  refine ⟨passReady_plateFrame n test s, stream_modStream_field (·.state) (by exact fun _ => rfl) n s,
    stream_modStream_field (·.hold) (by exact fun _ => rfl) n s, fun m k => ?_, fun m k => ?_⟩
  · rcases entry m k with h | ⟨-, h⟩ <;> rw [h]
  · rcases entry m k with h | ⟨hr, h⟩
    · exact .inl (by rw [h])
    · exact .inr ⟨hr, by rw [h]⟩

/-- A READY slot that the test accepts is DONE. -/
theorem passReady_passed {n k : Nat} {test : Nat → DirEntry → Bool} {s : State} (hr : (dirEntry s n k).state = .ready)
    (ht : test k (dirEntry s n k) = true) : (dirEntry (passReady n test s) n k).state = .done := by
  rw [passReady_entry n test (lt_of_entry_state (by simp [hr])), if_pos ⟨hr, ht⟩]

/-- What one step of a fold brings about, and every step keeps, holds at its end. -/
theorem foldl_reaches {α : Type} {f : State → α → State} {I P : State → Prop} {a : α} {l : List α} (ha : a ∈ l)
    (keepI : ∀ s b, I s → I (f s b)) (step : ∀ s, I s → P (f s a)) (keepP : ∀ s b, P s → P (f s b)) {s : State} (hI : I s) :
    P (l.foldl f s) := by
  have kept (l : List α) : ∀ s, P s → P (l.foldl f s) := by
    induction l with
    | nil => exact fun s h => h
    | cons b l ih => exact fun s h => ih _ (keepP s b h)
  induction l generalizing s with
  | nil => cases ha
  | cons b l ih =>
    rcases List.mem_cons.mp ha with rfl | ha
    · exact kept l _ (step s hI)
    · exact ih ha (keepI s b hI)

theorem PassFrame.foldl {α : Type} {f : State → α → State} (h : ∀ s a, PassFrame s (f s a)) (l : List α) (s : State) :
    PassFrame s (l.foldl f s) := by
  induction l generalizing s with
  | nil => exact .refl s
  | cons a l ih => exact (h s a).trans (ih _)

theorem passEntry_passFrame (s : State) (e : CovEntry) : PassFrame s (passEntry s e) := by
  unfold passEntry
  split
  · exact passReady_passFrame ..
  · exact .refl s

theorem passBehind_passFrame (l : Nat) (s : State) (n : Nat) : PassFrame s (passBehind l s n) := by
  unfold passBehind
  split
  · exact passReady_passFrame ..
  · exact .refl s

/-- A slot that the line used is DONE (R41). -/
theorem passEntry_foldl_done {r : List CovEntry} {e : CovEntry} {s : State} (he : e ∈ r) (hp : e.standing = .present)
    (hs : e.stopped = false) (hr : (dirEntry s e.stream e.slot).state = .ready ∨ (dirEntry s e.stream e.slot).state = .done)
    (ht : (dirEntry s e.stream e.slot).stamp = some e.stamp) :
    (dirEntry (r.foldl passEntry s) e.stream e.slot).state = .done := by
  refine foldl_reaches (P := fun t => (dirEntry t e.stream e.slot).state = .done)
    (I := fun t => (dirEntry t e.stream e.slot).stamp = some e.stamp ∧
      ((dirEntry t e.stream e.slot).state = .ready ∨ (dirEntry t e.stream e.slot).state = .done)) he ?_ ?_ ?_ ⟨ht, hr⟩
  · exact fun t b ⟨h, k⟩ => ⟨((passEntry_passFrame t b).stamp _ _).trans h,
      k.elim (passEntry_passFrame t b).ready fun d => .inr ((passEntry_passFrame t b).done d)⟩
  · rintro t ⟨h, ready | done⟩
    · have used : passEntry t e =
          passReady e.stream (fun k d => decide (k = e.slot) && d.stamp == some e.stamp) t := if_pos (by simp [hp, hs])
      rw [used]
      exact passReady_passed ready (by simp [h])
    · exact (passEntry_passFrame t e).done done
  · exact fun t b => (passEntry_passFrame t b).done

/-- A READY slot behind the line is DONE (R8, R41). -/
theorem passBehind_foldl_done {l n k x : Nat} {s : State} (hn : n < 8)
    (hst : (stream s n).state = .running ∨ (stream s n).state = .lapsed)
    (hr : (dirEntry s n k).state = .ready ∨ (dirEntry s n k).state = .done) (ht : (dirEntry s n k).stamp = some x)
    (hx : x < l + (streamWindow s n).stagger) : (dirEntry ((List.range 8).foldl (passBehind l) s) n k).state = .done := by
  refine foldl_reaches (P := fun t => (dirEntry t n k).state = .done)
    (I := fun t => PassFrame s t) (List.mem_range.mpr hn) ?_ ?_ ?_ (.refl s)
  · exact fun t b h => h.trans (passBehind_passFrame l t b)
  · intro t h
    have entry := hr.elim h.ready fun d => .inr (h.done d)
    rcases entry with ready | done
    · have behind : passBehind l t n = passReady n (fun _ d => match d.stamp with
          | some x => decide (x < l + (streamWindow t n).stagger)
          | none => false) t := if_pos (by rcases hst with hst | hst <;> simp [h.state, hst])
      rw [behind]
      exact passReady_passed ready (by simp [h.stamp, ht, h.plate.streamWindow, hx])
    · exact (passBehind_passFrame l t n).done done
  · exact fun t b => (passBehind_passFrame l t b).done

end Sys2Proof.Machine
end

section
/-! SUPPORT. The line handed over, analysed and completed in one act (R37, R40, R41, R47, R64). -/

namespace Sys2Proof.Machine

/-! ### The completion of a line -/

/-- The slots that the line used and those behind it are passed. -/
def slotsPassed (l : Nat) (r : List CovEntry) (s : State) : State :=
  (List.range 8).foldl (passBehind l) (r.foldl passEntry s)

theorem slotsPassed_passFrame (l : Nat) (r : List CovEntry) (s : State) : PassFrame s (slotsPassed l r s) :=
  (PassFrame.foldl passEntry_passFrame r s).trans (PassFrame.foldl (passBehind_passFrame l) _ _)

/-- A not-before test changes the Order Unit alone (R178). -/
theorem testNotBefore_eq_with (s : State) : testNotBefore s = { s with orders := (testNotBefore s).orders } := by
  unfold testNotBefore
  split
  · split
    · split <;> rfl
    · rfl
  · rfl

theorem takeWaitingLaneOrder_of_none {s : State} (h : ∀ o, s.orders.phase ≠ .laneWait o) : takeWaitingLaneOrder s = s := by
  unfold takeWaitingLaneOrder
  split
  · rename_i o ho
    exact absurd ho (h o)
  · rfl

/-- The line is taken: A is the line, and none is in assembly (R41). -/
def lineTaken (l : Nat) (s : State) : State := { s with asm := { a := l, record := none, analysing := false } }

theorem lineTaken_orders (l : Nat) (s : State) : (lineTaken l s).orders = s.orders := rfl

theorem PinFrame.ofOrders (s : State) (x : OrderUnit) : PinFrame s { s with orders := x } := rfl

theorem lineTaken_pinFrame (l : Nat) (s : State) : PinFrame s (lineTaken l s) := rfl

theorem completeLine_of_no_wait {l : Nat} {r : List CovEntry} {s : State} (h : ∀ o, s.orders.phase ≠ .laneWait o) :
    completeLine l r s = plateChanged (evaluate (testNotBefore (lineTaken l (slotsPassed l r s)))) := by
  have idle := takeWaitingLaneOrder_of_none (s := lineTaken l (slotsPassed l r s))
    (by rw [lineTaken_orders, (slotsPassed_passFrame l r s).plate.orders]; exact h)
  exact congrArg (fun x => plateChanged (evaluate (testNotBefore x))) idle

/-- A line completed: its slots are passed, and decisions and retirements follow (R41). -/
theorem completeLine_frames {l : Nat} {r : List CovEntry} {s : State} (h : ∀ o, s.orders.phase ≠ .laneWait o) :
    ∃ u, PlateFrame { lineTaken l (slotsPassed l r s) with orders := u } (completeLine l r s) ∧
      PinFrame (slotsPassed l r s) (completeLine l r s) := by
  rw [completeLine_of_no_wait h, testNotBefore_eq_with]
  exact ⟨_, (evaluate_plateFrame _).trans (plateChanged_plateFrame _),
    ((lineTaken_pinFrame l _).trans (PinFrame.ofOrders _ _)).trans ((evaluate_pinFrame _).trans (plateChanged_pinFrame _))⟩

/-! ### The hand-over and the pass -/

/-- FETCH_ERROR for each failed fetch that is reported (R37, R38). -/
def fetchReports (l : Nat) (early : List (Fin 8)) (txns : List OwnTxn) (results : List ReadResult) (r : List CovEntry)
    (s : State) : State := r.foldl (fetchEvent l early txns results) s

theorem fetchReports_logFrame (l : Nat) (early : List (Fin 8)) (txns : List OwnTxn) (results : List ReadResult)
    (r : List CovEntry) (s : State) : LogFrame s (fetchReports l early txns results r s) := by
  induction r generalizing s with
  | nil => exact .refl s
  | cons e r ih =>
    refine LogFrame.trans (t := fetchEvent l early txns results s e) ?_ (ih _)
    unfold fetchEvent
    split
    · exact issueEvent_logFrame _ _ _
    · exact .refl s

/-- The entry's pixels depend on the window cache alone. -/
theorem entryPixels_congr {s t : State} (h : t.window = s.window) (txns : List OwnTxn) (results : List ReadResult) :
    entryPixels t txns results = entryPixels s txns results := by
  funext e
  simp only [entryPixels, streamWindow, h]

/-- The pass over a line as it is handed over (R40, R47). -/
def handedPass (s : State) (txns : List OwnTxn) (results : List ReadResult) (r : List CovEntry) : LinePass :=
  linePass s.lanes ((List.range s.det.columns.length).map
    (lineColumn (r.map (fun e => (e, entryPixels s txns results e))))) s.det

/-- The line is analysed: what the pass leaves, and the Blob Tracker's act (R47, R64). -/
def lineAnalysed (l : Nat) (pass : LinePass) (s : State) : State :=
  blobAct l pass.runs pass.overflow pass.uncovered (takePass l pass s)

/-- What the analysis changes: the columns, as the pass leaves them, and neither the line nor the streams but for pins. -/
theorem lineAnalysed_frames (l : Nat) (pass : LinePass) (s : State) :
    PlateFrame { s with det := { columns := pass.columns, streakCounts := pass.counts, runs := pass.runs } }
      (lineAnalysed l pass s) ∧ PinFrame s (lineAnalysed l pass s) := by
  have log := streakEvents_logFrame l 0 s.det.streakCounts pass.counts
    { s with det := { columns := pass.columns, streakCounts := pass.counts, runs := pass.runs } }
  exact ⟨log.plate.trans (blobAct_plateFrame ..), PinFrame.trans (by exact log.pin) (blobAct_pinFrame ..)⟩

theorem analyseLine_eq (early : List (Fin 8)) (r : List CovEntry) (txns : List OwnTxn) (results : List ReadResult) (s : State) :
    analyseLine early r txns results s = completeLine (s.asm.a + 1) r (lineAnalysed (s.asm.a + 1) (handedPass s txns results r)
      (fetchReports (s.asm.a + 1) early txns results r { s with asm := { s.asm with analysing := true } })) := by
  have log := fetchReports_logFrame (s.asm.a + 1) early txns results r { s with asm := { s.asm with analysing := true } }
  have same : handedPass (fetchReports (s.asm.a + 1) early txns results r { s with asm := { s.asm with analysing := true } })
      txns results r = handedPass s txns results r := by
    simp only [handedPass, log.lanes, log.det, entryPixels_congr log.window]
    rfl
  rw [← same]
  rfl

/-- The slots that a completed line passes: those it used, and those of running or lapsed streams behind it (R8, R41). -/
def PassedBy (l : Nat) (r : List CovEntry) (s t : State) : Prop :=
  (∀ e ∈ r, e.standing = .present → e.stopped = false → (dirEntry s e.stream e.slot).state = .ready →
    (dirEntry s e.stream e.slot).stamp = some e.stamp → (dirEntry t e.stream e.slot).state = .done) ∧
  ∀ n < 8, (stream s n).state = .running ∨ (stream s n).state = .lapsed → ∀ k x,
    (dirEntry s n k).state = .ready → (dirEntry s n k).stamp = some x → x < l + (streamWindow s n).stagger →
    (dirEntry t n k).state = .done

theorem slotsPassed_passedBy {s u : State} (pins : PinFrame s u) (hw : u.window = s.window) (l : Nat) (r : List CovEntry) :
    PassedBy l r s (slotsPassed l r u) := by
  have used := PassFrame.foldl passEntry_passFrame r u
  have stagger (n : Nat) : (streamWindow (r.foldl passEntry u) n).stagger = (streamWindow s n).stagger := by
    rw [used.plate.streamWindow, streamWindow, hw, streamWindow]
  refine ⟨fun e he hp hs hr hx => ?_, fun n hn hst k x hr hx hl => ?_⟩
  · exact (PassFrame.foldl (passBehind_passFrame l) _ _).done (passEntry_foldl_done he hp hs
      (.inl ((pins.entry_state _ _).trans hr)) ((pins.entry_stamp _ _).trans hx))
  · refine passBehind_foldl_done hn ?_ (used.ready ((pins.entry_state _ _).trans hr))
      ((used.stamp _ _).trans ((pins.entry_stamp _ _).trans hx)) ((stagger n).symm ▸ hl)
    rw [used.state, pins.state]
    exact hst

/-- A slot passed stays so, whatever becomes of its pin. -/
theorem PassedBy.pin {l : Nat} {r : List CovEntry} {s t u : State} (h : PassedBy l r s t) (k : PinFrame t u) :
    PassedBy l r s u :=
  ⟨fun e he hp hs hr hx => (k.entry_state _ _).trans (h.1 e he hp hs hr hx),
   fun n hn hst j x hr hx hl => (k.entry_state _ _).trans (h.2 n hn hst j x hr hx hl)⟩

/-- What a completed line leaves alone, beside the slots it passes (R41). -/
theorem PlateFrame.lineTaken {l : Nat} {p c : State} {o : OrderUnit} (h : PlateFrame { Machine.lineTaken l p with orders := o } c) :
    c.asm = { a := l, record := none, analysing := false } ∧ c.toTake = p.toTake ∧ c.det = p.det ∧ c.enc = p.enc ∧
      c.lanes = p.lanes ∧ c.grades = p.grades ∧ c.window = p.window ∧ c.anchor = p.anchor :=
  ⟨h.asm, h.toTake, h.det, h.enc, h.lanes, h.grades, h.window, h.anchor⟩

/-- A line completed, from a state whose streams hold nothing. -/
theorem completeLine_outcome {b s u : State} {l : Nat} {r : List CovEntry} (pins : PinFrame s u) (hw : u.window = s.window)
    (hh : ∀ n, (stream s n).hold = none) (ht : u.toTake = []) (hlane : ∀ o, u.orders.phase ≠ .laneWait o) :
    ∃ o, PlateFrame { lineTaken l (slotsPassed l r u) with orders := o } (finish b (completeLine l r u)) ∧
      PassedBy l r s (finish b (completeLine l r u)) := by
  have slots := slotsPassed_passFrame l r u
  have passedSlots := slotsPassed_passedBy pins hw l r
  obtain ⟨o, completed, passed⟩ := completeLine_frames (l := l) (r := r) hlane
  generalize slotsPassed l r u = p at slots passedSlots completed passed ⊢
  generalize completeLine l r u = c at completed passed ⊢
  obtain ⟨-, taken, -⟩ := completed.lineTaken
  have unheld (n : Nat) : (stream c n).hold = none := by rw [passed.hold, slots.hold, pins.hold, hh]
  have drained : c.toTake = [] := by rw [taken, slots.plate.toTake, ht]
  obtain ⟨ended, kept⟩ := finish_of_unheld (b := b) unheld drained
  exact ⟨o, completed.trans ended, (passedSlots.pin passed).pin kept⟩

/-- What a line handed over, analysed and completed leaves, from a state whose streams are those of a quiet one. -/
theorem lineCompleted_outcome {b s h : State} {l : Nat} {r : List CovEntry} {a : Assembler} (pass : LinePass) (hq : Quiet s)
    (f : LogFrame { clearOut Purpose.isPixel s with asm := a } h) (hlane : ∀ o, s.orders.phase ≠ .laneWait o) :
    let t := finish b (completeLine l r (lineAnalysed l pass h))
    t.asm = { a := l, record := none, analysing := false } ∧
      t.det = { columns := pass.columns, streakCounts := pass.counts, runs := pass.runs } ∧ PassedBy l r s t ∧
      t.enc = s.enc ∧ t.lanes = s.lanes ∧ t.grades = s.grades ∧ t.window = s.window ∧ t.anchor = s.anchor := by
  obtain ⟨plates, pins⟩ := lineAnalysed_frames l pass h
  generalize lineAnalysed l pass h = u at plates pins ⊢
  obtain ⟨hh, -, ht⟩ := hq
  have window : u.window = s.window := plates.window.trans f.window
  have drained : u.toTake = [] := plates.toTake.trans (f.toTake.trans ht)
  have det := plates.det
  have enc : u.enc = s.enc := plates.enc.trans f.enc
  have lanes : u.lanes = s.lanes := plates.lanes.trans f.lanes
  have grades : u.grades = s.grades := plates.grades.trans f.grades
  have anchor : u.anchor = s.anchor := plates.anchor.trans f.anchor
  have streamsKept : PinFrame s u := PinFrame.trans (.of_streams f.streams) pins
  obtain ⟨o, frame, passed⟩ := completeLine_outcome (b := b) (l := l) (r := r) streamsKept window hh drained
    (by rw [plates.orders, f.orders]; exact hlane)
  have slots := slotsPassed_passFrame l r u
  generalize slotsPassed l r u = p at slots frame
  generalize finish b (completeLine l r u) = t at frame passed ⊢
  obtain ⟨tAsm, -, tDet, tEnc, tLanes, tGrades, tWindow, tAnchor⟩ := frame.lineTaken
  exact ⟨tAsm, by rw [tDet, slots.plate.det, det], passed, by rw [tEnc, slots.plate.enc, enc],
    by rw [tLanes, slots.plate.lanes, lanes], by rw [tGrades, slots.plate.grades, grades],
    by rw [tWindow, slots.plate.window, window], by rw [tAnchor, slots.plate.anchor, anchor]⟩

theorem exec_pixelFetchDone (results : PixelResults) (s : State) :
    exec (.pixelFetchDone results) s = .next (finish s (match s.asm.record with
      | some record =>
        burstsAnswered Purpose.isPixel results.bursts (fun ts => analyseLine results.early record ts results.bursts) s
      | none => clearOut Purpose.isPixel s)) := rfl

/-! ### What is reported, and what is handed over -/

theorem mem_resultsOf {p : Purpose} {txns : List OwnTxn} {results : List ReadResult} {r : ReadResult} :
    r ∈ resultsOf p txns results ↔ ∃ x ∈ txns.zip results, x.1.purpose = p ∧ x.2 = r := by
  simp [resultsOf, and_assoc]

/-- An entry's fetch failed: it is PRESENT and a burst got an error (R37). -/
theorem fetchFailed_iff {txns : List OwnTxn} {results : List ReadResult} {e : CovEntry} :
    fetchFailed txns results e = true ↔
      e.standing = .present ∧ ∃ x ∈ txns.zip results, x.1.purpose = .pixel e.stream ∧ x.2.okay = false := by
  simp only [fetchFailed, Bool.and_eq_true, beq_iff_eq, List.any_eq_true, mem_resultsOf, Bool.not_eq_true']
  refine and_congr_right fun _ => ⟨?_, ?_⟩
  · rintro ⟨r, ⟨x, hx, hp, rfl⟩, hr⟩
    exact ⟨x, hx, hp, hr⟩
  · rintro ⟨x, hx, hp, hr⟩
    exact ⟨x.2, ⟨x, hx, hp, rfl⟩, hr⟩

theorem fetchReported_iff {early : List (Fin 8)} {txns : List OwnTxn} {results : List ReadResult} {e : CovEntry} :
    fetchReported early txns results e = true ↔
      e.standing = .present ∧ (∃ x ∈ txns.zip results, x.1.purpose = .pixel e.stream ∧ x.2.okay = false) ∧
        (e.stopped = false ∨ ∃ n ∈ early, n.val = e.stream) := by
  simp only [fetchReported, Bool.and_eq_true, fetchFailed_iff, Bool.or_eq_true, Bool.not_eq_true', List.any_eq_true,
    beq_iff_eq, and_assoc]

/-- An entry's own bursts. -/
def ownBursts (e : CovEntry) (txns : List OwnTxn) (results : List ReadResult) : List (OwnTxn × ReadResult) :=
  (txns.zip results).filter (fun x => x.1.purpose == .pixel e.stream)

/-- The entry's pixels can be used: it is PRESENT, was not stopped, and no burst failed (R35, R37, R38). -/
def Usable (e : CovEntry) (txns : List OwnTxn) (results : List ReadResult) : Prop :=
  e.standing = .present ∧ e.stopped = false ∧ ∀ x ∈ ownBursts e txns results, x.2.okay = true

theorem unusable_iff {e : CovEntry} {txns : List OwnTxn} {results : List ReadResult} :
    (e.standing != .present || e.stopped || fetchFailed txns results e) = true ↔ ¬ Usable e txns results := by
  simp only [Usable, ownBursts, List.mem_filter, beq_iff_eq, Bool.or_eq_true, bne_iff_ne, fetchFailed_iff]
  constructor
  · rintro ((h | h) | ⟨-, x, hx, hp, hr⟩) ⟨hs, hst, hall⟩
    · exact h hs
    · exact absurd (h.symm.trans hst) (by decide)
    · exact absurd (hr.symm.trans (hall x ⟨hx, hp⟩)) (by decide)
  · intro h
    by_contra hn
    simp only [not_or, not_and, not_exists, Bool.not_eq_true, Bool.not_eq_false, not_not] at hn
    obtain ⟨⟨hs, hst⟩, hf⟩ := hn
    exact h ⟨hs, hst, fun x hx => hf hs x hx.1 hx.2⟩

theorem entryPixels_of_unusable (s : State) {e : CovEntry} {txns : List OwnTxn} {results : List ReadResult}
    (h : ¬ Usable e txns results) : entryPixels s txns results e = [] := by
  simp only [entryPixels, unusable_iff.mpr h]
  rfl

theorem entryPixels_of_usable (s : State) {e : CovEntry} {txns : List OwnTxn} {results : List ReadResult}
    (h : Usable e txns results) : entryPixels s txns results e =
      spanBytes (fetchAddr (streamWindow s e.stream) e) (fetchLength (streamWindow s e.stream) e)
        (resultsOf (.pixel e.stream) txns results) := by
  have usable : (e.standing != .present || e.stopped || fetchFailed txns results e) = false := by
    rw [← Bool.not_eq_true, unusable_iff]
    exact not_not_intro h
  simp only [entryPixels, usable]
  rfl

/-- A column outside every entry's span (R40). -/
theorem lineColumn_outside {entries : List (CovEntry × List Byte)} {c : Nat}
    (h : ∀ x ∈ entries, ¬ (x.1.first ≤ c ∧ c ≤ x.1.last)) : lineColumn entries c = .outside := by
  have none_found : entries.find? (fun x => decide (x.1.first ≤ c) && decide (c ≤ x.1.last)) = none := by
    rw [List.find?_eq_none]
    exact fun x hx => by simpa using h x hx
  simp only [lineColumn, none_found]

/-- A column within the span of an entry, and of none before it (R40). -/
theorem lineColumn_within {pre post : List (CovEntry × List Byte)} {x : CovEntry × List Byte} {c : Nat}
    (hpre : ∀ y ∈ pre, ¬ (y.1.first ≤ c ∧ c ≤ y.1.last)) (hx : x.1.first ≤ c ∧ c ≤ x.1.last) :
    lineColumn (pre ++ x :: post) c = match x.2[c - x.1.first]? with
      | some p => .covered p.toNat
      | none => .uncovered := by
  have found : (pre ++ x :: post).find? (fun x => decide (x.1.first ≤ c) && decide (c ≤ x.1.last)) = some x := by
    rw [List.find?_append, List.find?_eq_none.mpr (fun y hy => by simpa using hpre y hy)]
    simp [hx.1, hx.2]
  simp only [lineColumn, found] <;> rfl

end Sys2Proof.Machine

open Sys2Proof Sys2Proof.Machine

/-- Settles O15: the command, the reports, the pixels and the columns. -/
theorem pixelFetchDone : Obligations.PixelFetchDone := by
  unfold Obligations.PixelFetchDone
  refine ⟨?command, fun _ _ _ _ => fetchReported_iff, fun s txns results e => ?pixels, fun entries c => ?columns⟩
  case command =>
    intro s r results early txns hq hrec hg hf hlane l pass handed
    have reports : LogFrame { clearOut Purpose.isPixel s with asm := { s.asm with analysing := true } } handed :=
      fetchReports_logFrame l early txns results r _
    obtain ⟨asm, det, ⟨used, behind⟩, rest⟩ := lineCompleted_outcome (b := s) (r := r) (l := l) pass hq reports hlane
    refine ⟨_, ?_, rfl, asm, det, used, behind, rest⟩
    rw [exec_pixelFetchDone, hrec]
    simp only [burstsAnswered_of_fit hg hf]
    rw [analyseLine_eq]
    rfl
  case pixels =>
    intro w own usable
    refine ⟨fun h => entryPixels_of_unusable s h, fun h => ?_⟩
    rw [entryPixels_of_usable s h, spanBytes, resultsOf, List.map_map]
    rfl
  case columns =>
    intro spans
    refine ⟨fun h => lineColumn_outside h, ?_⟩
    rintro pre x post rfl hpre hx
    exact lineColumn_within hpre hx
end

section
/-! SUPPORT. Plates abandoned (R118, R120): what is left in the records of their ticket slots, and the ticket writes that wait. -/

namespace Sys2Proof.Machine

/-! ### The ticket writes that wait at the port (R126, R137) -/

/-- The ticket writes that wait at the port. -/
def ticketRequests (s : State) : List OwnTxn := s.arb.ownWaiting.filter (fun x => x.purpose.rank == 1)

/-- No ticket write has been issued or taken back. -/
def TicketKept (s t : State) : Prop := ticketRequests t = ticketRequests s

theorem TicketKept.refl (s : State) : TicketKept s s := rfl

theorem TicketKept.trans {s t u : State} (h : TicketKept s t) (k : TicketKept t u) : TicketKept s u := Eq.trans k h

theorem TicketKept.of_arb {s t : State} (h : t.arb = s.arb) : TicketKept s t := by rw [TicketKept, ticketRequests, h, ticketRequests]

theorem issueOwn_ticketRequests (p : Purpose) (a : Nat) (b : OwnBody) (s : State) : ticketRequests (issueOwn p a b s) =
    ticketRequests s ++ if p.rank = 1 then [{ purpose := p, live := true, addr := a, body := b }] else [] := by
  have single (x : OwnTxn) : [x].filter (fun x => x.purpose.rank == 1) = if x.purpose.rank = 1 then [x] else [] := by
    rw [List.filter_singleton, cond_eq_ite]
    simp only [beq_iff_eq]
  rw [ticketRequests, issueOwn, List.filter_append, single]
  rfl

theorem issueOwn_ticketKept {p : Purpose} (h : p.rank ≠ 1) (a : Nat) (b : OwnBody) (s : State) :
    TicketKept s (issueOwn p a b s) := by
  rw [TicketKept, issueOwn_ticketRequests, if_neg h, List.append_nil]

/-- Transactions of other classes disowned. -/
theorem disown_ticketKept {p : Purpose → Bool} (h : ∀ x, p x = true → x.rank ≠ 1) (s : State) : TicketKept s (disown p s) := by
  simp only [TicketKept, ticketRequests, disown, List.filter_map]
  have purpose : (fun x : OwnTxn => x.purpose.rank == 1) ∘ (fun x => if p x.purpose then { x with live := false } else x) =
      fun x => x.purpose.rank == 1 := by
    funext x
    simp only [Function.comp_apply]
    split <;> rfl
  rw [purpose]
  refine (List.map_congr_left fun x hx => ?_).trans (List.map_id _)
  have rank : x.purpose.rank = 1 := by simpa using (List.mem_filter.mp hx).2
  rw [if_neg fun hp => h _ hp rank]
  rfl

theorem issueRecords_ticketKept (base size i : Nat) (rs : List LogRecord) (s : State) :
    TicketKept s (issueRecords base size i rs s) := by
  induction rs generalizing i s with
  | nil => exact .refl s
  | cons r rs ih => exact (issueOwn_ticketKept (p := .log) (by decide) _ _ s).trans (ih (i + 1) _)

theorem takeGroups_ticketKept (gs : List LogGroup) (s : State) : TicketKept s (takeGroups gs s) := by
  induction gs generalizing s with
  | nil => exact .of_arb rfl
  | cons g gs ih =>
    unfold takeGroups
    split
    · exact TicketKept.trans (by exact .of_arb rfl) (ih _)
    · exact TicketKept.trans (by exact .of_arb rfl) (issueRecords_ticketKept ..)

theorem pumpLog_ticketKept (s : State) : TicketKept s (pumpLog s) := by
  unfold pumpLog
  split
  · exact takeGroups_ticketKept _ s
  · exact .refl s

theorem formLogLost_ticketKept (s : State) : TicketKept s (formLogLost s) :=
  TicketKept.trans (by exact .of_arb rfl) (pumpLog_ticketKept _)

theorem refreshStatus_ticketKept (b s : State) : TicketKept s (refreshStatus b s) := by
  unfold refreshStatus
  split
  · exact .refl s
  · unfold promptStatus
    split
    · exact .of_arb rfl
    · exact TicketKept.trans (by exact .of_arb rfl) (issueOwn_ticketKept (p := .status) (by decide) _ _ _)

/-! ### One ticket withdrawn -/

/-- The record of a slot that an update changes. -/
theorem slotRec_modSlot_self {s : State} {j : Nat} (f : SlotRec → SlotRec) (h : j < s.tickets.length) :
    slotRec (modSlot j f s) j = f (slotRec s j) := by
  simp [slotRec, modSlot, h]

/-- Another slot's record is left alone. -/
theorem slotRec_modSlot_of_ne {i j : Nat} (f : SlotRec → SlotRec) (s : State) (h : i ≠ j) :
    slotRec (modSlot j f s) i = slotRec s i := by
  simp [slotRec, modSlot, List.getD, h.symm]

theorem modSlot_length (j : Nat) (f : SlotRec → SlotRec) (s : State) : (modSlot j f s).tickets.length = s.tickets.length :=
  List.length_modify ..

theorem slotRec_congr {s t : State} (h : t.tickets = s.tickets) (j : Nat) : slotRec t j = slotRec s j := by
  rw [slotRec, h, slotRec]

/-- The record of a slot whose null rewrite is issued (R137). -/
theorem slotRec_issueNull_self {s : State} {j : Nat} (q : Nat) (h : j < s.tickets.length) : slotRec (issueNull j q s) j =
    { slotRec s j with write := .nulling, nullPending := none, nullFenced := false } := slotRec_modSlot_self _ h

theorem slotRec_issueNull_of_ne {i j : Nat} (q : Nat) (s : State) (h : i ≠ j) : slotRec (issueNull j q s) i = slotRec s i :=
  slotRec_modSlot_of_ne _ s h

/-- A plate withdrawn changes the ticket slots and the port alone. -/
theorem withdrawTicket_eq_with (d : Bool) (p : Plate) (s : State) :
    ∃ k b, withdrawTicket d p s = { s with tickets := k, arb := b } ∧ k.length = s.tickets.length := by
  unfold withdrawTicket
  dsimp only
  split
  · exact ⟨_, _, rfl, by simp⟩
  · split
    · exact ⟨_, _, rfl, by simp⟩
    · exact ⟨_, _, rfl, by simp⟩
  · exact ⟨_, _, rfl, by simp⟩

/-- Another slot is left alone. -/
theorem withdrawTicket_slotRec_of_ne {j : Nat} (d : Bool) {p : Plate} {s : State} (h : j ≠ slotOf s p.seq) :
    slotRec (withdrawTicket d p s) j = slotRec s j := by
  have pending (f : SlotRec → SlotRec) (t : State) : slotRec (modSlot (slotOf s p.seq) f t) j = slotRec t j :=
    slotRec_modSlot_of_ne f t h
  unfold withdrawTicket
  dsimp only
  split
  · rw [pending, pending]
  · split
    · rw [slotRec_issueNull_of_ne _ _ h, pending]
    · rw [pending, pending]
  · rw [pending]

/-- What the plate leaves in its slot. -/
theorem withdrawTicket_slotRec_self (d : Bool) {p : Plate} {s : State} (h : slotOf s p.seq < s.tickets.length) :
    slotRec (withdrawTicket d p s) (slotOf s p.seq) = withdrawnSlot d p (slotRec s (slotOf s p.seq)) := by
  have vacant (f : SlotRec → SlotRec) := slotRec_modSlot_self f h
  have pending (f g : SlotRec → SlotRec) : slotRec (modSlot (slotOf s p.seq) g (modSlot (slotOf s p.seq) f s)) (slotOf s p.seq) =
      g (f (slotRec s (slotOf s p.seq))) := by
    rw [slotRec_modSlot_self g (by rwa [modSlot_length]), vacant]
  unfold withdrawTicket withdrawnSlot
  dsimp only
  split
  case h_1 sealing =>
    rw [pending]
    simp [sealing]
  case h_2 isSealed =>
    rw [vacant]
    split
    · rename_i idle
      rw [slotRec_issueNull_self _ (by rwa [modSlot_length]), vacant]
      simp_all
    · rename_i busy
      rw [pending]
      simp_all
  case h_3 =>
    rw [vacant]
    cases hp : p.state <;> simp_all

/-- The null rewrite of a SEALED plate whose slot is idle is issued at once (R137). -/
theorem withdrawTicket_ticketRequests (d : Bool) {p : Plate} {s : State} (h : slotOf s p.seq < s.tickets.length) :
    ticketRequests (withdrawTicket d p s) = ticketRequests s ++ nullRewrites d s [p] := by
  have vacant (f : SlotRec → SlotRec) := slotRec_modSlot_self f h
  unfold withdrawTicket nullRewrites
  dsimp only
  split
  case h_1 sealing => simp [sealing, ticketRequests, modSlot]
  case h_2 isSealed =>
    rw [vacant]
    split
    · rename_i idle
      rw [issueNull, issueOwn_ticketRequests, vacant]
      simp_all [Purpose.rank, ticketRequests, modSlot, ticketAddr, nullTicket, zeros]
    · rename_i busy
      simp_all [ticketRequests, modSlot]
  case h_3 =>
    cases hp : p.state <;> simp_all [ticketRequests, modSlot]

/-! ### Plates abandoned -/

/-- Plates abandoned, one after the other. -/
def abandonAll (d : Bool) (gone : List Plate) (s : State) : State := gone.foldl (abandonPlate d) s

/-- A plate abandoned changes its split, the ticket slots, the tallies and the port alone. -/
theorem abandonPlate_eq_with (d : Bool) (p : Plate) (s : State) : ∃ c k y b, abandonPlate d s p =
    { s with blobs := { s.blobs with splits := c }, tickets := k, tally := y, arb := b } ∧ k.length = s.tickets.length := by
  obtain ⟨k, b, h, hk⟩ := withdrawTicket_eq_with d p
    { s with blobs := { s.blobs with splits := s.blobs.splits.filter (fun c => c != p.cut) } }
  exact ⟨_, k, _, b, congrArg (tallyAdd .abandoned 1) h, hk⟩

theorem abandonAll_eq_with (d : Bool) (gone : List Plate) (s : State) : ∃ c k y b, abandonAll d gone s =
    { s with blobs := { s.blobs with splits := c }, tickets := k, tally := y, arb := b } := by
  induction gone generalizing s with
  | nil => exact ⟨_, _, _, _, rfl⟩
  | cons p gone ih =>
    obtain ⟨c, k, y, b, step, -⟩ := abandonPlate_eq_with d p s
    obtain ⟨c', k', y', b', rest⟩ := ih (abandonPlate d s p)
    refine ⟨c', k', y', b', ?_⟩
    rw [abandonAll, List.foldl_cons, ← abandonAll, rest, step]

/-- What plates abandoned leave in the ticket slots, each in its own, and at the port. -/
structure Withdrawn (d : Bool) (s : State) (gone : List Plate) (t : State) : Prop where
  other : ∀ j, (∀ p ∈ gone, slotOf s p.seq ≠ j) → slotRec t j = slotRec s j
  own : ∀ p ∈ gone, slotRec t (slotOf s p.seq) = withdrawnSlot d p (slotRec s (slotOf s p.seq))
  requests : ticketRequests t = ticketRequests s ++ nullRewrites d s gone

theorem abandonPlate_withdrawn (d : Bool) {p : Plate} {s : State} (h : slotOf s p.seq < s.tickets.length) :
    Withdrawn d s [p] (abandonPlate d s p) := by
  let s0 : State := { s with blobs := { s.blobs with splits := s.blobs.splits.filter (fun c => c != p.cut) } }
  have self : slotRec (withdrawTicket d p s0) (slotOf s p.seq) = withdrawnSlot d p (slotRec s (slotOf s p.seq)) :=
    withdrawTicket_slotRec_self d (s := s0) h
  refine ⟨fun j hj => ?_, fun q hq => ?_, withdrawTicket_ticketRequests d (s := s0) h⟩
  · exact withdrawTicket_slotRec_of_ne d (s := s0) fun e => hj p (List.mem_singleton_self p) e.symm
  · rw [List.mem_singleton.mp hq]
    exact self

/-- The null rewrites depend on the ring and on the slots of the plates alone. -/
theorem nullRewrites_congr {d : Bool} {s t : State} {gone : List Plate} (hw : t.window = s.window)
    (h : ∀ p ∈ gone, slotRec t (slotOf s p.seq) = slotRec s (slotOf s p.seq)) : nullRewrites d t gone = nullRewrites d s gone := by
  have slot (p : Plate) : slotOf t p.seq = slotOf s p.seq := by rw [slotOf, hw, slotOf]
  have same : gone.filter (fun p => decide (p.state = .sealed ∧ (slotRec t (slotOf t p.seq)).write = .none)) =
      gone.filter (fun p => decide (p.state = .sealed ∧ (slotRec s (slotOf s p.seq)).write = .none)) :=
    List.filter_congr fun p hp => by rw [slot, h p hp]
  unfold nullRewrites
  rw [same]
  refine List.map_congr_left fun p hp => ?_
  dsimp only
  rw [slot, h p (List.mem_filter.mp hp).1, hw]

theorem nullRewrites_cons (d : Bool) (s : State) (p : Plate) (gone : List Plate) :
    nullRewrites d s (p :: gone) = nullRewrites d s [p] ++ nullRewrites d s gone := by
  rw [nullRewrites, List.filter_cons]
  unfold nullRewrites
  split <;> simp_all

/-- Plates with slots of their own are withdrawn each by itself (R137, R138). -/
theorem abandonAll_withdrawn (d : Bool) {gone : List Plate} {s : State} (h : SlotsApart s gone) :
    Withdrawn d s gone (abandonAll d gone s) := by
  induction gone generalizing s with
  | nil => exact ⟨fun _ _ => rfl, fun p hp => absurd hp List.not_mem_nil, (List.append_nil _).symm⟩
  | cons p gone ih =>
    obtain ⟨hnd, hlt⟩ := h
    obtain ⟨hp, hnd⟩ := List.nodup_cons.mp hnd
    obtain ⟨hpl, hlt⟩ := List.forall_mem_cons.mp hlt
    have first := abandonPlate_withdrawn d hpl
    obtain ⟨c, k, y, b, step, length⟩ := abandonPlate_eq_with d p s
    have window : (abandonPlate d s p).window = s.window := by rw [step]
    have slot (q : Nat) : slotOf (abandonPlate d s p) q = slotOf s q := by rw [slotOf, window, slotOf]
    have apartOf (q : Plate) (hq : q ∈ gone) : slotOf s p.seq ≠ slotOf s q.seq := fun e =>
      hp (List.mem_map.mpr ⟨q, hq, e.symm⟩)
    have untouched (q : Plate) (hq : q ∈ gone) : slotRec (abandonPlate d s p) (slotOf s q.seq) = slotRec s (slotOf s q.seq) :=
      first.other _ fun x hx => List.mem_singleton.mp hx ▸ apartOf q hq
    obtain ⟨other, own, requests⟩ := ih (s := abandonPlate d s p)
      ⟨by simpa only [slot] using hnd, fun q hq => by rw [slot, step]; exact length ▸ hlt q hq⟩
    simp only [slot] at other own
    refine ⟨fun j hj => ?_, fun q hq => ?_, ?_⟩
    · obtain ⟨hjp, hjs⟩ := List.forall_mem_cons.mp hj
      exact (other j hjs).trans (first.other j fun x hx => List.mem_singleton.mp hx ▸ hjp)
    · rcases List.mem_cons.mp hq with rfl | hq
      · exact (other _ fun r hr => (apartOf r hr).symm).trans (first.own q (List.mem_singleton_self q))
      · exact (own q hq).trans (by rw [untouched q hq])
    · refine requests.trans ?_
      rw [first.requests, nullRewrites_congr window untouched, nullRewrites_cons d s p gone, List.append_assoc]

/-- Every plate abandoned is tallied, up to the top of the tally (R164). -/
theorem abandonAll_tally (d : Bool) {gone : List Plate} {s : State} (hl : s.tally.counts.length = tallyPlaces)
    (hg : gone ≠ []) : tallyOf (abandonAll d gone s).tally .abandoned = min (tallyOf s.tally .abandoned + gone.length) 65535 := by
  have step (p : Plate) {s : State} (hl : s.tally.counts.length = tallyPlaces) :
      (abandonPlate d s p).tally.counts.length = tallyPlaces ∧
        tallyOf (abandonPlate d s p).tally .abandoned = min (tallyOf s.tally .abandoned + 1) 65535 := by
    obtain ⟨k, b, h, -⟩ := withdrawTicket_eq_with d p
      { s with blobs := { s.blobs with splits := s.blobs.splits.filter (fun c => c != p.cut) } }
    have tally : (abandonPlate d s p).tally = s.tally.add .abandoned 1 := by
      rw [abandonPlate, h]
      rfl
    rw [tally]
    exact ⟨(TallyUnit.add_counts_length _ _ _).trans hl, tallyOf_add_self (by rw [hl]; decide) 1⟩
  induction gone generalizing s with
  | nil => exact absurd rfl hg
  | cons p gone ih =>
    obtain ⟨length, value⟩ := step p hl
    rcases eq_or_ne gone [] with rfl | hne
    · exact value
    · have rest := ih length hne
      rw [abandonAll, List.foldl_cons, ← abandonAll, rest, value, List.length_cons]
      omega

end Sys2Proof.Machine
end

section
/-! SUPPORT. Disable, block by block (R28, R120, R138, R176). -/

namespace Sys2Proof.Machine

/-! ### A write to one control field (R174) -/

/-- A write to CONTROL alone acts on CONTROL alone. -/
theorem latchAnchor_of_control {s : State} {w : UpWrite} (h : ∀ f ∈ controlFields,
    strobedIn w (anchorBase s + f.1) f.2 = decide (f.1 = 0x00)) :
    latchAnchor w s = writeControl (latched w (anchorBase s + 0x00) 4 s.anchor.control.toNat) s := by
  simp only [controlFields, List.forall_mem_cons] at h
  obtain ⟨h0, h1, h2, h3, h4, h5, h6, h7, h8, h9, -⟩ := h
  have control (t : State) : actOn (fieldWritten s w 0x00 4 s.anchor.control.toNat) writeControl t =
      writeControl (latched w (anchorBase s + 0x00) 4 s.anchor.control.toNat) t := by
    rw [fieldWritten, if_pos (by simpa using h0), actOn]
  simp only [latchAnchor]
  rw [actOn_fieldWritten_of_untouched h9, actOn_fieldWritten_of_untouched h8, actOn_fieldWritten_of_untouched h7,
    actOn_fieldWritten_of_untouched h6, actOn_fieldWritten_of_untouched h5, actOn_fieldWritten_of_untouched h4,
    actOn_fieldWritten_of_untouched h3, actOn_fieldWritten_of_untouched h2, actOn_fieldWritten_of_untouched h1, control]

/-- In a quiet state a write to CONTROL goes to the arbiter, and CONTROL takes its value. -/
theorem arriveWrite_of_control {s : State} {w : UpWrite} (hq : Quiet s) (hw : FieldWrite s w 0x00) : arriveWrite w s =
    writeControl (latched w (anchorBase s + 0x00) 4 s.anchor.control.toNat) (forwardPass (.write w []) s) := by
  obtain ⟨hh, -, ht⟩ := hq
  obtain ⟨body, status, untracked, tag, fields⟩ := hw
  rw [arriveWrite_of_free hh ht, judgeWrite, body, status]
  simp only [heldBy_of_untracked untracked]
  have passed : passWrite w true s = latchAnchor w (takeStatus w (forwardPass (.write w []) s)) := by
    unfold passWrite
    rw [untracked]
  refine passed.trans ?_
  rw [takeStatus_of_other_tag (s := forwardPass (.write w []) s) tag]
  exact latchAnchor_of_control (s := forwardPass (.write w []) s) fields

/-! ### The streams -/

/-- Every stream is stopped. -/
def stopAll (s : State) : State := (List.range 8).foldr stopStream s

/-- A stop in a quiet state leaves a quiet one, in which the stream is OFF and the others are as they were. -/
theorem stopStream_quiet {s : State} (hq : Quiet s) (n : Nat) : Quiet (stopStream n s) ∧
    (stream (stopStream n s) n).state = .off ∧ (∀ m, m ≠ n → stream (stopStream n s) m = stream s m) ∧
    TicketKept s (stopStream n s) ∧
    ∃ rs r b, stopStream n s = { s with streams := rs, asm := { s.asm with record := r }, arb := b } := by
  by_cases hoff : (stream s n).state = .off
  · rw [stopStream_of_off hoff]
    exact ⟨hq, hoff, fun _ _ => rfl, .refl s, _, _, _, rfl⟩
  · rw [stopStream_of_quiet hq hoff]
    refine ⟨hq.offStream n, congrArg StreamRec.state (offStream_stream_self (lt_of_stream_ne_off hoff)),
      fun m hm => offStream_stream_of_ne s hm, ?_, _, _, _, rfl⟩
    exact TicketKept.trans (t := disown (· == .seed n) s)
      (disown_ticketKept (fun x hx => by rw [beq_iff_eq.mp hx]; simp [Purpose.rank]) s) (.refl _)

/-- All streams stopped, from a quiet state. -/
theorem stopAll_outcome {s : State} (hq : Quiet s) : Quiet (stopAll s) ∧ (∀ n < 8, (stream (stopAll s) n).state = .off) ∧
    TicketKept s (stopAll s) ∧
    ∃ rs r b, stopAll s = { s with streams := rs, asm := { s.asm with record := r }, arb := b } := by
  have stopped (l : List Nat) : Quiet (l.foldr stopStream s) ∧ (∀ n ∈ l, (stream (l.foldr stopStream s) n).state = .off) ∧
      TicketKept s (l.foldr stopStream s) ∧
      ∃ rs r b, l.foldr stopStream s = { s with streams := rs, asm := { s.asm with record := r }, arb := b } := by
    induction l with
    | nil => exact ⟨hq, fun n hn => absurd hn List.not_mem_nil, .refl s, _, _, _, rfl⟩
    | cons n l ih =>
      obtain ⟨quiet, off, kept, rs, r, b, eq⟩ := ih
      rw [List.foldr_cons]
      generalize l.foldr stopStream s = u at quiet off kept eq ⊢
      obtain ⟨quiet', off', other, kept', rs', r', b', eq'⟩ := stopStream_quiet quiet n
      refine ⟨quiet', fun m hm => ?_, kept.trans kept', rs', r', b', by rw [eq', eq]⟩
      by_cases hmn : m = n
      · rw [hmn]
        exact off'
      · rw [other m hmn]
        exact off m ((List.mem_cons.mp hm).resolve_left hmn)
  obtain ⟨quiet, off, rest⟩ := stopped (List.range 8)
  exact ⟨quiet, fun n hn => off n (List.mem_range.mpr hn), rest⟩

/-! ### The line, the blob table, the scheduler and the orders -/

/-- The line is abandoned and the Blob Tracker is cleared. -/
def clearLine (s : State) : State := { abandonLine s with blobs := clearBlobs (abandonLine s).blobs }

theorem clearLine_eq_with (s : State) : clearLine s = { s with
    asm := { s.asm with record := none, analysing := false }, det := { s.det with runs := [] }
    blobs := clearBlobs s.blobs, arb := (clearLine s).arb } := rfl

theorem clearLine_ticketKept (s : State) : TicketKept s (clearLine s) :=
  TicketKept.trans (t := disown Purpose.isPixel s)
    (disown_ticketKept (fun x hx => by cases x <;> simp_all [Purpose.isPixel, Purpose.rank]) s) (.refl _)

/-- The scheduler's part of a disable. -/
theorem disableScheduler_outcome (s : State) : ∃ k y b,
    disableScheduler s = { s with
      sched := { s.sched with active := false, queue := [], request := none, replan := none, flaws := [], zone := none }
      blobs := { s.blobs with splits := [] }, tickets := k, tally := y, arb := b } ∧
    (SlotsApart s s.sched.queue → Withdrawn true s s.sched.queue (disableScheduler s)) ∧
    (s.tally.counts.length = tallyPlaces → s.sched.queue ≠ [] →
      tallyOf (disableScheduler s).tally .abandoned = min (tallyOf s.tally .abandoned + s.sched.queue.length) 65535) := by
  obtain ⟨c, k, y, b, eq⟩ := abandonAll_eq_with true s.sched.queue s
  have from_all : disableScheduler s = deactivate { abandonAll true s.sched.queue s with
      sched := { (abandonAll true s.sched.queue s).sched with queue := [] }
      blobs := { (abandonAll true s.sched.queue s).blobs with splits := [] } } := rfl
  refine ⟨k, y, b, by rw [from_all, eq]; rfl, fun h => ?_, fun hl hne => abandonAll_tally true hl hne⟩
  obtain ⟨other, own, requests⟩ := abandonAll_withdrawn true h
  exact ⟨other, own, requests⟩

/-- The current order abandoned: a completion write is carried through, and any other phase ends (R176). -/
theorem abandonOrder_outcome (s : State) : TicketKept s (abandonOrder s) ∧
    (∃ p b, abandonOrder s = { s with orders := { s.orders with phase := p }, arb := b }) ∧
    ((∀ c, s.orders.phase ≠ .completing c) → (abandonOrder s).orders.phase = .idle) ∧
    ((∃ c, s.orders.phase = .completing c) → (abandonOrder s).orders.phase = s.orders.phase) := by
  have ended {p : Purpose} (hp : p.rank ≠ 1) : TicketKept s (disown (· == p) (setPhase .idle s)) :=
    TicketKept.trans (t := setPhase .idle s) (.refl s)
      (disown_ticketKept (fun x hx => by rwa [beq_iff_eq.mp hx]) _)
  unfold abandonOrder
  split
  case h_1 c hc => exact ⟨.refl s, ⟨_, _, rfl⟩, fun h => absurd hc (h c), fun _ => rfl⟩
  case h_2 hp => exact ⟨ended (by decide), ⟨_, _, rfl⟩, fun _ => rfl, fun ⟨c, hc⟩ => by simp [hp] at hc⟩
  case h_3 hp => exact ⟨ended (by decide), ⟨_, _, rfl⟩, fun _ => rfl, fun ⟨c, hc⟩ => by simp [hp] at hc⟩
  case h_4 hp => exact ⟨ended (by decide), ⟨_, _, rfl⟩, fun _ => rfl, fun ⟨c, hc⟩ => by simp [hp] at hc⟩
  case h_5 hp => exact ⟨ended (by decide), ⟨_, _, rfl⟩, fun _ => rfl, fun ⟨c, hc⟩ => by simp [hp] at hc⟩
  all_goals
    rename_i hp
    exact ⟨.refl s, ⟨_, _, rfl⟩, fun _ => rfl, fun ⟨c, hc⟩ => by simp [hp] at hc⟩

theorem disablePart_of_quiet {s : State} (hq : Quiet s) :
    disablePart s = abandonOrder (disableScheduler (clearLine (stopAll s))) := by
  have idle : dropCopy s = s := by simp [dropCopy, hq.2.1]
  rw [disablePart, idle]
  rfl

/-- What a disable leaves: each block as its own rule states (R176). -/
structure Disabled (s t : State) : Prop where
  quiet : Quiet t
  streams : ∀ n < 8, (stream t n).state = .off
  anchor : t.anchor = s.anchor
  asm : t.asm = { a := s.asm.a, record := none, analysing := false }
  sched : t.sched = { s.sched with active := false, queue := [], request := none, replan := none, flaws := [], zone := none }
  blobs : t.blobs = { clearBlobs s.blobs with splits := [] }
  det : t.det = { s.det with runs := [] }
  idle : (∀ c, s.orders.phase ≠ .completing c) → t.orders.phase = .idle
  completing : (∃ c, s.orders.phase = .completing c) → t.orders.phase = s.orders.phase
  head : t.orders.head = s.orders.head
  cap : t.cap = s.cap
  enc : t.enc = s.enc
  window : t.window = s.window
  lanes : t.lanes = s.lanes
  grades : t.grades = s.grades
  slots : SlotsApart s s.sched.queue → Withdrawn true s s.sched.queue t
  tally : s.tally.counts.length = tallyPlaces → s.sched.queue ≠ [] →
    tallyOf t.tally .abandoned = min (tallyOf s.tally .abandoned + s.sched.queue.length) 65535

/-- What concerns the Record Writer alone leaves a disable's outcome. -/
theorem Disabled.log {s t u : State} (h : Disabled s t) (f : LogFrame t u) (k : TicketKept t u)
    (y : TallyKept .abandoned t u) : Disabled s u where
  quiet := f.quiet h.quiet
  streams n hn := by rw [f.stream, h.streams n hn]
  anchor := f.anchor.trans h.anchor
  asm := f.asm.trans h.asm
  sched := f.sched.trans h.sched
  blobs := f.blobs.trans h.blobs
  det := f.det.trans h.det
  idle hp := (congrArg OrderUnit.phase f.orders).trans (h.idle hp)
  completing hp := (congrArg OrderUnit.phase f.orders).trans (h.completing hp)
  head := (congrArg OrderUnit.head f.orders).trans h.head
  cap := f.cap.trans h.cap
  enc := f.enc.trans h.enc
  window := f.window.trans h.window
  lanes := f.lanes.trans h.lanes
  grades := f.grades.trans h.grades
  slots hs :=
    let ⟨other, own, requests⟩ := h.slots hs
    ⟨fun j hj => (slotRec_congr f.tickets j).trans (other j hj), fun p hp => (slotRec_congr f.tickets _).trans (own p hp),
      Eq.trans k requests⟩
  tally hl hne := y.value.trans (h.tally hl hne)

/-- A disable of a quiet state. -/
theorem disablePart_disabled {s : State} (hq : Quiet s) : Disabled s (disablePart s) := by
  rw [disablePart_of_quiet hq]
  obtain ⟨quiet, off, kept, rs, r, b, eq⟩ := stopAll_outcome hq
  generalize stopAll s = u at quiet off kept eq ⊢
  have line := clearLine_eq_with u
  have keptLine := kept.trans (clearLine_ticketKept u)
  generalize clearLine u = v at line keptLine ⊢
  obtain ⟨k, y, b', plates, withdrawn, tally⟩ := disableScheduler_outcome v
  generalize disableScheduler v = x at plates withdrawn tally ⊢
  obtain ⟨keptOrder, ⟨p, b'', order⟩, idle, completing⟩ := abandonOrder_outcome x
  generalize abandonOrder x = t at keptOrder order idle completing ⊢
  subst eq
  generalize v.arb = bv at line
  subst line
  subst plates
  subst order
  exact {
    quiet := quiet
    streams := off
    anchor := rfl, asm := rfl, sched := rfl, blobs := rfl, det := rfl
    idle := idle, completing := completing
    head := rfl, cap := rfl, enc := rfl, window := rfl, lanes := rfl, grades := rfl
    slots := fun h => by
      obtain ⟨other, own, requests⟩ := withdrawn h
      exact ⟨other, own, (Eq.trans keptOrder requests).trans (congrArg (· ++ _) keptLine)⟩
    tally := tally }

/-! ### The command -/

/-- The CONTROL latch has taken a value. -/
def withControl (v : Nat) (s : State) : State := { s with anchor := { s.anchor with control := BitVec.ofNat 32 v } }

theorem enabled_withControl (v : Nat) (s : State) : enabled (withControl v s) = v.testBit 0 := by
  rw [enabled, withControl, BitVec.getLsbD_ofNat]
  simp

/-- CONTROL with ENABLE going to 0: the disable, and LOG_CLEAR if the value carries it (R176, R182). -/
theorem writeControl_of_disable {v : Nat} {s : State} (he : enabled s = true) (hv : v.testBit 0 = false) :
    writeControl v s = disablePart (withControl v s) ∨ writeControl v s = formLogLost (disablePart (withControl v s)) := by
  have before : (!enabled s && enabled (withControl v s)) = false := by rw [he]; rfl
  have after : (enabled s && !enabled (withControl v s)) = true := by rw [he, enabled_withControl, hv]; rfl
  have acted : writeControl v s =
      (let u := if !enabled s && enabled (withControl v s) then enablePart (withControl v s)
        else if enabled s && !enabled (withControl v s) then disablePart (withControl v s) else withControl v s
      if v.testBit 1 && u.writer.overflow then formLogLost u else u) := rfl
  rw [acted, before, after]
  generalize disablePart (withControl v s) = u
  simp only [Bool.false_eq_true, if_false, if_true]
  split
  · exact .inr rfl
  · exact .inl rfl

theorem formLogLost_tallyKept (s : State) : TallyKept .abandoned s (formLogLost s) := by
  have apart : TallyKey.abandoned.index ≠ TallyKey.recordsLost.index := by decide
  have lost : TallyKept .abandoned s (loseRecords (bufferedRecords s.writer) { s with writer := { s.writer with buffer := [] } }) :=
    TallyKept.trans (by exact .of_eq rfl) (loseRecords_kept apart _ { s with writer := { s.writer with buffer := [] } })
  unfold formLogLost
  generalize loseRecords (bufferedRecords s.writer) { s with writer := { s.writer with buffer := [] } } = u at lost ⊢
  exact lost.trans (TallyKept.trans (by exact .of_eq rfl) (pumpLog_kept apart _))

theorem refreshStatus_tallyKept (b s : State) : TallyKept .abandoned s (refreshStatus b s) :=
  .of_eq ((congrArg State.tally (refreshStatus_eq_with b s)).trans rfl)

/-- CONTROL with ENABLE going to 0, up to the end of the command. -/
theorem disabled_by_control {b s : State} {v : Nat} (hq : Quiet s) (he : enabled s = true) (hv : v.testBit 0 = false) :
    Disabled (withControl v s) (finish b (writeControl v s)) := by
  have disabled := disablePart_disabled (s := withControl v s) hq
  have acted : Disabled (withControl v s) (writeControl v s) := by
    rcases writeControl_of_disable he hv with h | h
    · rw [h]
      exact disabled
    · rw [h]
      exact disabled.log (formLogLost_logFrame _) (formLogLost_ticketKept _) (formLogLost_tallyKept _)
  rw [finish_of_quiet acted.quiet]
  exact acted.log (refreshStatus_logFrame _ _) (refreshStatus_ticketKept _ _) (refreshStatus_tallyKept _ _)

theorem exec_disable (w : UpWrite) (s : State) : exec (.disable w) s = .next (finish s (arriveWrite w s)) := rfl

end Sys2Proof.Machine

open Sys2Proof Sys2Proof.Machine

/-- Settles O36: each block's part of the disable, carried to the end of the command. -/
theorem disable : Obligations.Disable := by
  unfold Obligations.Disable
  intro s w hq hw he hv
  let v := latched w (anchorBase s + 0x00) 4 s.anchor.control.toNat
  have outcome : Disabled (withControl v (forwardPass (.write w []) s))
      (finish s (writeControl v (forwardPass (.write w []) s))) := disabled_by_control hq he hv
  generalize ht : finish s (writeControl v (forwardPass (.write w []) s)) = t at outcome
  refine ⟨t, ?_, ?_, outcome.streams, outcome.asm, outcome.sched, ?_, ?_, ?_, ?_, outcome.det, outcome.idle,
    outcome.completing, outcome.head, outcome.cap, outcome.enc, outcome.window, outcome.lanes, outcome.grades,
    fun h => ?_, outcome.tally⟩
  · rw [exec_disable, arriveWrite_of_control hq hw, ht]
  · rw [enabled, outcome.anchor, ← enabled, enabled_withControl, hv]
  · simp [outcome.blobs, clearBlobs]
  · simp [outcome.blobs, clearBlobs]
  · simp [outcome.blobs, clearBlobs]
  · simp [outcome.blobs]
  · obtain ⟨other, own, requests⟩ := outcome.slots h
    exact ⟨other, own, requests⟩
end

section
/-! SUPPORT. The capture copy: rows, segments, and the test for segments that are unavailable (R157 to R160). -/

namespace Sys2Proof.Machine

/-! ### Rows and segments -/

theorem rowBytes_length (c : Copy) (row : Nat) : (rowBytes c row).length = 256 := by simp [rowBytes, Config.captureSide]

theorem rowBytes_getElem? (c : Copy) (row : Nat) {i : Nat} (h : i < 256) :
    (rowBytes c row)[i]? = some (rowByte c row (c.x0 + i)) := by
  simp [rowBytes, Config.captureSide, h]

/-- A column over which no capture stream lies has a zero (R159). -/
theorem rowByte_uncovered {c : Copy} {row col : Nat} (h : ∀ cs ∈ c.streams, ¬ (cs.first ≤ col ∧ col ≤ cs.last)) :
    rowByte c row col = 0 := by
  have none_over : c.streams.find? (fun cs => decide (cs.first ≤ col) && decide (col ≤ cs.last)) = none := by
    rw [List.find?_eq_none]
    exact fun cs hcs => by simpa using h cs hcs
  simp only [rowByte, none_over]

/-- The byte that a capture stream's segments give a row (R159). -/
def segmentByte (cs : CapStream) (row i : Nat) : Byte :=
  match cs.segments.find? (fun g => g.1 == row) with
  | none => 0
  | some g => g.2.getD i 0

/-- The first capture stream over a column gives its byte. -/
theorem rowByte_covered {c : Copy} {row col : Nat} {cs : CapStream} {pre post : List CapStream}
    (hc : c.streams = pre ++ cs :: post) (hpre : ∀ y ∈ pre, ¬ (y.first ≤ col ∧ col ≤ y.last)) (hf : cs.first ≤ col)
    (hl : col ≤ cs.last) : rowByte c row col = segmentByte cs row (col - cs.first) := by
  have found : c.streams.find? (fun cs => decide (cs.first ≤ col) && decide (col ≤ cs.last)) = some cs := by
    rw [hc, List.find?_append, List.find?_eq_none.mpr (fun y hy => by simpa using hpre y hy)]
    simp [hf, hl]
  simp only [rowByte, found, segmentByte] <;> rfl

theorem segmentByte_of_none {cs : CapStream} {row : Nat} (h : ∀ g ∈ cs.segments, g.1 ≠ row) (i : Nat) :
    segmentByte cs row i = 0 := by
  have absent : cs.segments.find? (fun g => g.1 == row) = none := by
    rw [List.find?_eq_none]
    exact fun g hg => by simpa using h g hg
  simp only [segmentByte, absent]

theorem segmentByte_of_some {cs : CapStream} {row : Nat} {data : List Byte} {done later : List (Nat × List Byte)}
    (hs : cs.segments = done ++ (row, data) :: later) (hd : ∀ g ∈ done, g.1 ≠ row) (i : Nat) :
    segmentByte cs row i = data.getD i 0 := by
  have present : cs.segments.find? (fun g => g.1 == row) = some (row, data) := by
    rw [hs, List.find?_append, List.find?_eq_none.mpr (fun g hg => by simpa using hd g hg)]
    simp
  simp only [segmentByte, present]

theorem segmentBytes_getElem? (cs : CapStream) (pixels i : Nat) (data : List Byte) : (segmentBytes cs pixels data)[i]? =
    data[i]?.map (fun b => if cs.winStart + (cs.first - cs.colBase) + i < pixels then b else 0) := by
  rw [segmentBytes, List.getElem?_mapIdx]

/-! ### Unavailable segments (R160) -/

theorem slotWithStamp_eq_none {r : StreamRec} {stamp : Nat} : slotWithStamp r stamp = none ↔
    ∀ e ∈ r.dir, ¬ (e.stamp = some stamp ∧ (e.state = .filling ∨ e.state = .ready ∨ e.state = .done)) := by
  simp [slotWithStamp, List.findIdx?_eq_none_iff, and_assoc]

/-- The stamp, or its line, is passed (R160). -/
theorem stampPassed_iff (r : StreamRec) (stamp : Nat) : (match r.lastStamp with
    | some l => decide (stamp ≤ l)
    | none => false) = true ↔ ∃ l, r.lastStamp = some l ∧ stamp ≤ l := by
  cases r.lastStamp <;> simp

theorem unavailable_iff {s : State} {c : Copy} {cs : CapStream} {j : Nat} :
    unavailable s c cs j = true ↔ c.yw + j < 0 ∨ (stream s cs.stream).state = .faulted ∨
      ((∀ e ∈ (stream s cs.stream).dir, ¬ (e.stamp = some ((c.yw + j).toNat + cs.stagger) ∧
          (e.state = .filling ∨ e.state = .ready ∨ e.state = .done))) ∧
        ((∃ l, (stream s cs.stream).lastStamp = some l ∧ (c.yw + j).toNat + cs.stagger ≤ l) ∨ c.yw + j ≤ s.asm.a)) := by
  have passed := stampPassed_iff (stream s cs.stream) ((c.yw + j).toNat + cs.stagger)
  simp only [unavailable, Bool.or_eq_true, Bool.and_eq_true, decide_eq_true_eq, beq_iff_eq, Option.isNone_iff_eq_none,
    slotWithStamp_eq_none, or_assoc]
  exact or_congr_right (or_congr_right (and_congr_right fun _ => or_congr_left passed))

/-- The next segment is passed over as unavailable once it has been found so. -/
theorem segmentState_unavailable_iff {s : State} {c : Copy} {cs : CapStream} :
    segmentState s c cs = .unavailable ↔ cs.gone.getD cs.next false = true := by
  unfold segmentState
  split
  · rename_i h
    exact ⟨fun _ => h, fun _ => rfl⟩
  · rename_i h
    refine ⟨fun k => ?_, fun k => absurd k h⟩
    split at k
    · cases k
    · dsimp only at k
      split at k <;> cases k

/-! ### The test -/

/-- A window line that a capture stream has neither read nor begun to read. -/
def Unread (cs : CapStream) (j : Nat) : Prop := cs.next < j ∨ (cs.next = j ∧ cs.reading = none)

theorem unread_iff {cs : CapStream} {j : Nat} : (if cs.reading.isSome then cs.next + 1 else cs.next) ≤ j ↔ Unread cs j := by
  unfold Unread
  cases cs.reading with
  | none =>
    simp only [Option.isSome_none, Bool.false_eq_true, if_false, and_true]
    omega
  | some p =>
    simp only [Option.isSome_some, if_true, reduceCtorEq, and_false, or_false]
    omega

theorem testedStream_eq_with (s : State) (c : Copy) (cs : CapStream) :
    ∃ gone, testedStream s c cs = { cs with gone := gone } ∧ gone.length = cs.gone.length :=
  ⟨_, rfl, List.length_mapIdx⟩

theorem testedStream_gone {s : State} {c : Copy} {cs : CapStream} {j : Nat} (h : j < cs.gone.length) :
    (testedStream s c cs).gone.getD j false = true ↔
      cs.gone.getD j false = true ∨ (Unread cs j ∧ unavailable s c cs j = true) := by
  have value : (testedStream s c cs).gone.getD j false = (cs.gone.getD j false ||
      (decide ((if cs.reading.isSome then cs.next + 1 else cs.next) ≤ j) && unavailable s c cs j)) := by
    simp [testedStream, List.getD, h]
  rw [value, Bool.or_eq_true, Bool.and_eq_true, decide_eq_true_eq, unread_iff]

/-- The lines missing after a test (R160). -/
def missingAfter (s : State) (c : Copy) : List Bool :=
  c.missing.mapIdx (fun j m => m || (c.streams.map (testedStream s c)).any (fun cs => cs.gone.getD j false))

theorem testSegments_of_copy {s : State} {c : Copy} (h : s.cap.copy = some c) : testSegments s =
    { s with cap := { s.cap with copy := some { c with
        streams := c.streams.map (testedStream s c), missing := missingAfter s c } } } := by
  simp only [testSegments, h]
  rfl

theorem missingAfter_getD {s : State} {c : Copy} {j : Nat} (h : j < c.missing.length) :
    (missingAfter s c).getD j false = true ↔ c.missing.getD j false = true ∨
      ∃ cs ∈ c.streams, (testedStream s c cs).gone.getD j false = true := by
  simp [missingAfter, List.getD, h]

/-! ### Nothing stays untested (R160) -/

/-- Every unread line of the copy that is unavailable, as the streams and A stand in `b`, has been found so. -/
def Tested (b : State) (c : Copy) : Prop :=
  ∀ cs ∈ c.streams, ∀ j < cs.gone.length, Unread cs j → unavailable b c cs j = true → cs.gone.getD j false = true

/-- A capture stream that has gone on from another: no line has come to be unread, and no finding is taken back. -/
structure Follows (cs ds : CapStream) : Prop where
  stream : ds.stream = cs.stream
  stagger : ds.stagger = cs.stagger
  length : ds.gone.length = cs.gone.length
  unread : ∀ j, Unread ds j → Unread cs j
  gone : ∀ j, cs.gone.getD j false = true → ds.gone.getD j false = true

theorem Follows.refl (cs : CapStream) : Follows cs cs := ⟨rfl, rfl, rfl, fun _ => id, fun _ => id⟩

/-- A copy whose streams have gone on stays tested. -/
theorem Tested.map {b : State} {c d : Copy} (h : Tested b c) (hy : d.yw = c.yw) {f : CapStream → CapStream}
    (hd : d.streams = c.streams.map f) (hf : ∀ cs, Follows cs (f cs)) : Tested b d := by
  intro ds hds j hj hu hun
  obtain ⟨cs, hcs, rfl⟩ := List.mem_map.mp (hd ▸ hds)
  have follows := hf cs
  have same : unavailable b d (f cs) j = unavailable b c cs j := by
    simp only [unavailable, hy, follows.stream, follows.stagger]
  exact follows.gone j (h cs hcs j (follows.length ▸ hj) (follows.unread j hu) (same ▸ hun))

/-- The copy of a state, if there is one, is tested as the streams and A stand in `b`. -/
def CopyTested (b s : State) : Prop := ∀ c, s.cap.copy = some c → Tested b c

theorem CopyTested.of_cap {b s t : State} (h : CopyTested b s) (hc : t.cap = s.cap) : CopyTested b t :=
  fun c k => h c (hc ▸ k)

/-- An update of the copy whose streams go on. -/
theorem CopyTested.modCopy {b s : State} (h : CopyTested b s) {g : Copy → Copy} {f : Copy → CapStream → CapStream}
    (hy : ∀ c, (g c).yw = c.yw) (hs : ∀ c, (g c).streams = c.streams.map (f c)) (hf : ∀ c cs, Follows cs (f c cs)) :
    CopyTested b (modCopy g s) := by
  intro d hd
  obtain ⟨c, hc, rfl⟩ := Option.map_eq_some_iff.mp hd
  exact (h c hc).map (hy c) (hs c) (hf c)

theorem CopyTested.modCapStream {b s : State} (h : CopyTested b s) {f : CapStream → CapStream} (hf : ∀ cs, Follows cs (f cs))
    (n : Nat) : CopyTested b (modCapStream n f s) := by
  refine h.modCopy (f := fun _ cs => if cs.stream = n then f cs else cs) (fun _ => rfl) (fun _ => rfl) fun _ cs => ?_
  split
  · exact hf cs
  · exact .refl cs

/-- A line passed over as unavailable. -/
theorem follows_missed (cs : CapStream) :
    Follows cs { cs with next := cs.next + 1, reading := none, gone := cs.gone.set cs.next true } := by
  refine ⟨rfl, rfl, List.length_set, fun j h => ?_, fun j h => ?_⟩
  · simp only [Unread] at h ⊢
    omega
  · by_cases hj : cs.next = j
    · subst hj
      have lt : cs.next < cs.gone.length := by
        by_contra hn
        rw [List.getD_eq_default _ _ (Nat.le_of_not_lt hn)] at h
        cases h
      simp [List.getD, lt]
    · simpa [List.getD, hj] using h

/-- A line whose read is issued. -/
theorem follows_reading (cs : CapStream) (p : Nat) : Follows cs { cs with reading := some p } :=
  ⟨rfl, rfl, rfl, fun _ h => .inl (h.resolve_right fun k => by cases k.2), fun _ => id⟩

/-- Segments of a row that is written. -/
theorem follows_segments (cs : CapStream) (gs : List (Nat × List Byte)) : Follows cs { cs with segments := gs } :=
  ⟨rfl, rfl, rfl, fun _ => id, fun _ => id⟩

theorem missSegment_copyTested {b s : State} (h : CopyTested b s) (cs : CapStream) : CopyTested b (missSegment cs s) := by
  have marked : CopyTested b (modCopy (fun c => { c with missing := c.missing.set cs.next true }) s) :=
    h.modCopy (f := fun _ cs => cs) (fun _ => rfl) (fun _ => (List.map_id _).symm) (fun _ => .refl)
  exact marked.modCapStream follows_missed cs.stream

theorem issueReads_cap (p : Purpose) (bs : List (Nat × Nat)) (s : State) : (issueReads p bs s).cap = s.cap :=
  (issueReads_logFrame p bs s).cap

theorem advanceCapStream_copyTested {b : State} (n f : Nat) {s : State} (h : CopyTested b s) :
    CopyTested b (advanceCapStream n f s) := by
  induction f generalizing s with
  | zero => exact h
  | succ f ih =>
    unfold advanceCapStream
    split
    · exact h
    · split
      · exact h
      · split
        · exact h
        · split
          · exact h
          · exact ih (missSegment_copyTested h _)
          · exact (h.modCapStream (fun cs => follows_reading cs _) n).of_cap (issueReads_cap _ _ _)

theorem advanceRows_copyTested {b : State} (f : Nat) {s : State} (h : CopyTested b s) : CopyTested b (advanceRows f s) := by
  induction f generalizing s with
  | zero => exact h
  | succ f ih =>
    unfold advanceRows
    split
    · exact h
    · split
      · refine ih (CopyTested.of_cap ?_ (issueOwn_logFrame _ _ _ _).cap)
        exact h.modCopy (f := fun c cs => { cs with segments := cs.segments.filter (fun g => g.1 != c.nextRow) })
          (fun _ => rfl) (fun _ => rfl) fun _ cs => follows_segments cs _
      · exact h

theorem advanceHeader_copyTested {b s : State} (h : CopyTested b s) : CopyTested b (advanceHeader s) := by
  unfold advanceHeader
  split
  · exact h
  · split
    · refine CopyTested.of_cap ?_ (issueOwn_logFrame _ _ _ _).cap
      exact h.modCopy (f := fun _ cs => cs) (fun _ => rfl) (fun _ => (List.map_id _).symm) (fun _ => .refl)
    · exact h

/-- A test leaves nothing untested. -/
theorem testSegments_copyTested (s : State) : CopyTested s (testSegments s) := by
  intro d hd
  unfold testSegments at hd
  split at hd
  · rename_i hc
    rw [hc] at hd
    cases hd
  · rename_i c hc
    obtain rfl := Option.some.inj hd
    intro ds hds j hj hu hun
    obtain ⟨cs, hcs, rfl⟩ := List.mem_map.mp hds
    obtain ⟨gone, eq, length⟩ := testedStream_eq_with s c cs
    have lt : j < cs.gone.length := by
      rw [eq] at hj
      exact length ▸ hj
    rw [testedStream_gone lt]
    refine .inr ⟨?_, ?_⟩
    · rw [eq] at hu
      exact hu
    · rw [eq] at hun
      exact hun

/-- The Capture Engine goes on with nothing untested. -/
theorem advanceCapture_copyTested (s : State) : CopyTested s (advanceCapture s) := by
  unfold advanceCapture
  split
  · rename_i hc
    exact fun d hd => absurd (hc.symm.trans hd) (by simp)
  · have streams (l : List CapStream) : ∀ t, CopyTested s t →
        CopyTested s (l.foldl (fun s cs => advanceCapStream cs.stream (Config.captureSide + 1) s) t) := by
      induction l with
      | nil => exact fun t h => h
      | cons cs l ih => exact fun t h => ih _ (advanceCapStream_copyTested _ _ h)
    exact advanceHeader_copyTested (advanceRows_copyTested _ (streams _ _ (testSegments_copyTested s)))

/-- Whether a segment is unavailable depends on the streams and on A. -/
theorem CopyFrame.unavailable {s t : State} (h : CopyFrame s t) (c : Copy) (cs : CapStream) (j : Nat) :
    unavailable t c cs j = Machine.unavailable s c cs j := by
  simp only [Machine.unavailable, h.stream, h.asm]

end Sys2Proof.Machine
end

section
/-! SUPPORT. The capture copy's responses (R159, R161), and a hold that its pins kept back (R11). -/

namespace Sys2Proof.Machine

/-! ### Responses to own transactions -/

/-- The response to a transaction that is awaited: it is taken off the port and acted on. -/
theorem ownAnswered_of_awaited {s : State} {p : Purpose → Bool} {x : OwnTxn} {left : List OwnTxn} (h : Awaited s p x left)
    {fits : OwnTxn → Bool} (hf : fits x = true) (act : OwnTxn → State → State) :
    ownAnswered p fits act s = act x (withOut left s) := by
  obtain ⟨pre, post, hout, rfl, hpre, hx, hlive⟩ := h
  have first := takeFirst_of_first (p := fun t : OwnTxn => p t.purpose) post hpre hx
  have answer : answerOwn p s = some (x, withOut (pre ++ post) s) := by
    rw [answerOwn, hout, first]
    rfl
  simp [ownAnswered, answer, hlive, hf]

/-! ### A hold released -/

/-- A header write released from its hold is taken, whatever holds its tag (R11). -/
theorem drain_forced {s : State} {n k stamp count : Nat} {w : UpWrite} (hq : Quiet s) (h : HeaderWriteFor s w n k)
    (hb : (dirEntry s n k).busy = false) (hfill : (stream s n).fill = none)
    (hg : GoodHeader (streamWindow s n).slotSize w.data stamp count) (hf : StampFits s n stamp) (f : Nat) :
    drain (f + 2) { s with toTake := [{ stream := n, write := w, mode := .forced }] } =
      forwardPass (.write w [headerNote n k count w.data.length]) (fillBegun n k stamp count w.data.length s) := by
  have filled : (forwardPass (.write w [headerNote n k count w.data.length])
      (fillBegun n k stamp count w.data.length s)).toTake = [] :=
    (fillBegun_plateFrame n k stamp count w.data.length s).toTake.trans hq.2.2
  have taken := h.taken_good (headerReady_of_free hb hfill) (.refl _) rfl hg hf
  rw [pinAccepted_of_no_copy (by rw [fillBegun_cap]; exact hq.2.1)] at taken
  have judged : takeLetGo { stream := n, write := w, mode := .forced } s = judgeWrite w .forced s := by
    simp [takeLetGo, takeWrite]
  have passed : takeLetGo { stream := n, write := w, mode := .forced } s =
      forwardPass (.write w [headerNote n k count w.data.length]) (fillBegun n k stamp count w.data.length s) := by
    rw [judged, judgeWrite_of_plain h.1]
    simp only [h.passed, taken]
  have next (t : State) : nextLetGo t [] [{ stream := n, write := w, mode := .forced }] =
      some ({ stream := n, write := w, mode := .forced }, []) := by simp [nextLetGo, takeable]
  have told : statusFields (forwardPass (.write w [headerNote n k count w.data.length])
      (fillBegun n k stamp count w.data.length s)) =
      statusFields { s with toTake := [{ stream := n, write := w, mode := .forced }] } :=
    statusFields_fillBegun n k stamp count w.data.length s
  rw [drain, next]
  simp only [withToTake_of_eq hq.2.2]
  rw [passed, refreshStatus_of_eq told, drain, filled]
  rfl

/-- A hold that no slot keeps back any more is released, and its header write begins its fill (R11). -/
theorem settleHolds_released {t : State} {n k stamp count start : Nat} {w : UpWrite} (hc : t.cap.copy = none)
    (ht : t.toTake = []) (ho : ∀ m, m ≠ n → (stream t m).hold = none)
    (hs : (stream t n).hold = some { start := start, held := w, queue := [] }) (h : HeaderWriteFor t w n k)
    (hb : (dirEntry t n k).busy = false) (hfill : (stream t n).fill = none)
    (hg : GoodHeader (streamWindow t n).slotSize w.data stamp count) (hf : StampFits t n stamp) (f : Nat) :
    settleHolds (f + 2) t = forwardPass (.write w [headerNote n k count w.data.length])
      (fillBegun n k stamp count w.data.length (modStream n (fun r => { r with hold := none }) t)) := by
  have quiet : Quiet (modStream n (fun r => { r with hold := none }) t) := ⟨hold_unheld ho, hc, ht⟩
  have entry := dirEntry_modStream (f := fun r => { r with hold := none }) (fun _ => rfl) n t n k
  have fill := stream_modStream_field (·.fill) (f := fun r => { r with hold := none }) (fun _ => rfl) n t n
  have last := stream_modStream_field (·.lastStamp) (f := fun r => { r with hold := none }) (fun _ => rfl) n t n
  have drained := drain_forced quiet h.unheld (entry ▸ hb) (fill.trans hfill) hg (hf.congr (modStream_plateFrame _ _ t) last) 1022
  have same : advanceCapture (drain 1024 (testSegments t)) = t := by
    have tested : testSegments t = t := by simp [testSegments, hc]
    have idle : drain 1024 t = t := by simp [drain, ht, nextLetGo]
    rw [tested, idle, advanceCapture, hc]
  have due : (List.range 8).find? (releasable t) = some n := by
    have release : releasable t n = true := by simp [releasable, hs, h.busyHeader, hb]
    cases found : (List.range 8).find? (releasable t) with
    | none => exact absurd release (List.find?_eq_none.mp found n (List.mem_range.mpr (streamOf_spec h.2.1).1))
    | some m =>
      by_contra hm
      have other : m ≠ n := fun e => hm (by rw [e])
      exact absurd (List.find?_some found) (by rw [releasable_of_no_hold (ho m other)]; decide)
  have ended : endHold n .forced .arrive t = { modStream n (fun r => { r with hold := none }) t with
      toTake := [{ stream := n, write := w, mode := .forced }] } := by
    simp only [endHold, hs, ht]
    rfl
  have after := ((forwardPass_logFrame (.write w [headerNote n k count w.data.length]) _).quiet
    (quiet.fillBegun (n := n) (k := k) (stamp := stamp) (count := count) (len := w.data.length)))
  rw [settleHolds]
  simp only [same, due]
  rw [ended]
  exact settleHolds_of_drained (by exact hc) drained after.2.1 (fun m => releasable_of_no_hold (after.1 m)) f

/-! ### The end of the copy (R161) -/

/-- The slot is LOCKED, the copy ends with its pins cleared, the notice is set and the capture tallied (R161). -/
def captureLocked (c : Copy) (s : State) : State :=
  { s with
    cap := { slots := s.cap.slots.set c.slot .locked, copy := none }
    streams := s.streams.map (fun r => { r with dir := r.dir.map (fun e => { e with pin := false }) })
    writer := { s.writer with notices := { s.writer.notices with capture := true } }
    tally := s.tally.add .captureTaken 1 }

theorem captureLocked_stream (c : Copy) (s : State) (m : Nat) : stream (captureLocked c s) m =
    { stream s m with dir := (stream s m).dir.map (fun e => { e with pin := false }) } := unpinAll_stream s m

theorem captureLocked_entry (c : Copy) (s : State) (m k : Nat) :
    dirEntry (captureLocked c s) m k = { dirEntry s m k with pin := false } := by
  rw [dirEntry, captureLocked_stream, dirEntry, List.getD, List.getD, List.getElem?_map]
  cases (stream s m).dir[k]? <;> rfl

theorem captureLocked_plateFrame (c : Copy) (s : State) : PlateFrame s (captureLocked c s) := by constructor <;> rfl

theorem endCapture_eq (c : Copy) (s : State) : endCapture c s =
    if 0 < c.missing.count true then issueEvent .capturePartial [c.slot, c.flaw, c.missing.count true] (captureLocked c s)
    else captureLocked c s := rfl

theorem Quiet.captureLocked {s : State} (c : Copy) (hh : ∀ m, (stream s m).hold = none) (ht : s.toTake = []) :
    Quiet (captureLocked c s) := ⟨fun m => by rw [captureLocked_stream]; exact hh m, rfl, ht⟩

theorem headerAnswered_okay {s : State} {c : Copy} (hc : s.cap.copy = some c) (x : OwnTxn) :
    headerAnswered true x s = endCapture c s := by simp [headerAnswered, hc]

theorem headerAnswered_failed {s : State} {c : Copy} (hc : s.cap.copy = some c) (x : OwnTxn) :
    headerAnswered false x s = issueEvent .captureFailed [c.slot, c.flaw, x.addr] (dropCopy s) := by
  simp [headerAnswered, failCapture, hc]

theorem rowAnswered_failed {s : State} {c : Copy} (hc : s.cap.copy = some c) (x : OwnTxn) :
    rowAnswered false x s = issueEvent .captureFailed [c.slot, c.flaw, x.addr] (dropCopy s) := by
  simp [rowAnswered, failCapture, hc]

theorem exec_captureRowWriteDone (okay : Bool) (s : State) : exec (.captureRowWriteDone okay) s =
    .next (finish s (ownAnswered (· == .captureRow) (fun _ => true) (rowAnswered okay) s)) := rfl

theorem exec_captureHeaderWriteDone (okay : Bool) (s : State) : exec (.captureHeaderWriteDone okay) s =
    .next (finish s (ownAnswered (· == .captureHeader) (fun _ => true) (headerAnswered okay) s)) := rfl

/-- The bytes that a segment's read returned depend on the window cache alone. -/
theorem segmentAnswered_eq (c : Copy) (cs : CapStream) (pixels : Nat) (results : List ReadResult) (p : Purpose → Bool)
    (s : State) : segmentAnswered c cs pixels results (clearOut p s) =
    (let s1 := unpinStamp cs.stream ((c.yw + cs.next).toNat + cs.stagger) (clearOut p s)
     if results.all (·.okay) then modCapStream cs.stream (fun x => { x with
        segments := x.segments ++ [(cs.next, segmentBytes cs pixels (segmentData s cs results))]
        next := cs.next + 1, reading := none }) s1
     else missSegment cs s1) := rfl

/-- A segment read's end (R159). -/
theorem exec_captureSegmentReadDone {s : State} {n : Fin 8} {c : Copy} {cs : CapStream} {pixels : Nat}
    {results : List ReadResult} {txns : List OwnTxn} (hr : readingStream s n = some (c, cs, pixels))
    (hg : allGranted (· == .captureRead n) s = some txns) (hf : resultsFit txns results = true) :
    exec (.captureSegmentReadDone n results) s =
      .next (finish s (segmentAnswered c cs pixels results (clearOut (· == .captureRead n) s))) := by
  have done : exec (.captureSegmentReadDone n results) s = .next (finish s (match readingStream s n with
      | some (c, cs, pixels) =>
        burstsAnswered (· == .captureRead n) results (fun _ => segmentAnswered c cs pixels results) s
      | none => clearOut (· == .captureRead n) s)) := rfl
  rw [done, hr]
  simp only [burstsAnswered_of_fit hg hf]

/-- A held header write that only a pin kept back is released with it (R11, R161). -/
theorem finish_captureLocked {b s : State} {c : Copy} {n k stamp count start : Nat} {w : UpWrite} (ht : s.toTake = [])
    (ho : ∀ m, m ≠ n → (stream s m).hold = none)
    (hs : (stream s n).hold = some { start := start, held := w, queue := [] }) (h : HeaderWriteFor s w n k)
    (hd : (dirEntry s n k).state = .done) (hfill : (stream s n).fill = none)
    (hg : GoodHeader (streamWindow s n).slotSize w.data stamp count) (hf : StampFits s n stamp) :
    finish b (captureLocked c s) = forwardPass (.write w [headerNote n k count w.data.length])
      (fillBegun n k stamp count w.data.length
        (modStream n (fun r => { r with hold := none }) (refreshStatus b (captureLocked c s)))) := by
  have log := refreshStatus_logFrame b (captureLocked c s)
  have plate := (captureLocked_plateFrame c s).trans log.plate
  have record (m : Nat) := (log.stream m).trans (captureLocked_stream c s m)
  have entry := (log.dirEntry n k).trans (captureLocked_entry c s n k)
  have toTake : (refreshStatus b (captureLocked c s)).toTake = [] := plate.toTake.trans ht
  have cap : (refreshStatus b (captureLocked c s)).cap.copy = none := congrArg Capture.copy log.cap
  rw [finish]
  generalize refreshStatus b (captureLocked c s) = t at plate record entry toTake cap ⊢
  have header : HeaderWriteFor t w n k :=
    h.congr plate (fun m => by rw [record]) (by rw [record, List.length_map])
  refine settleHolds_released (start := start) cap toTake (fun m hm => ?_) ?_ header ?_ ?_ (plate.streamWindow n ▸ hg) (hf.congr plate ?_) 254
  · rw [record, ho m hm]
  · rw [record, hs]
  · simp [entry, DirEntry.busy, hd]
  · rw [record, hfill]
  · rw [record]

end Sys2Proof.Machine

open Sys2Proof Sys2Proof.Machine

/-- Settles O49: the four responses, then the rows, the segments and the tests. -/
theorem captureResponses : Obligations.CaptureResponses := by
  unfold Obligations.CaptureResponses
  refine ⟨?segment, ?row, ?header, ?released, ?rows, segmentBytes_getElem?, ?unavailable, ?tests, ?untested⟩
  case segment =>
    intro s n c cs pixels results txns hr hg hf s1
    rw [exec_captureSegmentReadDone hr hg hf, segmentAnswered_eq]
    refine ⟨fun ok => ?_, fun failed => ?_⟩
    · simp only [ok, if_true]
      rfl
    · simp only [failed, Bool.false_eq_true, if_false]
      rfl
  case row =>
    intro s x left c h hc
    rw [exec_captureRowWriteDone, exec_captureRowWriteDone, ownAnswered_of_awaited h rfl, ownAnswered_of_awaited h rfl]
    exact ⟨rfl, by rw [rowAnswered_failed (s := withOut left s) hc]⟩
  case header =>
    intro s x left c h hc ht hh s1
    rw [exec_captureHeaderWriteDone, exec_captureHeaderWriteDone, ownAnswered_of_awaited h rfl, ownAnswered_of_awaited h rfl,
      headerAnswered_okay (s := withOut left s) hc, headerAnswered_failed (s := withOut left s) hc, endCapture_eq]
    have locked : Quiet s1 := Quiet.captureLocked (s := withOut left s) c hh ht
    have dropped : Quiet (dropCopy (withOut left s)) := Quiet.dropCopy (s := withOut left s) hc hh ht
    refine ⟨congrArg _ (finish_of_quiet ?_), congrArg _ (finish_of_quiet ((issueEvent_logFrame _ _ _).quiet dropped))⟩
    split
    · exact (issueEvent_logFrame _ _ _).quiet locked
    · exact locked
  case released =>
    intro s x left c n k stamp count start w h hc ht ho hs hw hd hp hfill hg hf hm locked
    rw [exec_captureHeaderWriteDone, ownAnswered_of_awaited h rfl, headerAnswered_okay (s := withOut left s) hc, endCapture_eq,
      if_neg (by omega)]
    exact congrArg _ (finish_captureLocked (s := withOut left s) ht ho hs hw hd hfill hg hf)
  case rows =>
    intro c row i hi
    rw [rowBytes_getElem? c row hi]
    refine ⟨rowBytes_length c row, fun h => congrArg some (rowByte_uncovered h), ?_⟩
    intro pre cs post hc hpre hfirst hlast
    rw [rowByte_covered hc hpre hfirst hlast]
    exact ⟨fun h => congrArg some (segmentByte_of_none h _), fun data done later hs hd =>
      congrArg some (segmentByte_of_some hs hd _)⟩
  case unavailable => exact fun s c cs j => ⟨unavailable_iff, segmentState_unavailable_iff⟩
  case tests =>
    intro s c hc
    refine ⟨missingAfter s c, testSegments_of_copy hc, List.length_mapIdx, fun j hj => missingAfter_getD hj,
      fun cs hcs => ⟨testedStream_eq_with s c cs, fun j hj => testedStream_gone hj⟩⟩
  case untested =>
    intro s c cs j hc hcs hj hu hun
    rw [(advanceCapture_copyFrame s).unavailable] at hun
    exact advanceCapture_copyTested s c hc cs hcs j hj hu hun
end

section
/-! SUPPORT. Every command but the encoder's own and pin reset leaves the encoder as it is and keeps A at or below E (R24, R25,
R29): one lemma for each shared operation that is neither a `LogFrame` nor a `PlateFrame`. -/

namespace Sys2Proof.Machine

/-- A is at or below E, and below it while a line is in assembly (R29). -/
def LineInv (s : State) : Prop := s.asm.a ≤ s.enc.e ∧ (s.asm.record.isSome = true → s.asm.a + 1 ≤ s.enc.e)

/-- The encoder is as before, and if A had its place below E in `s`, it has it in `t`. -/
structure KeepsLine (s t : State) : Prop where
  enc : t.enc = s.enc
  line : LineInv s → LineInv t

theorem KeepsLine.refl (s : State) : KeepsLine s s := ⟨rfl, id⟩

theorem KeepsLine.trans {s t u : State} (h : KeepsLine s t) (k : KeepsLine t u) : KeepsLine s u :=
  ⟨k.enc.trans h.enc, k.line ∘ h.line⟩

/-- A choice between two updates that keep the line. -/
theorem KeepsLine.ite {s t u : State} {p : Prop} [Decidable p] (h : KeepsLine s t) (k : KeepsLine s u) :
    KeepsLine s (if p then t else u) := by
  split
  · exact h
  · exact k

theorem KeepsLine.foldl {α : Type} {f : State → α → State} (h : ∀ s a, KeepsLine s (f s a)) (l : List α) (s : State) :
    KeepsLine s (l.foldl f s) := by
  induction l generalizing s with
  | nil => exact .refl s
  | cons a l ih => exact (h s a).trans (ih _)

theorem KeepsLine.foldr {α : Type} {f : α → State → State} (h : ∀ s a, KeepsLine s (f a s)) (l : List α) (s : State) :
    KeepsLine s (l.foldr f s) := by
  induction l with
  | nil => exact .refl s
  | cons a l ih => exact ih.trans (h _ a)

/-! ### What leaves the line alone, and what moves it -/

/-- Neither the encoder nor the Line Assembler changes. -/
theorem KeepsLine.ofRest {s t : State} (he : t.enc = s.enc) (ha : t.asm = s.asm) : KeepsLine s t :=
  ⟨he, fun h => by rwa [LineInv, he, ha]⟩

theorem PlateFrame.keepsLine {s t : State} (h : PlateFrame s t) : KeepsLine s t := .ofRest h.enc h.asm

theorem LogFrame.keepsLine {s t : State} (h : LogFrame s t) : KeepsLine s t := .ofRest h.enc h.asm

/-- A stays where it is and no line comes into assembly. -/
theorem KeepsLine.ofRecord {s t : State} (he : t.enc = s.enc) (ha : t.asm.a = s.asm.a)
    (hr : t.asm.record.isSome = true → s.asm.record.isSome = true) : KeepsLine s t := by
  refine ⟨he, fun ⟨behind, below⟩ => ?_⟩
  rw [LineInv, he, ha]
  exact ⟨behind, below ∘ hr⟩

/-- With no line in assembly A may stand anywhere up to E. -/
theorem KeepsLine.ofPlaced {s t : State} (he : t.enc = s.enc) (ha : LineInv s → t.asm.a ≤ s.enc.e)
    (hr : t.asm.record = none) : KeepsLine s t :=
  ⟨he, fun h => ⟨he ▸ ha h, fun k => by rw [hr] at k; cases k⟩⟩

theorem complete_line (c : Completion) (s : State) : KeepsLine s (complete c s) := .ofRest rfl rfl

theorem completeMasked_line (c : Completion) (m : Nat) (s : State) : KeepsLine s (completeMasked c m s) := .ofRest rfl rfl

theorem setPhase_line (p : OrderPhase) (s : State) : KeepsLine s (setPhase p s) := .ofRest rfl rfl

theorem plan_line (s : State) : KeepsLine s (plateChanged (evaluate s)) :=
  ((evaluate_plateFrame s).trans (plateChanged_plateFrame _)).keepsLine

theorem answerOwn_line {p : Purpose → Bool} {s s1 : State} {x : OwnTxn} (h : answerOwn p s = some (x, s1)) :
    KeepsLine s s1 := by
  unfold answerOwn at h
  split at h
  · obtain ⟨-, rfl⟩ := Prod.mk.inj (Option.some.inj h)
    exact .ofRest rfl rfl
  · cases h

/-! ### The Ring Tracker -/

theorem endHold_line (n : Nat) (a b : TakeMode) (s : State) : KeepsLine s (endHold n a b s) := by
  unfold endHold
  split
  · exact .ofRest rfl rfl
  · exact .refl s

theorem abandonHold_line (n : Nat) (s : State) : KeepsLine s (abandonHold n s) := by
  unfold abandonHold
  exact (endHold_line n .untracked .untracked s).trans (.ofRest rfl rfl)

theorem faultStream_line (n : Nat) (s : State) : KeepsLine s (faultStream n s) := by
  have marked : PlateFrame s (unpinStream n ((slotsWhere s n (fun e => e.state == .filling && e.awaiting)).foldl
      (fun s k => loseSlot n k s) (passReady n (fun _ _ => true) s))) :=
    ((passReady_plateFrame _ _ s).trans (.foldl (fun s k => loseSlot_plateFrame n k s) _ _)).trans (modStream_plateFrame _ _ _)
  unfold faultStream
  exact (((marked.trans (disown_logFrame _ _).plate).trans (modStream_plateFrame _ _ _)).trans
    (issueEvent_logFrame _ _ _).plate).keepsLine.trans (abandonHold_line _ _)

/-- A stream stopped marks its entry of the line in assembly, and the line stays in assembly (R38). -/
theorem stopStream_line (n : Nat) (s : State) : KeepsLine s (stopStream n s) := by
  unfold stopStream
  refine .ite (.refl s) ((((dropCopyOf_plateFrame n s).keepsLine.trans (abandonHold_line n _)).trans ?_))
  exact .ofRecord rfl rfl (by simp)

theorem seedDone_line (n : Nat) (f : SeedFetch) (bs : List ReadResult) (s : State) : KeepsLine s (seedDone n f bs s) := by
  have loaded := seedDone_logFrame n f bs s
  exact .ofRest loaded.enc loaded.asm

theorem endSeed_line (n : Nat) (f : SeedFetch) (bs : List ReadResult) (s : State) : KeepsLine s (endSeed n f bs s) := by
  unfold endSeed
  exact .ite (seedDone_line _ _ _ s) (seedFailed_plateFrame _ _ s).keepsLine

theorem timeOutFill_line (n : Nat) (s : State) : KeepsLine s (timeOutFill n s) := by
  unfold timeOutFill
  split
  · exact .refl s
  · rename_i f _
    have lost := (((setFill_plateFrame n none s).trans (loseSlot_plateFrame n f.slot _)).trans
      (issueEvent_logFrame .lineTimeout [n, f.slot, stampOf s n f.slot] _).plate).keepsLine
    exact .ite lost (lost.trans (faultStream_line _ _))

theorem lapseStream_plateFrame (n : Nat) (s : State) : PlateFrame s (lapseStream n s) :=
  (modStream_plateFrame _ _ s).trans (issueEvent_logFrame _ _ _).plate

/-! ### The Line Assembler -/

theorem stepEpisode_plateFrame (l : Nat) (s : State) (e : CovEntry) : PlateFrame s (stepEpisode l s e) := by
  unfold stepEpisode
  split
  · split
    · exact .refl s
    · exact (modStream_plateFrame _ _ s).trans (issueEvent_logFrame _ _ _).plate
  · exact modStream_plateFrame _ _ s

theorem issueFetch_logFrame (s : State) (e : CovEntry) : LogFrame s (issueFetch s e) := by
  unfold issueFetch
  dsimp only
  split
  · exact issueReads_logFrame _ _ s
  · exact .refl s

/-- An assembly but for the record: episodes and fetches (R33, R36). -/
theorem assembleLine_plateFrame (s : State) :
    PlateFrame { s with asm := { s.asm with record := some (coverageRecord s (assembling s)) } } (assembleLine s) := by
  unfold assembleLine
  exact (PlateFrame.foldl (stepEpisode_plateFrame _) _ _).trans (.foldl (fun s e => (issueFetch_logFrame s e).plate) _ _)

/-- A line at or below E comes into assembly (R31, R32). -/
theorem assembleLine_line {s : State} (h : s.asm.a + 1 ≤ s.enc.e) : KeepsLine s (assembleLine s) := by
  have formed : KeepsLine s { s with asm := { s.asm with record := some (coverageRecord s (assembling s)) } } :=
    ⟨rfl, fun ⟨behind, _⟩ => ⟨behind, fun _ => h⟩⟩
  exact formed.trans (assembleLine_plateFrame s).keepsLine

theorem arrivalDue_line {s : State} (h : arrivalDue s = true) : s.asm.a + 1 ≤ s.enc.e := by
  simp only [arrivalDue, Bool.and_eq_true, decide_eq_true_eq] at h
  exact h.1.1.2

theorem timeoutDue_line {s : State} (h : timeoutDue s = true) : s.asm.a + 1 ≤ s.enc.e := by
  simp only [timeoutDue, Bool.and_eq_true, decide_eq_true_eq] at h
  have due : s.asm.a + 1 + 63 + assemblyTimeout s ≤ s.enc.e := h.2
  omega

theorem testNotBefore_line (s : State) : KeepsLine s (testNotBefore s) := by
  rw [testNotBefore_eq_with]
  exact .ofRest rfl rfl

theorem takeLaneOrder_line (o : List Byte) (s : State) : KeepsLine s (takeLaneOrder o s) := by
  unfold takeLaneOrder
  exact .ite (.ofRest rfl rfl) (.ite (.ofRest rfl rfl) (.ite (complete_line _ s) (.ite (.ofRest rfl rfl)
    ((KeepsLine.trans (by exact .ofRest rfl rfl) (issueEvent_logFrame _ _ _).keepsLine).trans (complete_line _ _)))))

theorem takeWaitingLaneOrder_line (s : State) : KeepsLine s (takeWaitingLaneOrder s) := by
  unfold takeWaitingLaneOrder
  split
  · exact takeLaneOrder_line _ s
  · exact .refl s

/-- The line that was in assembly is completed: A is that line, still at or below E (R41). -/
theorem completeLine_line {r : List CovEntry} {s : State} (h : s.asm.record.isSome = true) :
    KeepsLine s (completeLine (s.asm.a + 1) r s) := by
  have passed : PlateFrame s ((List.range 8).foldl (passBehind (s.asm.a + 1)) (r.foldl passEntry s)) :=
    (slotsPassed_passFrame (s.asm.a + 1) r s).plate
  unfold completeLine
  generalize (List.range 8).foldl (passBehind (s.asm.a + 1)) (r.foldl passEntry s) = u at passed ⊢
  have moved : KeepsLine s { u with asm := { a := s.asm.a + 1, record := none, analysing := false } } :=
    .ofPlaced passed.enc (fun k => k.2 h) rfl
  exact ((moved.trans (takeWaitingLaneOrder_line _)).trans (testNotBefore_line _)).trans (plan_line _)

theorem fetchEvent_logFrame (l : Nat) (early : List (Fin 8)) (ts : List OwnTxn) (rs : List ReadResult) (s : State)
    (e : CovEntry) : LogFrame s (fetchEvent l early ts rs s e) := by
  unfold fetchEvent
  split
  · exact issueEvent_logFrame _ _ s
  · exact .refl s

theorem analyseLine_line (early : List (Fin 8)) (r : List CovEntry) (ts : List OwnTxn) (rs : List ReadResult) {s : State}
    (h : s.asm.record.isSome = true) : KeepsLine s (analyseLine early r ts rs s) := by
  have events : LogFrame { s with asm := { s.asm with analysing := true } }
      (r.foldl (fetchEvent (assembling s) early ts rs) { s with asm := { s.asm with analysing := true } }) :=
    .foldl (fetchEvent_logFrame _ early ts rs) _ _
  unfold analyseLine
  dsimp only
  generalize r.foldl (fetchEvent (assembling s) early ts rs) { s with asm := { s.asm with analysing := true } } = u at events ⊢
  generalize linePass u.lanes _ u.det = pass
  have pixels : LogFrame { u with det := { columns := pass.columns, streakCounts := pass.counts, runs := pass.runs } }
      (takePass (assembling s) pass u) := by
    unfold takePass
    exact streakEvents_logFrame ..
  have act := blobAct_plateFrame (assembling s) pass.runs pass.overflow pass.uncovered (takePass (assembling s) pass u)
  generalize blobAct (assembling s) pass.runs pass.overflow pass.uncovered (takePass (assembling s) pass u) = v at act ⊢
  have asm : v.asm = { s.asm with analysing := true } := (act.asm.trans pixels.asm).trans events.asm
  have handed : KeepsLine s v :=
    .ofRecord ((act.enc.trans pixels.enc).trans events.enc) (by rw [asm]) (fun k => by rwa [asm] at k)
  have line : assembling s = v.asm.a + 1 := by rw [asm, assembling]
  rw [line]
  exact handed.trans (completeLine_line (by rwa [asm]))

/-! ### Reports, REFRESH and orders -/

theorem takeShiftClose_line (next : Nat) (s : State) : KeepsLine s (takeShiftClose next s) := by
  unfold takeShiftClose closeShift
  have bursts : ∀ (l : List (Nat × List Byte)) (s : State),
      LogFrame s (l.foldl (fun s b => issueOwn .report b.1 (.write b.2) s) s) :=
    fun l s => .foldl (fun s b => issueOwn_logFrame _ _ _ s) l s
  exact .ite ((KeepsLine.trans (by exact .ofRest rfl rfl) (bursts _ _).keepsLine).trans (complete_line _ _)) (complete_line _ s)

theorem endReport_line (s : State) : KeepsLine s (endReport s) := by
  unfold endReport
  dsimp only
  split
  · exact .trans (by exact .ofRest rfl rfl) (takeShiftClose_line _ _)
  · exact .ofRest rfl rfl

theorem restartLog_line (s : State) : KeepsLine s (restartLog s) := by
  unfold restartLog
  exact .ite (.trans (by exact .ofRest rfl rfl) (formLogLost_logFrame _).keepsLine)
    (.trans (by exact .ofRest rfl rfl) (pumpLog_logFrame _).keepsLine)

theorem followTicket_plateFrame (s : State) : PlateFrame s (followTicket s) := by
  unfold followTicket
  split
  · exact activate_plateFrame s
  · split
    · exact deactivate_plateFrame s
    · exact .refl s

theorem replaceParts_line (k : Nat) (table : List Byte) (s : State) : KeepsLine s (replaceParts k table s) := by
  have cached : KeepsLine s { s with window := refreshedWindow s k table } := .ofRest rfl rfl
  have log := cached.trans (.ite (p := (replacedParts s k).contains 9 = true) (restartLog_line _) (.refl _))
  have tickets := log.trans (.ite (p := (replacedParts s k).contains 8 = true) (t := resetTickets _) (.ofRest rfl rfl) (.refl _))
  exact (tickets.trans (windowEvents_logFrame (replacedParts s k) _).keepsLine).trans
    (.ite (followTicket_plateFrame _).keepsLine (.refl _))

theorem takeRefresh_line (k : Nat) (table : List Byte) (s : State) : KeepsLine s (takeRefresh k table s) := by
  unfold takeRefresh
  exact .ite ((replaceParts_line _ _ s).trans (completeMasked_line _ _ _)) (.ite (complete_line _ s)
    ((replaceParts_line _ _ s).trans (complete_line _ _)))

theorem abandonOrder_line (s : State) : KeepsLine s (abandonOrder s) := by
  unfold abandonOrder
  split
  case h_1 => exact .refl s
  case h_2 | h_3 | h_4 | h_5 => exact .ofRest rfl rfl
  all_goals exact setPhase_line _ s

theorem takePlanSet_line (o : List Byte) (s : State) : KeepsLine s (takePlanSet o s) := by
  unfold takePlanSet
  split
  · exact complete_line _ s
  · exact .ite (.trans (by exact .ofRest rfl rfl) (plan_line _)) (.trans (by exact .ofRest rfl rfl) (activate_plateFrame _).keepsLine)

theorem takeCutRequest_line (o : List Byte) (s : State) : KeepsLine s (takeCutRequest o s) := by
  unfold takeCutRequest
  split
  · exact complete_line _ s
  · exact .trans (by exact .ofRest rfl rfl) (plan_line _)

theorem takeRestart_line (s : State) : KeepsLine s (takeRestart s) := by
  unfold takeRestart
  split
  · exact (restartPlates_plateFrame _ s).keepsLine.trans (complete_line _ _)
  · exact .ofRest rfl rfl

theorem decideAfterRestart_line (s : State) : KeepsLine s (decideAfterRestart s) := by
  unfold decideAfterRestart
  exact .ite ((plan_line s).trans (refreshStatus_logFrame _ _).keepsLine) (.refl s)

theorem takeStreamStart_line (o : List Byte) (s : State) : KeepsLine s (takeStreamStart o s) := by
  unfold takeStreamStart startStream
  dsimp only
  split <;> exact .ofRest rfl rfl

theorem takeStreamStop_line (o : List Byte) (s : State) : KeepsLine s (takeStreamStop o s) := by
  unfold takeStreamStop
  exact .ite (complete_line _ s) ((stopStream_line _ s).trans (complete_line _ _))

theorem takeTableLoad_line (o : List Byte) (s : State) : KeepsLine s (takeTableLoad o s) := by
  unfold takeTableLoad
  split <;> exact .ofRest rfl rfl

theorem loadTables_line (block : List Byte) (s : State) : KeepsLine s (loadTables block s) := by
  unfold loadTables
  exact .ite (.ofRest rfl rfl) (complete_line _ s)

theorem takeRefreshOrder_line (o : List Byte) (s : State) : KeepsLine s (takeRefreshOrder o s) := by
  unfold takeRefreshOrder
  exact .ite (complete_line _ s) (.ofRest rfl rfl)

theorem takeFence_line (o : List Byte) (s : State) : KeepsLine s (takeFence o s) := by
  unfold takeFence
  split
  · exact .ite (.ofRest rfl rfl) (complete_line _ s)
  · exact complete_line _ s

theorem endFence_line (a : Nat) (m o : Bool) (s : State) : KeepsLine s (endFence a m o s) := by
  unfold endFence
  exact .ite (.trans (.ite (setNotices_logFrame _ s).keepsLine (.refl s)) (complete_line _ _))
    ((issueEvent_logFrame _ _ s).keepsLine.trans (complete_line _ _))

theorem handLaneOrder_line (o : List Byte) (s : State) : KeepsLine s (handLaneOrder o s) := by
  unfold handLaneOrder
  exact .ite (setPhase_line _ s) (takeLaneOrder_line o s)

theorem takeShiftOrder_line (o : List Byte) (s : State) : KeepsLine s (takeShiftOrder o s) := by
  unfold takeShiftOrder
  exact .ite (takeShiftClose_line _ s) (setPhase_line _ s)

theorem headAdvance_line (okay : Bool) (code : Nat) (s : State) : KeepsLine s (headAdvance okay code s) := by
  unfold headAdvance
  exact (KeepsLine.ite (.refl s) (issueEvent_logFrame _ _ s).keepsLine).trans (.ofRest rfl rfl)

/-! ### Enable, disable and the anchor page -/

/-- ENABLE sets A to E (R28). -/
theorem enablePart_line (s : State) : KeepsLine s (enablePart s) := by
  have placed : KeepsLine s { s with asm := { a := s.enc.e, record := none, analysing := false } } :=
    .ofPlaced rfl (fun _ => le_rfl) rfl
  unfold enablePart
  exact (placed.trans (.ite (setPhase_line _ _) (.refl _))).trans (activate_plateFrame _).keepsLine

/-- The line in assembly is abandoned, and A stays (R28). -/
theorem abandonLine_line (s : State) : KeepsLine s (abandonLine s) := .ofRecord rfl rfl (fun k => by cases k)

theorem disablePart_line (s : State) : KeepsLine s (disablePart s) := by
  unfold disablePart
  exact ((((dropCopy_plateFrame s).keepsLine.trans (.foldr (fun s n => stopStream_line n s) _ _)).trans
    (abandonLine_line _)).trans (PlateFrame.ofBlobs _ _).keepsLine).trans
    ((disableScheduler_plateFrame _).keepsLine.trans (abandonOrder_line _))

theorem writeControl_line (v : Nat) (s : State) : KeepsLine s (writeControl v s) := by
  unfold writeControl
  refine KeepsLine.trans ?_ (.ite (formLogLost_logFrame _).keepsLine (.refl _))
  exact .ite (.trans (by exact .ofRest rfl rfl) (enablePart_line _))
    (.ite (.trans (by exact .ofRest rfl rfl) (disablePart_line _)) (.ofRest rfl rfl))

theorem ringSet_line (s : State) : KeepsLine s (ringSet s) := by
  unfold ringSet
  exact .trans (by exact .ofRest rfl rfl) (abandonOrder_line _)

theorem writeOrderSize_line (v : Nat) (s : State) : KeepsLine s (writeOrderSize v s) := by
  unfold writeOrderSize
  exact .ite (issueEvent_logFrame _ _ s).keepsLine (.trans (by exact .ofRest rfl rfl) (ringSet_line _))

theorem writeOrderTail_line (v : Nat) (s : State) : KeepsLine s (writeOrderTail v s) := by
  unfold writeOrderTail
  exact .ite (issueEvent_logFrame _ _ s).keepsLine (.ite (.ofRest rfl rfl) (.ofRest rfl rfl))

theorem writeLogRead_line (v : Nat) (s : State) : KeepsLine s (writeLogRead v s) := by
  unfold writeLogRead
  exact .ite (.ofRest rfl rfl) (issueEvent_logFrame _ _ s).keepsLine

theorem actOn_line {f : Nat → State → State} (h : ∀ v s, KeepsLine s (f v s)) (v : Option Nat) (s : State) :
    KeepsLine s (actOn v f s) := by
  unfold actOn
  split
  · exact h _ s
  · exact .refl s

/-- The actions of the control fields, in ascending offset (R174). -/
theorem latchAnchor_line (w : UpWrite) (s : State) : KeepsLine s (latchAnchor w s) := by
  have base : ∀ v s, KeepsLine s (writeOrderBase v s) := fun v s => .trans (by exact .ofRest rfl rfl) (ringSet_line _)
  unfold latchAnchor
  refine KeepsLine.trans ?_ (actOn_line (fun _ _ => .ofRest (by rfl) (by rfl)) _ _)
  refine KeepsLine.trans ?_ (actOn_line (fun _ _ => .ofRest (by rfl) (by rfl)) _ _)
  refine KeepsLine.trans ?_ (actOn_line (fun _ _ => .ofRest (by rfl) (by rfl)) _ _)
  refine KeepsLine.trans ?_ (actOn_line (fun _ _ => .ofRest (by rfl) (by rfl)) _ _)
  refine KeepsLine.trans ?_ (actOn_line writeLogRead_line _ _)
  refine KeepsLine.trans ?_ (actOn_line (fun _ _ => .ofRest (by rfl) (by rfl)) _ _)
  refine KeepsLine.trans ?_ (actOn_line writeOrderTail_line _ _)
  refine KeepsLine.trans ?_ (actOn_line writeOrderSize_line _ _)
  exact (actOn_line writeControl_line _ s).trans (actOn_line base _ _)

/-! ### The Traffic Classifier -/

theorem refuseWrite_line (w : UpWrite) (s : State) : KeepsLine s (refuseWrite w s) := by
  unfold refuseWrite
  exact ((KeepsLine.ite (issueEvent_logFrame _ _ s).keepsLine (.refl s)).trans
    (.ite (issueEvent_logFrame _ _ _).keepsLine (.refl _))).trans (.ofRest rfl rfl)

theorem passWrite_line (w : UpWrite) (b : Bool) (s : State) : KeepsLine s (passWrite w b s) := by
  unfold passWrite
  refine KeepsLine.trans ?_ (latchAnchor_line _ _)
  refine KeepsLine.trans ?_ (takeStatus_plateFrame _ _).keepsLine
  refine KeepsLine.trans ?_ (forwardPass_logFrame _ _).keepsLine
  split
  · exact (takeStreamWrite_plateFrame _ _ _).keepsLine
  · exact .refl s

theorem judgeWrite_line (w : UpWrite) (m : TakeMode) (s : State) : KeepsLine s (judgeWrite w m s) := by
  unfold judgeWrite
  refine .ite (refuseWrite_line w s) ?_
  split
  · exact passWrite_line _ _ s
  · exact passWrite_line _ _ s
  · split
    · exact (holdWrite_plateFrame _ _ s).keepsLine
    · exact passWrite_line _ _ s

theorem takeWrite_line (w : UpWrite) (m : TakeMode) (s : State) : KeepsLine s (takeWrite w m s) := by
  unfold takeWrite
  split
  · exact (queueWrite_plateFrame _ _ s).keepsLine
  · exact judgeWrite_line _ _ s

theorem takeLetGo_line (x : LetGo) (s : State) : KeepsLine s (takeLetGo x s) := by
  unfold takeLetGo
  exact .ite (queueWrite_plateFrame _ _ s).keepsLine (takeWrite_line _ _ s)

theorem arriveWrite_line (w : UpWrite) (s : State) : KeepsLine s (arriveWrite w s) := by
  unfold arriveWrite
  exact .ite (.refl s) (takeWrite_line w .arrive s)

theorem takeRead_line (r : UpRead) (s : State) : KeepsLine s (takeRead r s) := by
  unfold takeRead
  have served : KeepsLine s (if (r.tag == s.window.ticket.tag) && (readPortions s r).any (fun q => !q.fromMemory)
    then tallyAdd .nullServed 1 s else s) := .ite (tallyAdd_logFrame _ _ s).keepsLine (.refl s)
  have taken := served.trans (.ite (p := (r.tag == s.window.ticket.tag) = true)
    (.foldl (fun s q => (takeTicket_plateFrame q s).keepsLine) (readPortions s r) _) (.refl _))
  exact .ite (taken.trans (.ofRest rfl rfl)) (taken.trans (forwardPass_logFrame _ _).keepsLine)

theorem writeAnswered_line (tag : Nat) (o : Bool) (s : State) : KeepsLine s (writeAnswered tag o s) := by
  unfold writeAnswered
  split
  · exact .trans (by exact .ofRest rfl rfl) (.foldl (fun s x => (resolveNote_plateFrame o s x).keepsLine) _ _)
  · exact .refl s

theorem readAnswered_line (tag : Nat) (b : ReadResult) (s : State) : KeepsLine s (readAnswered tag b s) := by
  unfold readAnswered
  split
  · exact .ite (.refl s) (.ofRest rfl rfl)
  · exact .refl s

theorem takePassEvent_line (e : PassEvent) (s : State) : KeepsLine s (takePassEvent e s) := by
  cases e with
  | write w => exact arriveWrite_line w s
  | read r => exact takeRead_line r s
  | writeResponse tag okay => exact writeAnswered_line tag okay s
  | readResponse tag b => exact readAnswered_line tag b s

theorem expireHold_line (n : Nat) (s : State) : KeepsLine s (expireHold n s) := by
  unfold expireHold
  split
  · exact .refl s
  · rename_i h _
    have taken : KeepsLine s (takeWrite h.held .forced (modStream n (fun r => { r with hold := none }) s)) :=
      (modStream_plateFrame _ _ s).keepsLine.trans (takeWrite_line _ _ _)
    have told := taken.trans (issueEvent_logFrame .holdExpired [n, headerSlot s n h.held] _).keepsLine
    exact told.trans (.ofRest rfl rfl)

theorem drain_line (f : Nat) (s : State) : KeepsLine s (drain f s) := by
  induction f generalizing s with
  | zero => exact .refl s
  | succ f ih =>
    unfold drain
    split
    · exact .refl s
    · exact ((KeepsLine.trans (by exact .ofRest rfl rfl) (takeLetGo_line _ _)).trans
        (refreshStatus_logFrame _ _).keepsLine).trans (ih _)

theorem settleHolds_line (f : Nat) (s : State) : KeepsLine s (settleHolds f s) := by
  induction f generalizing s with
  | zero => exact .refl s
  | succ f ih =>
    have settled := ((testSegments_plateFrame s).keepsLine.trans (drain_line 1024 _)).trans
      (advanceCapture_plateFrame _).keepsLine
    unfold settleHolds
    dsimp only
    split
    · exact (settled.trans (endHold_line _ _ _ _)).trans (ih _)
    · exact settled

/-- What a command leaves to be done keeps the line (R11). -/
theorem finish_line {b s t : State} (h : KeepsLine s t) : KeepsLine s (finish b t) :=
  (h.trans (refreshStatus_logFrame b t).keepsLine).trans (settleHolds_line 256 _)

/-! ### Responses to own transactions -/

theorem ownAnswered_line {p : Purpose → Bool} {fits : OwnTxn → Bool} {act : OwnTxn → State → State}
    (h : ∀ x s, KeepsLine s (act x s)) (s : State) : KeepsLine s (ownAnswered p fits act s) := by
  unfold ownAnswered
  split
  · exact .refl s
  · rename_i x s1 hx
    exact .ite (.ite ((answerOwn_line hx).trans (h x s1)) (.refl s)) (answerOwn_line hx)

theorem burstsAnswered_line {p : Purpose → Bool} {act : List OwnTxn → State → State} {s : State} (rs : List ReadResult)
    (h : ∀ ts, KeepsLine (clearOut p s) (act ts (clearOut p s))) : KeepsLine s (burstsAnswered p rs act s) := by
  unfold burstsAnswered
  split
  · exact .refl s
  · exact .ite ((clearOut_logFrame p s).keepsLine.trans (h _)) (.refl s)

theorem withOrder_line {k : Nat} {act : List Byte → State → State} (h : ∀ o s, KeepsLine s (act o s)) (s : State) :
    KeepsLine s (withOrder k act s) := by
  unfold withOrder
  split
  · exact h _ s
  · exact .refl s

theorem grant_line (s : State) : KeepsLine s (grant s) := by
  unfold grant
  split
  case h_4 => exact .ite (.ofRest rfl rfl) (.ofRest rfl rfl)
  all_goals exact .ofRest rfl rfl

theorem orderAnswered_line (r : ReadResult) (s : State) : KeepsLine s (orderAnswered r s) := by
  unfold orderAnswered
  split
  · exact .ite ((setPhase_line _ s).trans (testNotBefore_line _)) ((setPhase_line _ s).trans (issueEvent_logFrame _ _ _).keepsLine)
  · exact .refl s

theorem takeFenceWrite_line (s : State) : KeepsLine s (takeFenceWrite s) := by
  unfold takeFenceWrite
  split
  · exact .ite (.ofRest rfl rfl) (.refl s)
  · exact .refl s

theorem fenceAnswered_line (okay : Bool) (s : State) : KeepsLine s (fenceAnswered okay s) := by
  unfold fenceAnswered
  split
  · exact endFence_line _ _ _ s
  · exact .refl s

theorem refreshAnswered_line (r : ReadResult) (s : State) : KeepsLine s (refreshAnswered r s) := by
  unfold refreshAnswered startRefresh failRefresh
  split
  · exact .ite (.ite (.ofRest rfl rfl) (takeRefresh_line _ _ s)) (.ite (complete_line _ s) (complete_line _ s))
  · exact .refl s

theorem tableAnswered_line (r : ReadResult) (s : State) : KeepsLine s (tableAnswered r s) := by
  unfold tableAnswered
  split
  · exact .ite (loadTables_line _ s) (complete_line _ s)
  · exact .refl s

theorem completionAnswered_line (okay : Bool) (s : State) : KeepsLine s (completionAnswered okay s) := by
  unfold completionAnswered
  split
  · exact headAdvance_line _ _ s
  · exact .refl s

theorem reportEnded_line (s : State) : KeepsLine s (reportEnded s) := by
  unfold reportEnded
  refine .ite (.refl s) ?_
  split
  · exact .refl s
  · exact ((clearOut_logFrame _ s).trans (setNotices_logFrame _ _)).keepsLine.trans (endReport_line _)
  · exact ((clearOut_logFrame _ s).trans (issueEvent_logFrame _ _ _)).keepsLine.trans (endReport_line _)

theorem failReport_line (a : Nat) (s : State) : KeepsLine s (failReport a s) := by
  unfold failReport
  split
  · exact .ofRest rfl rfl
  · exact .refl s
  · exact .refl s

theorem reportBurst_line (s : State) (okay : Bool) : KeepsLine s (reportBurst s okay) := by
  unfold reportBurst
  split
  · exact .refl s
  · exact .trans (.ite (by exact .ofRest rfl rfl) (.trans (by exact .ofRest rfl rfl) (failReport_line _ _)))
      (reportEnded_line _)

theorem segmentAnswered_line (c : Copy) (cs : CapStream) (n : Nat) (bs : List ReadResult) (s : State) :
    KeepsLine s (segmentAnswered c cs n bs s) := by
  unfold segmentAnswered
  exact .ite (.ofRest rfl rfl) ((modStream_plateFrame _ _ s).trans (missSegment_plateFrame _ _)).keepsLine

theorem failCapture_line (a : Nat) (s : State) : KeepsLine s (failCapture a s) := by
  unfold failCapture
  split
  · exact ((dropCopy_plateFrame s).trans (issueEvent_logFrame _ _ _).plate).keepsLine
  · exact .refl s

theorem rowAnswered_line (okay : Bool) (x : OwnTxn) (s : State) : KeepsLine s (rowAnswered okay x s) := by
  unfold rowAnswered
  exact .ite (.ofRest rfl rfl) (failCapture_line _ s)

theorem headerAnswered_line (okay : Bool) (x : OwnTxn) (s : State) : KeepsLine s (headerAnswered okay x s) := by
  have ended : ∀ c, KeepsLine s (endCapture c s) := fun c => by
    rw [endCapture_eq]
    exact .ite (.trans (captureLocked_plateFrame c s).keepsLine (issueEvent_logFrame _ _ _).keepsLine)
      (captureLocked_plateFrame c s).keepsLine
  unfold headerAnswered
  split
  · exact .ite (ended _) (failCapture_line _ s)
  · exact .refl s

theorem groupWritten_logFrame (g : LogGroup) (s : State) : LogFrame s (groupWritten g s) := by
  unfold groupWritten
  dsimp only
  split
  · exact (LogFrame.ofWriter s _).trans (setNotices_logFrame _ _)
  · exact .ofWriter s _

theorem logAnswered_line (okays : List Bool) (s : State) : KeepsLine s (logAnswered okays s) := by
  have waiting : ∀ s, KeepsLine s (takeWaitingRefresh s) := fun s => by
    unfold takeWaitingRefresh
    split
    · exact takeRefresh_line _ _ s
    · exact .refl s
  unfold logAnswered
  split
  · exact (clearOut_logFrame _ s).keepsLine
  · refine .ite (.refl s) ?_
    unfold groupAnswered
    have taken : KeepsLine s (clearOut (· == .log) { s with writer := { s.writer with inFlight := none } }) := .ofRest rfl rfl
    exact (((taken.trans (.ite (groupWritten_logFrame _ _).keepsLine (loseRecords_logFrame _ _).keepsLine))).trans
      (waiting _)).trans (pumpLog_logFrame _).keepsLine

theorem statusAnswered_line (s : State) : KeepsLine s (statusAnswered s) := by
  have counted : KeepsLine s (countStatus { s with writer := { s.writer with statusOut := false } }) := by
    unfold countStatus
    split <;> exact .ofRest rfl rfl
  unfold statusAnswered
  exact .ite (counted.trans (.ofRest rfl rfl)) counted

/-! ### The Ticket Unit -/

theorem sealPlate_plateFrame (j : Nat) (okay : Bool) (p : Plate) (s : State) : PlateFrame s (sealPlate j okay p s) := by
  unfold sealPlate
  split
  · dsimp only
    split
    · exact (modPlate_plateFrame _ _ s).trans (markMissed_plateFrame _ _)
    · exact modPlate_plateFrame _ _ s
  · exact (modPlate_plateFrame _ _ s).trans (issueEvent_logFrame _ _ _).plate

theorem sealAnswered_plateFrame (j p q : Nat) (okay : Bool) (s : State) : PlateFrame s (sealAnswered j p q okay s) := by
  have idle := modSlot_plateFrame j (fun r => { r with write := .none }) s
  unfold sealAnswered
  dsimp only
  refine (PlateFrame.trans ?_ (pumpSeals_plateFrame _)).trans (plateChanged_plateFrame _)
  split
  · split
    · exact idle.trans (issueNull_plateFrame _ _ _)
    · exact (idle.trans (issueNull_plateFrame _ _ _)).trans (issueEvent_logFrame _ _ _).plate
  · split
    · split
      · exact idle.trans (sealPlate_plateFrame _ _ _ _)
      · exact idle
    · exact idle

theorem ticketAnswered_plateFrame (okay : Bool) (x : OwnTxn) (s : State) : PlateFrame s (ticketAnswered okay x s) := by
  unfold ticketAnswered
  split
  · exact sealAnswered_plateFrame _ _ _ _ s
  · rename_i slot seq _ _ _
    have idle := modSlot_plateFrame slot (fun r => { r with write := .none, noted := r.noted && r.nullPending.isSome }) s
    have told : PlateFrame s (if okay = true
        then modSlot slot (fun r => { r with write := .none, noted := r.noted && r.nullPending.isSome }) s
        else issueEvent .nullWriteFailed [slot, seq]
          (modSlot slot (fun r => { r with write := .none, noted := r.noted && r.nullPending.isSome }) s)) := by
      split
      · exact idle
      · exact idle.trans (issueEvent_logFrame _ _ _).plate
    refine PlateFrame.trans ?_ (examineIfChanged_plateFrame (pumpSeals_plateFrame _))
    split
    · exact told.trans (issueNull_plateFrame _ _ _)
    · exact told
  · exact .refl s

theorem ownTicketAnswered_line (p : Purpose → Bool) (okay : Bool) (s : State) :
    KeepsLine s (ownTicketAnswered p okay s) := by
  unfold ownTicketAnswered
  split
  · rename_i x s1 hx
    exact .ite ((answerOwn_line hx).trans (ticketAnswered_plateFrame okay x s1).keepsLine) (answerOwn_line hx)
  · exact .refl s

/-! ### The commands -/

/-- The commands that move E, the backlash count or the decoder's state (R23 to R25). -/
def movesEncoder : Instr → Bool
  | .pinReset | .forwardCount | .reverseCount | .invalidTransition => true
  | _ => false

/-- A command's act, with the status block refreshed. -/
theorem refreshed_line {b s t : State} (h : KeepsLine s t) : KeepsLine s (refreshStatus b t) :=
  h.trans (refreshStatus_logFrame b t).keepsLine

/-- Every command that moves no count answers with a next state that keeps the line. -/
theorem exec_line (c : Instr) (s : State) (hc : movesEncoder c = false) : ∃ t, exec c s = .next t ∧ KeepsLine s t := by
  cases c with
  | pinReset | forwardCount | reverseCount | invalidTransition => cases hc
  | headerWrite w | continuationWrite w | guardWrite w | statusWrite w | statusBlockGuard w | enable w | disable w
  | logClear w | orderRingSet w | orderTail w | logRead w | noticeEnable w | noticeAck w | captureRelease w
  | anchorWrite w => exact ⟨_, rfl, finish_line (arriveWrite_line w s)⟩
  | completingWriteResponse tag okay => exact ⟨_, rfl, finish_line (writeAnswered_line tag okay s)⟩
  | holdExpired n => exact ⟨_, rfl, .ite (finish_line (expireHold_line n s)) (.refl s)⟩
  | lineTimeout n => exact ⟨_, rfl, .ite (finish_line (timeOutFill_line n s)) (.refl s)⟩
  | streamLapsed n => exact ⟨_, rfl, .ite (finish_line (lapseStream_plateFrame n s).keepsLine) (.refl s)⟩
  | seedFetchDone n bs =>
    refine ⟨_, rfl, finish_line ?_⟩
    split
    · exact burstsAnswered_line bs fun _ => endSeed_line _ _ _ _
    · exact (clearOut_logFrame _ s).keepsLine
  | lineAssembly =>
    refine ⟨_, rfl, ?_⟩
    split
    · exact refreshed_line (assembleLine_line (arrivalDue_line ‹_›))
    · exact .refl s
  | assemblyTimeout =>
    refine ⟨_, rfl, ?_⟩
    split
    · exact refreshed_line (assembleLine_line (timeoutDue_line ‹_›))
    · exact .refl s
  | pixelFetchDone r =>
    refine ⟨_, rfl, finish_line ?_⟩
    split
    · rename_i record hr
      exact burstsAnswered_line r.bursts fun ts => analyseLine_line r.early record ts r.bursts
        (s := clearOut Purpose.isPixel s) (by rw [clearOut_asm, hr]; rfl)
    · exact (clearOut_logFrame _ s).keepsLine
  | forcingReached =>
    exact ⟨_, rfl, .ite (refreshed_line (examineIfChanged_plateFrame (evaluate_plateFrame s)).keepsLine) (.refl s)⟩
  | starved => exact ⟨_, rfl, .ite (refreshed_line (evaluate_plateFrame s).keepsLine) (.refl s)⟩
  | sealFailedCutPoint => exact ⟨_, rfl, .ite (refreshed_line (plateChanged_plateFrame s).keepsLine) (.refl s)⟩
  | sealWriteResponse slot okay | nullWriteResponse slot okay =>
    exact ⟨_, rfl, refreshed_line (ownTicketAnswered_line _ okay s)⟩
  | ticketRead r => exact ⟨_, rfl, refreshed_line (takeRead_line r s)⟩
  | cutMissed n => exact ⟨_, rfl, refreshed_line (missPlate_plateFrame s n).keepsLine⟩
  | passThrough e => exact ⟨_, rfl, finish_line (takePassEvent_line e s)⟩
  | arbiterGrant => exact ⟨_, rfl, grant_line s⟩
  | orderFetch => exact ⟨_, rfl, .ite (refreshed_line (.ofRest rfl rfl)) (.refl s)⟩
  | orderFetchDone r => exact ⟨_, rfl, refreshed_line (ownAnswered_line (fun _ => orderAnswered_line r) s)⟩
  | nop => exact ⟨_, rfl, refreshed_line (withOrder_line (fun _ => complete_line _) s)⟩
  | badOrder => exact ⟨_, rfl, refreshed_line (.ite (complete_line _ s) (.refl s))⟩
  | fence => exact ⟨_, rfl, refreshed_line (withOrder_line takeFence_line s)⟩
  | fenceWrite => exact ⟨_, rfl, refreshed_line (takeFenceWrite_line s)⟩
  | fenceWriteResponse okay => exact ⟨_, rfl, refreshed_line (ownAnswered_line (fun _ => fenceAnswered_line okay) s)⟩
  | refresh => exact ⟨_, rfl, refreshed_line (withOrder_line takeRefreshOrder_line s)⟩
  | refreshFetchDone r => exact ⟨_, rfl, refreshed_line (ownAnswered_line (fun _ => refreshAnswered_line r) s)⟩
  | streamStart => exact ⟨_, rfl, refreshed_line (withOrder_line takeStreamStart_line s)⟩
  | streamStop => exact ⟨_, rfl, finish_line (withOrder_line takeStreamStop_line s)⟩
  | profileLoad | laneAssign | laneRelease => exact ⟨_, rfl, refreshed_line (withOrder_line handLaneOrder_line s)⟩
  | tableLoad => exact ⟨_, rfl, refreshed_line (withOrder_line takeTableLoad_line s)⟩
  | tableLoadFetchDone r => exact ⟨_, rfl, refreshed_line (ownAnswered_line (fun _ => tableAnswered_line r) s)⟩
  | planSet => exact ⟨_, rfl, refreshed_line (withOrder_line takePlanSet_line s)⟩
  | cutRequest => exact ⟨_, rfl, refreshed_line (withOrder_line takeCutRequest_line s)⟩
  | restart =>
    exact ⟨_, rfl, withOrder_line (fun _ s => (refreshed_line (takeRestart_line s)).trans (decideAfterRestart_line _)) s⟩
  | shiftClose => exact ⟨_, rfl, refreshed_line (withOrder_line takeShiftOrder_line s)⟩
  | completionWriteResponse okay =>
    exact ⟨_, rfl, refreshed_line (ownAnswered_line (fun _ => completionAnswered_line okay) s)⟩
  | reportWriteResponse okays =>
    exact ⟨_, rfl, refreshed_line (.ite (clearOut_logFrame _ s).keepsLine (.foldl reportBurst_line okays s))⟩
  | captureSegmentReadDone n bs =>
    refine ⟨_, rfl, finish_line ?_⟩
    split
    · exact burstsAnswered_line bs fun _ => segmentAnswered_line _ _ _ bs _
    · exact (clearOut_logFrame _ s).keepsLine
  | captureRowWriteDone okay => exact ⟨_, rfl, finish_line (ownAnswered_line (rowAnswered_line okay) s)⟩
  | captureHeaderWriteDone okay => exact ⟨_, rfl, finish_line (ownAnswered_line (headerAnswered_line okay) s)⟩
  | logWriteResponse okays => exact ⟨_, rfl, refreshed_line (logAnswered_line okays s)⟩
  | statusBlockWriteResponse okay => exact ⟨_, rfl, refreshed_line (ownAnswered_line (fun _ => statusAnswered_line) s)⟩

end Sys2Proof.Machine
end

section
/-! SUPPORT. The Encoder Counter's commands (R23 to R26), and what a step does to E, the backlash count and A (R29). -/

namespace Sys2Proof.Machine

/-! ### The counts -/

/-- A forward count pays off backlash, or raises E unless E is at its top (R24). -/
theorem Encoder.forward_eq {c : Encoder} (h : c.e ≤ Config.encoderTop) : c.forward =
    { e := if c.backlash = 0 then min (c.e + 1) (2 ^ 48 - 1) else c.e
      backlash := c.backlash - 1
      phase1 := (phaseForward c.phase1 c.phase2).1
      phase2 := (phaseForward c.phase1 c.phase2).2
      invalidReported := false } := by
  have top : Config.encoderTop = 2 ^ 48 - 1 := rfl
  unfold Encoder.forward
  dsimp only [Encoder.atPhase]
  split
  · rename_i backlash
    rw [if_neg (by omega)]
  · rename_i paid
    have zero : c.backlash = 0 := by omega
    split
    · rw [min_eq_left (by omega), zero]
    · rw [min_eq_right (by omega), zero]
      congr 1
      omega

/-- A forward count leaves E, or raises it by one with no backlash to pay off (R24). -/
theorem Encoder.forward_e (c : Encoder) : c.forward.e = c.e ∨ (c.backlash = 0 ∧ c.forward.e = c.e + 1) := by
  unfold Encoder.forward
  dsimp only [Encoder.atPhase]
  split
  · exact .inl rfl
  · split
    · exact .inr ⟨by omega, rfl⟩
    · exact .inl rfl

/-- A reverse count adds one to the backlash count, up to its top (R25). -/
theorem Encoder.reverse_eq {c : Encoder} (h : c.backlash ≤ Config.backlashTop) : c.reverse =
    { c with
      backlash := min (c.backlash + 1) 64
      phase1 := (phaseReverse c.phase1 c.phase2).1
      phase2 := (phaseReverse c.phase1 c.phase2).2 } := by
  have top : Config.backlashTop = 64 := rfl
  unfold Encoder.reverse
  dsimp only [Encoder.atPhase]
  split
  · rw [min_eq_left (by omega)]
  · rw [min_eq_right (by omega), show c.backlash = 64 by omega]

theorem Encoder.reverse_e (c : Encoder) : c.reverse.e = c.e := by
  unfold Encoder.reverse
  dsimp only [Encoder.atPhase]
  split <;> rfl

/-! ### The commands -/

theorem exec_forwardCount (s : State) : exec .forwardCount s =
    .next (refreshStatus s (if s.enc.e < s.enc.forward.e
      then takeMisses (examineIfChanged { s with enc := s.enc.forward } (evaluate { s with enc := s.enc.forward }))
      else { s with enc := s.enc.forward })) := rfl

theorem exec_reverseCount (s : State) : exec .reverseCount s =
    .next (refreshStatus s
      (if enabled s && s.enc.backlash != Config.backlashTop && s.enc.reverse.backlash == Config.backlashTop then
        issueEvent .encoderBacklash [] { s with enc := s.enc.reverse }
      else { s with enc := s.enc.reverse })) := rfl

theorem exec_invalidTransition (s : State) : exec .invalidTransition s =
    .next (refreshStatus s (if enabled s && !s.enc.invalidReported
      then issueEvent .encoderInvalid [] { s with enc := s.enc.invalid (enabled s) }
      else { s with enc := s.enc.invalid (enabled s) })) := rfl

/-- Beyond the count, a forward count touches what decisions and misses do (R24, R101, R135). -/
theorem exec_forwardCount_plateFrame (s : State) :
    ∃ t, exec .forwardCount s = .next t ∧ PlateFrame { s with enc := s.enc.forward } t := by
  refine ⟨_, exec_forwardCount s, PlateFrame.trans ?_ (refreshStatus_logFrame _ _).plate⟩
  split
  · exact (examineIfChanged_plateFrame (evaluate_plateFrame _)).trans (takeMisses_plateFrame _)
  · exact .refl _

theorem exec_reverseCount_logFrame (s : State) :
    ∃ t, exec .reverseCount s = .next t ∧ LogFrame { s with enc := s.enc.reverse } t := by
  refine ⟨_, exec_reverseCount s, LogFrame.trans ?_ (refreshStatus_logFrame _ _)⟩
  split
  · exact issueEvent_logFrame _ _ _
  · exact .refl _

theorem exec_invalidTransition_logFrame (s : State) :
    ∃ t, exec .invalidTransition s = .next t ∧ LogFrame { s with enc := s.enc.invalid (enabled s) } t := by
  refine ⟨_, exec_invalidTransition s, LogFrame.trans ?_ (refreshStatus_logFrame _ _)⟩
  split
  · exact issueEvent_logFrame _ _ _
  · exact .refl _

/-! ### E, the backlash count and A -/

/-- The positions are kept by a change that keeps the line under an encoder whose counts are in range. -/
theorem PositionsInv.of_counts {s t : State} (h : PositionsInv s) (ha : t.asm = s.asm) (he : s.enc.e ≤ t.enc.e)
    (top : t.enc.e ≤ Config.encoderTop) (backlash : t.enc.backlash ≤ Config.backlashTop) : PositionsInv t := by
  obtain ⟨-, -, behind, below⟩ := h
  refine ⟨top, backlash, ?_, fun k => ?_⟩
  · rw [ha]
    exact behind.trans he
  · rw [ha] at k ⊢
    exact (below k).trans he

theorem KeepsLine.positions {s t : State} (k : KeepsLine s t) (h : PositionsInv s) : PositionsInv t := by
  obtain ⟨top, backlash, line⟩ := h
  exact ⟨k.enc ▸ top, k.enc ▸ backlash, k.line line⟩

theorem forward_positions {s t : State} (h : PositionsInv s) (f : PlateFrame { s with enc := s.enc.forward } t) :
    PositionsInv t := by
  obtain ⟨top, backlash, -, -⟩ := id h
  have limit : Config.encoderTop = 2 ^ 48 - 1 := rfl
  have count : t.enc = s.enc.forward := f.enc
  rw [Encoder.forward_eq top] at count
  refine h.of_counts f.asm ?_ ?_ ?_
  · rw [count]
    dsimp only
    split <;> omega
  · rw [count]
    dsimp only
    split <;> omega
  · rw [count]
    exact (Nat.sub_le _ _).trans backlash

theorem reverse_positions {s t : State} (h : PositionsInv s) (f : LogFrame { s with enc := s.enc.reverse } t) :
    PositionsInv t := by
  obtain ⟨top, backlash, -, -⟩ := id h
  have count : t.enc = s.enc.reverse := f.enc
  rw [Encoder.reverse_eq backlash] at count
  refine h.of_counts f.asm ?_ ?_ ?_
  · rw [count]
  · rw [count]
    exact top
  · rw [count]
    exact min_le_right _ _

theorem invalid_positions {s t : State} (h : PositionsInv s) (f : LogFrame { s with enc := s.enc.invalid (enabled s) } t) :
    PositionsInv t := by
  obtain ⟨top, backlash, -, -⟩ := id h
  have count : t.enc = s.enc.invalid (enabled s) := f.enc
  exact h.of_counts f.asm (by rw [count]; exact le_rfl) (by rw [count]; exact top) (by rw [count]; exact backlash)

theorem pinReset_positions (s : State) : PositionsInv (pinResetState s) :=
  ⟨Nat.zero_le _, Nat.zero_le _, le_rfl, fun k => by cases k⟩

/-- Every command answers with a next state that keeps the positions. -/
theorem exec_positions (c : Instr) {s : State} (h : PositionsInv s) : ∃ t, exec c s = .next t ∧ PositionsInv t := by
  cases hc : movesEncoder c with
  | false =>
    obtain ⟨t, ht, kept⟩ := exec_line c s hc
    exact ⟨t, ht, kept.positions h⟩
  | true =>
    cases c with
    | pinReset => exact ⟨_, exec_pinReset s, pinReset_positions s⟩
    | forwardCount =>
      obtain ⟨t, ht, f⟩ := exec_forwardCount_plateFrame s
      exact ⟨t, ht, forward_positions h f⟩
    | reverseCount =>
      obtain ⟨t, ht, f⟩ := exec_reverseCount_logFrame s
      exact ⟨t, ht, reverse_positions h f⟩
    | invalidTransition =>
      obtain ⟨t, ht, f⟩ := exec_invalidTransition_logFrame s
      exact ⟨t, ht, invalid_positions h f⟩
    | _ => cases hc

/-- Every command but pin reset leaves E, or raises it by a forward count (R24, R25, R26). -/
theorem exec_e (c : Instr) (s : State) : ∃ t, exec c s = .next t ∧
    (c = .pinReset ∨ t.enc.e = s.enc.e ∨ (c = .forwardCount ∧ s.enc.backlash = 0 ∧ t.enc.e = s.enc.e + 1)) := by
  cases hc : movesEncoder c with
  | false =>
    obtain ⟨t, ht, kept⟩ := exec_line c s hc
    exact ⟨t, ht, .inr (.inl (by rw [kept.enc]))⟩
  | true =>
    cases c with
    | pinReset => exact ⟨_, exec_pinReset s, .inl rfl⟩
    | forwardCount =>
      obtain ⟨t, ht, f⟩ := exec_forwardCount_plateFrame s
      have count : t.enc = s.enc.forward := f.enc
      refine ⟨t, ht, .inr ?_⟩
      rw [count]
      rcases s.enc.forward_e with same | ⟨paid, raised⟩
      · exact .inl same
      · exact .inr ⟨rfl, paid, raised⟩
    | reverseCount =>
      obtain ⟨t, ht, f⟩ := exec_reverseCount_logFrame s
      have count : t.enc = s.enc.reverse := f.enc
      exact ⟨t, ht, .inr (.inl (by rw [count, Encoder.reverse_e]))⟩
    | invalidTransition =>
      obtain ⟨t, ht, f⟩ := exec_invalidTransition_logFrame s
      have count : t.enc = s.enc.invalid (enabled s) := f.enc
      exact ⟨t, ht, .inr (.inl (by rw [count]; rfl))⟩
    | _ => cases hc

/-! ### A forward count's decision and misses -/

/-- What a `PlateFrame` leaves open, field by field. -/
theorem PlateFrame.eq_with {s t : State} (h : PlateFrame s t) : t = { s with
    streams := t.streams, blobs := t.blobs, sched := t.sched, tickets := t.tickets, cap := t.cap
    tally := t.tally, writer := t.writer, arb := t.arb } := by
  obtain ⟨straps, enc, anchor, window, asm, det, lanes, grades, orders, toTake, answers, pending⟩ := h
  cases t
  subst straps enc anchor window asm det lanes grades orders toTake answers pending
  rfl

theorem evaluate_of_inactive {s : State} (h : s.sched.active = false) : evaluate s = s := by
  unfold evaluate
  rw [h]
  split <;> rfl

/-- A queue of one plate whose miss is due: the plate is MISSED (R135). -/
theorem takeMisses_of_one {s : State} {p : Plate} (hq : s.sched.queue = [p]) (h : missDue s p = true) :
    takeMisses s = plateChanged (markMissed p s) := by
  have found : plateNumbered s p.num = some p := by simp [plateNumbered, hq]
  have due : takeMisses s = missPlate s p.num := by simp [takeMisses, hq, h]
  rw [due, missPlate, found]
  simp only [h, if_true]

/-- The scheduler inactive and no miss due, or E where it was: the count is all (R24). -/
theorem forward_alone {s : State} (h : (s.sched.active = false ∧ ∀ p ∈ s.sched.queue,
    missDue { s with enc := s.enc.forward } p = false) ∨ s.enc.forward.e = s.enc.e) :
    exec .forwardCount s = .next (refreshStatus s { s with enc := s.enc.forward }) := by
  rw [exec_forwardCount]
  rcases h with ⟨inactive, none_due⟩ | same
  · rw [evaluate_of_inactive (s := { s with enc := s.enc.forward }) inactive, examineIfChanged_self,
      takeMisses_of_none (s := { s with enc := s.enc.forward }) none_due, ite_self]
  · rw [if_neg (by omega)]

/-- A forward count that raises E to the miss point of the only plate, and decides nothing (R101, R135). -/
theorem forward_missed {s : State} {p : Plate} (hq : s.sched.queue = [p]) (hp : p.state = .sealed ∨ p.state = .taken)
    (raised : s.enc.e < s.enc.forward.e) (due : p.cut + p.distance + p.missWindow ≤ s.enc.forward.e)
    (idle : evaluate { s with enc := s.enc.forward } = { s with enc := s.enc.forward }) :
    exec .forwardCount s =
      .next (refreshStatus s (plateChanged (markMissed p { s with enc := s.enc.forward }))) := by
  have missed : missDue { s with enc := s.enc.forward } p = true := by
    have reached : missPoint p ≤ s.enc.forward.e := due
    rcases hp with hp | hp <;> simp [missDue, hp, reached]
  rw [exec_forwardCount, if_pos raised, idle, examineIfChanged_self,
    takeMisses_of_one (s := { s with enc := s.enc.forward }) hq missed]

end Sys2Proof.Machine

open Sys2Proof Sys2Proof.Machine

/-- Settles O53: each command keeps the positions, and a step is the command at the front of the queue. -/
theorem positionsKept : Obligations.PositionsKept := by
  unfold Obligations.PositionsKept
  intro s t inv h
  unfold step at h
  split at h
  · obtain rfl := Host.Outcome.next.inj h
    exact inv
  · rename_i c rest _
    obtain ⟨u, hu, kept⟩ := exec_positions c (s := { s with pending := rest }) inv
    obtain rfl := Host.Outcome.next.inj (h.symm.trans hu)
    exact kept

/-- Settles O6: what each command does to E. -/
theorem onlyForwardCountMovesE : Obligations.OnlyForwardCountMovesE := by
  unfold Obligations.OnlyForwardCountMovesE
  intro c s t h
  obtain ⟨u, hu, moved⟩ := exec_e c s
  obtain rfl := Host.Outcome.next.inj (h.symm.trans hu)
  exact moved

/-- Settles O4: the count, and what decisions and misses can touch; then the two cases in which no decision is taken. -/
theorem forwardCount : Obligations.ForwardCount := by
  unfold Obligations.ForwardCount
  intro s top
  obtain ⟨t, ht, f⟩ := exec_forwardCount_plateFrame s
  have count : t.enc = s.enc.forward := f.enc
  have frame : t = { s with enc := t.enc, streams := t.streams, blobs := t.blobs, sched := t.sched, tickets := t.tickets
                            cap := t.cap, tally := t.tally, writer := t.writer, arb := t.arb } := by
    rw [count]
    exact f.eq_with
  refine ⟨t, ht, by rw [count, Encoder.forward_eq top], frame, fun alone => ?_, fun p hq hp paid below due idle => ?_⟩
  · rw [count] at alone ⊢
    refine Host.Outcome.next.inj (ht.symm.trans (forward_alone (alone.imp_left fun ⟨inactive, none_due⟩ => ⟨inactive, ?_⟩)))
    intro p hp
    have same : missDue { s with enc := s.enc.forward } p = missDue t p := by rw [missDue, missDue, count]
    rw [same]
    exact none_due p hp
  · have raised : s.enc.forward.e = s.enc.e + 1 := by
      have limit : Config.encoderTop = 2 ^ 48 - 1 := rfl
      rw [Encoder.forward_eq top, paid]
      exact min_eq_left (by omega)
    rw [count] at idle ⊢
    have missed := forward_missed hq hp (by omega) (by omega) idle
    have code : p.state.code = if p.state = .sealed then 5 else 6 := by
      rcases hp with hp | hp <;> rw [hp] <;> rfl
    refine (Host.Outcome.next.inj (ht.symm.trans missed)).trans ?_
    rw [markMissed, code]

/-- Settles O5: the two counts, with the event of each. -/
theorem reverseCountAndInvalidTransition : Obligations.ReverseCountAndInvalidTransition := by
  unfold Obligations.ReverseCountAndInvalidTransition
  intro s top
  have limit : Config.backlashTop = 64 := rfl
  refine ⟨?_, ?_⟩
  · have reaches : (enabled s && s.enc.backlash != Config.backlashTop && s.enc.reverse.backlash == Config.backlashTop) = true ↔
        enabled s = true ∧ s.enc.backlash = 63 := by
      rw [Encoder.reverse_eq top]
      simp only [Bool.and_eq_true, bne_iff_ne, beq_iff_eq, limit, and_assoc]
      exact and_congr_right fun _ => by omega
    rw [exec_reverseCount, if_congr reaches rfl rfl, Encoder.reverse_eq top]
  · have unreported : (enabled s && !s.enc.invalidReported) = true ↔ enabled s = true ∧ s.enc.invalidReported = false := by simp
    rw [exec_invalidTransition, if_congr unreported rfl rfl]
    rfl
end

section
/-! SUPPORT. The reset state meets the invariants, block by block (R21). -/

namespace Sys2Proof.Machine

theorem positionsInv_reset : PositionsInv State.reset :=
  ⟨Nat.zero_le _, Nat.zero_le _, le_rfl, fun k => by cases k⟩

theorem columnsInv_reset : ColumnsInv State.reset := by
  refine ⟨fun c hc => ?_, Nat.zero_le _⟩
  rw [List.eq_of_mem_replicate hc, ColumnInv]
  decide

theorem holdInv_off : HoldInv StreamRec.off := holdInv_of_none rfl

theorem capacityInv_of_reset : CapacityInv State.reset := by
  refine ⟨Nat.zero_le _, Nat.zero_le _, Nat.zero_le _, Nat.zero_le _, fun r hr => ?_⟩
  rw [List.eq_of_mem_replicate hr]
  exact holdInv_off

/-- Every group is FREE after reset (R84). -/
theorem groupLabel_reset (g : Nat) : groupLabel State.reset.lanes g = none :=
  List.getElem?_getD_replicate_default_eq _ Config.groupCount g

theorem laneMapInv_reset : LaneMapInv State.reset := by
  refine ⟨List.length_replicate, fun i j k l _ _ hi _ => ?_, fun l hl => ?_, fun p hp => ?_⟩
  · rw [groupLabel_reset] at hi
    cases hi
  · cases List.eq_of_mem_replicate hl
  · rw [List.eq_of_mem_replicate hp]
    decide

theorem flawListInv_reset : FlawListInv State.reset := by
  refine ⟨.nil, fun f hf => ?_, fun z hz => ?_, fun _ => ⟨rfl, rfl⟩⟩
  · cases hf
  · cases hz

theorem blobsInv_reset : BlobsInv State.reset := by
  refine ⟨List.length_replicate, fun b hb => ?_, fun d hd => by cases hd⟩
  cases List.eq_of_mem_replicate hb

end Sys2Proof.Machine

open Sys2Proof Sys2Proof.Machine

/-- Settles O60: each invariant is read off the reset state. -/
theorem resetMeetsInvariants : Obligations.ResetMeetsInvariants := by
  unfold Obligations.ResetMeetsInvariants
  exact ⟨positionsInv_reset, columnsInv_reset, capacityInv_of_reset, rfl, laneMapInv_reset, flawListInv_reset,
    blobsInv_reset⟩
end

section
/-! SUPPORT. The plan start S never moves back by a decision, a retirement or a flaw, and the scheduler stays active or inactive
(R101, R109, R111). -/

namespace Sys2Proof.Machine

/-- The scheduler is active as before, and S is where it was or beyond. -/
structure Advances (s t : State) : Prop where
  active : t.sched.active = s.sched.active
  start : s.sched.start ≤ t.sched.start

theorem Advances.refl (s : State) : Advances s s := ⟨rfl, le_rfl⟩

theorem Advances.trans {s t u : State} (h : Advances s t) (k : Advances t u) : Advances s u :=
  ⟨k.active.trans h.active, h.start.trans k.start⟩

theorem Advances.foldl {α : Type} {f : State → α → State} (h : ∀ s a, Advances s (f s a)) (l : List α) (s : State) :
    Advances s (l.foldl f s) := by
  induction l generalizing s with
  | nil => exact .refl s
  | cons a l ih => exact (h s a).trans (ih _)

/-- S stays. -/
theorem Advances.of_same {s t : State} (ha : t.sched.active = s.sched.active) (hs : t.sched.start = s.sched.start) :
    Advances s t := ⟨ha, hs.ge⟩

theorem LogFrame.advances {s t : State} (h : LogFrame s t) : Advances s t := .of_same (by rw [h.sched]) (by rw [h.sched])

/-! ### Flaws and cuts -/

theorem startCopy_sched (k n c0 c1 y0 : Nat) (s : State) : (startCopy k n c0 c1 y0 s).sched = s.sched := by
  have pins (l : List CapStream) (c : Copy) : ∀ t : State,
      (l.foldl (fun s cs => pinDirectory c cs s) t).sched = t.sched := by
    induction l with
    | nil => exact fun _ => rfl
    | cons cs l ih => exact fun t => (ih _).trans rfl
  exact pins _ _ _

theorem offerCapture_sched (f : Flaw) (s : State) : (offerCapture f s).2.sched = s.sched := by
  unfold offerCapture
  split
  · split
    · exact startCopy_sched ..
    · rfl
  · rfl

theorem submitFlaw_advances (f : ListedFlaw) (s : State) : Advances s (submitFlaw f s) := by
  unfold submitFlaw
  split
  · exact .of_same rfl rfl
  · split
    · exact .of_same rfl rfl
    · exact Advances.trans (by exact .of_same rfl rfl) (issueEvent_logFrame _ _ _).advances

theorem raiseFlaw_advances (f : Flaw) (s : State) : Advances s (raiseFlaw f s) := by
  have routed (f : Flaw) (s : State) : Advances s (routeFlaw f s) := by
    have offered : Advances s (offerCapture f s).2 :=
      .of_same (by rw [offerCapture_sched]) (by rw [offerCapture_sched])
    have told : Advances s (tallyAdd (.flaw f.cls) 1 (handGroup [.flaw (offerCapture f s).1] (offerCapture f s).2)) :=
      offered.trans ((handGroup_logFrame _ _).trans (tallyAdd_logFrame _ _ _)).advances
    unfold routeFlaw
    dsimp only
    split
    · exact told
    · split
      · exact (told.trans (by exact .of_same rfl rfl)).trans (submitFlaw_advances _ _)
      · exact told.trans (.of_same rfl rfl)
  unfold raiseFlaw
  exact Advances.trans (by exact .of_same rfl rfl) (routed _ _)

theorem raiseFlaws_advances (fs : List Flaw) (s : State) : Advances s (raiseFlaws fs s) :=
  .foldl (fun s f => raiseFlaw_advances f s) fs s

theorem giveCut_advances (c : Nat) (s : State) : Advances s (giveCut c s).2 := by
  unfold giveCut
  split
  · unfold splitGaps
    refine .foldl (fun t g => ?_) _ s
    split <;> exact .of_same rfl rfl
  · exact .of_same rfl rfl

theorem pumpSeals_advances (s : State) : Advances s (pumpSeals s) := by
  refine .foldl (f := fun s (p : Plate) => trySeal p.num s) (fun s p => ?_) _ s
  unfold trySeal
  split
  · exact .refl s
  · dsimp only
    split
    · exact .of_same rfl rfl
    · exact .refl s

/-! ### Decisions -/

theorem testRequest_advances (p : Plan) (s : State) : Advances s (testRequest p s) := by
  unfold testRequest
  split
  · split
    · exact Advances.trans (by exact .of_same rfl rfl) (issueEvent_logFrame _ _ _).advances
    · exact .refl s
  · exact .refl s

/-- A request that stands its test lies at least the pitch beyond S (R102). -/
theorem testRequest_pitch {p : Plan} {s : State} {x : Nat} (h : (testRequest p s).sched.request = some x) :
    (testRequest p s).sched.start + p.pitch ≤ x := by
  cases hy : s.sched.request with
  | none => simp [testRequest, hy] at h
  | some y =>
    by_cases late : y < s.sched.start + p.pitch
    · simp [testRequest, hy, late, (issueEvent_logFrame _ _ _).sched] at h
    · have kept : testRequest p s = s := by simp [testRequest, hy, late]
      rw [kept, hy] at h
      obtain rfl := Option.some.inj h
      rw [kept]
      exact Nat.le_of_not_lt late

/-- Every choice lies at or beyond S if the window does (R104 to R106). -/
theorem chooseCut_start (p : Plan) {start w : Nat} (kind : PlateKind) (cs : List AvoidSpan) (h : start ≤ w) :
    start ≤ (chooseCut p start w kind cs).cut := by
  unfold chooseCut
  split
  · exact h
  · dsimp only
    split
    · exact le_max_left _ _
    · dsimp only
      split <;> omega

theorem evaluationChoice_start (p : Plan) (s : State) :
    (testRequest p s).sched.start ≤ (evaluationChoice p (testRequest p s)).cut := by
  refine chooseCut_start _ _ _ ?_
  unfold windowEnd
  split
  · rename_i x hx
    have pitch := testRequest_pitch hx
    omega
  · omega

theorem jumpUnplanned_advances {x : Nat} {s : State} (h : s.sched.start ≤ x) : Advances s (jumpUnplanned x s) := ⟨rfl, h⟩

theorem tallyDecision_advances (q : Plate) (s : State) : Advances s (tallyDecision q s) := by
  unfold tallyDecision
  dsimp only
  split <;> exact .of_same rfl rfl

theorem decidePlate_advances (p : Plan) {c : Nat} (k : PlateKind) (f u : Bool) {s : State} (h : s.sched.start ≤ c) :
    Advances s (decidePlate p c k f u s) := by
  unfold decidePlate
  refine Advances.trans ?_ (raiseFlaws_advances _ _)
  have entered : Advances s (removePassed c (enterPlate (newPlate p c k f u s) s)) := .of_same rfl rfl
  have tallied := ((entered.trans (giveCut_advances c _)).trans (pumpSeals_advances _)).trans
    (tallyDecision_advances (newPlate p c k f u s) _)
  exact ⟨tallied.active, h⟩

theorem finishDecision_advances (p : Plan) {c : Choice} (f : Bool) {s : State} (h : s.sched.start ≤ c.cut) :
    Advances s (finishDecision p c f s) := by
  have refused : Advances s (issueEvent .requestLate [s.sched.request.getD 0, s.sched.start]
      { s with sched := { s.sched with request := none } }) :=
    Advances.trans (by exact .of_same rfl rfl) (issueEvent_logFrame _ _ _).advances
  unfold finishDecision
  dsimp only
  split
  · exact decidePlate_advances p _ _ _ h
  · split
    · split
      · refine refused.trans (decidePlate_advances p _ _ _ ?_)
        rw [(issueEvent_logFrame _ _ _).sched]
        dsimp only
        omega
      · exact decidePlate_advances p _ _ _ (by omega)
    · refine (issueEvent_logFrame _ _ s).advances.trans (jumpUnplanned_advances ?_)
      rw [(issueEvent_logFrame _ _ s).sched]
      omega

theorem evaluateOnce_advances (p : Plan) (s : State) : Advances s (evaluateOnce p s).2 := by
  unfold evaluateOnce
  dsimp only
  split
  · split
    · refine ((testRequest_advances p s).trans (issueEvent_logFrame _ _ _).advances).trans (jumpUnplanned_advances ?_)
      rw [(issueEvent_logFrame _ _ _).sched]
      exact Nat.le_add_right _ _
    · exact testRequest_advances p s
  · split
    · exact (testRequest_advances p s).trans (finishDecision_advances p _ (evaluationChoice_start p s))
    · exact testRequest_advances p s

theorem evaluate_advances (s : State) : Advances s (evaluate s) := by
  have loop (p : Plan) (n : Nat) : ∀ s, Advances s (evaluateLoop p n s) := by
    induction n with
    | zero => exact .refl
    | succ n ih =>
      intro s
      unfold evaluateLoop
      dsimp only
      split
      · exact (evaluateOnce_advances p s).trans (ih _)
      · exact evaluateOnce_advances p s
  unfold evaluate
  split
  · split
    · exact loop _ _ s
    · exact .refl s
  · exact .refl s

/-! ### Retirement -/

theorem retirePlate_advances (p : Plate) (s : State) : Advances s (retirePlate p s) := by
  have pieces (l : List Piece) (t : State) : Advances t (l.foldl tallyPiece t) := .foldl (fun _ _ => by exact .of_same rfl rfl) l t
  unfold retirePlate tallyRetirement
  exact (((handGroup_logFrame _ s).trans (tallyAdd_logFrame _ _ _)).advances.trans (pieces p.pieces _)).trans (.of_same rfl rfl)

theorem plateChanged_advances (s : State) : Advances s (plateChanged s) := by
  have loop (n : Nat) : ∀ s, Advances s (retireLoop n s) := by
    induction n with
    | zero => exact .refl
    | succ n ih =>
      intro s
      unfold retireLoop
      split
      · split
        · exact ((retirePlate_advances _ s).trans (evaluate_advances _)).trans (ih _)
        · exact .refl s
      · exact .refl s
  exact Advances.trans (by exact .of_same rfl rfl) (loop _ _)

end Sys2Proof.Machine
end

section
/-! SUPPORT. Enable, block by block (R28, R99, R176, R178). -/

namespace Sys2Proof.Machine

/-! ### The scheduler's activation (R99) -/

theorem activate_of_no_plan {s : State} (h : s.sched.plan = none) : activate s = s := by simp [activate, h]

/-- The scheduler becomes active with S beyond A (R99). -/
theorem activate_started {s : State} (hi : s.sched.active = false) (he : enabled s = true) (hp : s.sched.plan.isSome = true)
    (ht : s.window.ticket.valid = true) : (activate s).sched.active = true ∧ s.asm.a < (activate s).sched.start := by
  have started := (evaluate_advances { s with sched := { s.sched with active := true, start := s.asm.a + 1 } }).trans
    (plateChanged_advances _)
  have acted : activate s =
      plateChanged (evaluate { s with sched := { s.sched with active := true, start := s.asm.a + 1 } }) := by
    rw [activate, if_pos (by simp [hi, he, hp, ht])]
  rw [acted]
  exact ⟨started.active, started.start⟩

theorem activate_pinFrame (s : State) : PinFrame s (activate s) := by
  unfold activate
  split
  · exact ((PinFrame.ofSched s _).trans (evaluate_pinFrame _)).trans (plateChanged_pinFrame _)
  · exact .refl s

/-! ### The part enabled -/

/-- A at E, no line in assembly, and an order whose fetch failed may be fetched again (R28, R178). -/
def enabledLine (s : State) : State :=
  { s with
    asm := { a := s.enc.e, record := none, analysing := false }
    orders := { s.orders with phase := if s.orders.phase = .fetchFailed then .idle else s.orders.phase } }

theorem enablePart_eq (s : State) : enablePart s = activate (enabledLine s) := by
  unfold enablePart enabledLine
  dsimp only
  split <;> rfl

theorem Quiet.enabledLine {s : State} (h : Quiet s) : Quiet (enabledLine s) := h

/-- CONTROL with ENABLE going to 1: the enable, and LOG_CLEAR if the value carries it with the overflow flag set (R176, R182). -/
theorem writeControl_of_enable {v : Nat} {s : State} (he : enabled s = false) (hv : v.testBit 0 = true) :
    writeControl v s = if v.testBit 1 && (enablePart (withControl v s)).writer.overflow
      then formLogLost (enablePart (withControl v s)) else enablePart (withControl v s) := by
  have rises : (!enabled s && enabled (withControl v s)) = true := by rw [he, enabled_withControl, hv]; rfl
  have acted : writeControl v s =
      (let u := if !enabled s && enabled (withControl v s) then enablePart (withControl v s)
        else if enabled s && !enabled (withControl v s) then disablePart (withControl v s) else withControl v s
      if v.testBit 1 && u.writer.overflow then formLogLost u else u) := rfl
  rw [acted, rises]
  rfl

/-- Without a plan the line and the orders are all that an enable changes (R99). -/
theorem writeControl_of_enable_without_plan {v : Nat} {s : State} (he : enabled s = false) (hv : v.testBit 0 = true)
    (hl : v.testBit 1 = false ∨ s.writer.overflow = false) (hp : s.sched.plan = none) :
    writeControl v s = enabledLine (withControl v s) := by
  have placed : enablePart (withControl v s) = enabledLine (withControl v s) := by
    rw [enablePart_eq, activate_of_no_plan (s := enabledLine (withControl v s)) hp]
  have kept : (v.testBit 1 && (enabledLine (withControl v s)).writer.overflow) = false := by
    rcases hl with bit | clear
    · rw [bit, Bool.false_and]
    · exact Bool.and_eq_false_iff.mpr (.inr clear)
  rw [writeControl_of_enable he hv, placed, kept]
  rfl

/-- What an enable brings, up to the records of its decisions (R28, R99). -/
theorem writeControl_of_enable_started {v : Nat} {s : State} (he : enabled s = false) (hv : v.testBit 0 = true)
    (hp : s.sched.plan.isSome = true) (ht : s.window.ticket.valid = true) (hi : s.sched.active = false) :
    PlateFrame (enabledLine (withControl v s)) (writeControl v s) ∧ PinFrame s (writeControl v s) ∧
      (writeControl v s).sched.active = true ∧ s.enc.e < (writeControl v s).sched.start := by
  have enables : enabled (enabledLine (withControl v s)) = true := (enabled_withControl v s).trans hv
  have started := activate_started (s := enabledLine (withControl v s)) hi enables hp ht
  have plates := activate_plateFrame (enabledLine (withControl v s))
  have pins := activate_pinFrame (enabledLine (withControl v s))
  rw [writeControl_of_enable he hv, enablePart_eq]
  generalize activate (enabledLine (withControl v s)) = u at started plates pins ⊢
  split
  · have log := formLogLost_logFrame u
    exact ⟨plates.trans log.plate, PinFrame.trans pins log.pin, by rw [log.sched]; exact started⟩
  · exact ⟨plates, pins, started⟩

/-- With no hold and nothing let go, a command's end leaves the scheduler as it is. -/
theorem finish_sched_of_unheld {b s : State} (hh : ∀ n, (stream s n).hold = none) (ht : s.toTake = []) :
    (finish b s).sched = s.sched := by
  have log := refreshStatus_logFrame b s
  have ended : finish b s = advanceCapture (testSegments (refreshStatus b s)) :=
    settleHolds_of_unheld (fun n => (congrArg StreamRec.hold (log.stream n)).trans (hh n)) (log.toTake.trans ht) 255
  have copy := (testSegments_copyFrame (refreshStatus b s)).trans (advanceCapture_copyFrame _)
  rw [ended, copy]
  exact log.sched

theorem exec_enable (w : UpWrite) (s : State) : exec (.enable w) s = .next (finish s (arriveWrite w s)) := rfl

end Sys2Proof.Machine

open Sys2Proof Sys2Proof.Machine

/-- Settles O35: the line and the orders, and with a plan and a ring the scheduler's activation. -/
theorem enable : Obligations.Enable := by
  unfold Obligations.Enable
  intro s w hq hw he v hv hl
  have arrived := arriveWrite_of_control hq hw
  refine ⟨fun hp => ?_, fun hp ht hi => ?_⟩
  · rw [exec_enable, arrived, writeControl_of_enable_without_plan (s := forwardPass (.write w []) s) he hv hl hp]
    exact congrArg _ (finish_of_quiet hq)
  · obtain ⟨plates, pins, active, start⟩ :=
      writeControl_of_enable_started (v := v) (s := forwardPass (.write w []) s) he hv hp ht hi
    have unheld : ∀ n, (stream (writeControl v (forwardPass (.write w []) s)) n).hold = none :=
      fun n => (pins.hold n).trans (hq.1 n)
    have taken : (writeControl v (forwardPass (.write w []) s)).toTake = [] := plates.toTake.trans hq.2.2
    have sched := finish_sched_of_unheld (b := s) unheld taken
    have ended := plates.trans (finish_of_unheld (b := s) unheld taken).1
    refine ⟨_, by rw [exec_enable, arrived], ?_, by rw [ended.asm]; rfl, by rw [sched]; exact active, by rw [sched]; exact start⟩
    rw [enabled, ended.anchor]
    exact (enabled_withControl v _).trans hv
end

section
/-! SUPPORT. The Detection Unit's step of a column (R47 to R54), its pass over a line (R42, R44, R46), and the STREAK events (R55). -/

namespace Sys2Proof.Machine

/-! ### The reference (R50) -/

/-- Towards a brighter pixel the reference moves up by the difference over 2^k. -/
theorem refStep_up {ref p : Nat} (k : Nat) (h : ref ≤ 256 * p) : refStep k ref p = ref + (256 * p - ref) / 2 ^ k := by
  have difference : ((256 * p : Nat) : Int) - ref = ((256 * p - ref : Nat) : Int) := (Int.ofNat_sub h).symm
  rw [refStep, difference, ← Int.ofNat_tdiv, ← Int.natCast_add, Int.toNat_natCast]

/-- Towards a darker pixel the reference moves down by the difference over 2^k. -/
theorem refStep_down {ref p : Nat} (k : Nat) (h : 256 * p ≤ ref) : refStep k ref p = ref - (ref - 256 * p) / 2 ^ k := by
  have difference : ((256 * p : Nat) : Int) - ref = -((ref - 256 * p : Nat) : Int) := by
    rw [Int.natCast_sub h, neg_sub]
  have below : (ref - 256 * p) / 2 ^ k ≤ ref := (Nat.div_le_self _ _).trans (Nat.sub_le _ _)
  rw [refStep, difference, Int.neg_tdiv, ← Int.ofNat_tdiv, ← sub_eq_add_neg, ← Int.natCast_sub below, Int.toNat_natCast]

/-- The reference stays between its old value and the pixel's. -/
theorem refStep_between (k ref p : Nat) : min ref (256 * p) ≤ refStep k ref p ∧ refStep k ref p ≤ max ref (256 * p) := by
  rcases le_total ref (256 * p) with up | down
  · have step := Nat.div_le_self (256 * p - ref) (2 ^ k)
    rw [refStep_up k up, min_eq_left up, max_eq_right up]
    exact ⟨Nat.le_add_right _ _, Nat.add_le_of_le_sub' up step⟩
  · have step := Nat.div_le_self (ref - 256 * p) (2 ^ k)
    rw [refStep_down k down, min_eq_right down, max_eq_left down]
    exact ⟨Nat.le_sub_of_add_le' (Nat.add_le_of_le_sub down step), Nat.sub_le _ _⟩

/-! ### The step of a column (R47) -/

theorem stepColumn_normal {c : Column} (h : c.streak = false) (m : Profile) (p : Nat) :
    stepColumn m (.covered p) c = stepNormal m p c := by simp [stepColumn, h]

theorem stepColumn_streak {c : Column} (h : c.streak = true) (m : Profile) (p : Nat) :
    stepColumn m (.covered p) c = stepStreak m p c := by simp [stepColumn, h]

theorem stepNormal_of_clear {m : Profile} {p : Nat} {c : Column} (h : pixelClass m (contrast c.ref p) = .clear) :
    (stepNormal m p c).1 = { c with ref := refStep m.shift c.ref p, age := 0 } := by
  simp only [stepNormal, h]

/-- A flagged pixel counts the age, into STREAK at the streak limit (R51). -/
theorem stepNormal_of_flagged {m : Profile} {p : Nat} {c : Column} (h : pixelClass m (contrast c.ref p) ≠ .clear) :
    (stepNormal m p c).1 = if m.streakLimit ≤ min (c.age + 1) Config.flagAgeTop
      then { c with age := 0, streak := true, clearRun := 0 } else { c with age := min (c.age + 1) Config.flagAgeTop } := by
  cases hd : pixelClass m (contrast c.ref p) with
  | clear => exact absurd hd h
  | dark | bright => simp only [stepNormal, hd]

/-- A CLEAR line of a STREAK column (R54). -/
theorem stepStreak_of_clear {m : Profile} {p : Nat} {c : Column} (h : pixelClass m (contrast c.ref p) = .clear) :
    (stepStreak m p c).1 = if Config.clearRunExit ≤ c.clearRun + 1
      then { c with ref := refStep m.shift c.ref p, streak := false, clearRun := 0 }
      else { c with ref := refStep m.shift c.ref p, clearRun := c.clearRun + 1 } := by
  simp only [stepStreak, h]
  split <;> rfl

theorem stepStreak_of_flagged {m : Profile} {p : Nat} {c : Column} (h : pixelClass m (contrast c.ref p) ≠ .clear) :
    (stepStreak m p c).1 = { c with ref := refStep m.shift c.ref p, clearRun := 0 } := by
  cases hd : pixelClass m (contrast c.ref p) with
  | clear => exact absurd hd h
  | dark | bright => simp only [stepStreak, hd]

/-! ### The pass over a line (R46) -/

/-- The pass takes each column's step under the column's own profile. -/
theorem stepColumns_eq_mapIdx (lanes : LaneMap) (c : Nat) {line : List ColIn} {cs : List Column}
    (h : line.length = cs.length) : stepColumns lanes c line cs =
      (line.zip cs).mapIdx (fun i x => stepColumn (profile lanes (columnProfile lanes (c + i))) x.1 x.2) := by
  induction line generalizing c cs with
  | nil =>
    obtain rfl := List.eq_nil_of_length_eq_zero h.symm
    rfl
  | cons i line ih =>
    cases cs with
    | nil => cases h
    | cons x cs =>
      rw [stepColumns, List.zip_cons_cons, List.mapIdx_cons, ih (c + 1) (Nat.succ.inj h)]
      simp only [Nat.add_zero, Nat.add_assoc, Nat.add_comm 1]

theorem stepColumns_length (lanes : LaneMap) (c : Nat) (line : List ColIn) (cs : List Column) :
    (stepColumns lanes c line cs).length = cs.length := by
  induction line generalizing c cs with
  | nil => exact List.length_map _
  | cons i line ih =>
    cases cs with
    | nil => rfl
    | cons x cs => exact congrArg (· + 1) (ih (c + 1) cs)

/-- The members of a group's slice are those at the group's columns. -/
theorem mem_groupSlice {α : Type} {x : α} {g : Nat} {cs : List α} :
    x ∈ groupSlice g cs ↔ ∃ c, c / 256 = g ∧ cs[c]? = some x := by
  have width : Config.groupWidth = 256 := rfl
  rw [groupSlice, width, List.mem_iff_getElem?]
  constructor
  · rintro ⟨i, hi⟩
    rw [List.getElem?_take] at hi
    split at hi
    · rw [List.getElem?_drop] at hi
      exact ⟨256 * g + i, by omega, hi⟩
    · cases hi
  · rintro ⟨c, rfl, hc⟩
    refine ⟨c % 256, ?_⟩
    rw [List.getElem?_take, if_pos (Nat.mod_lt _ (by decide)), List.getElem?_drop, Nat.div_add_mod]
    exact hc

/-- A group is uncovered if a column of it is (R42). -/
theorem groupCoverage_getD {marks : List Mark} {g : Nat} (hg : g < 64) :
    (groupCoverage marks).getD g false = true ↔ ∃ c, c / 256 = g ∧ marks[c]? = some (.broken true) := by
  have groups : Config.groupCount = 64 := rfl
  rw [← mem_groupSlice, groupCoverage, groups, List.getD_eq_getElem?_getD, List.getElem?_map, List.getElem?_range hg]
  simp

/-- Of two lists of columns, what came into STREAK and what left it is the difference of their counts. -/
theorem countP_streak_moves {before after : List Column} (h : before.length = after.length) :
    before.countP (·.streak) + ((before.zip after).filter (fun x => !x.1.streak && x.2.streak)).length =
      after.countP (·.streak) + ((before.zip after).filter (fun x => x.1.streak && !x.2.streak)).length := by
  induction before generalizing after with
  | nil =>
    obtain rfl := List.eq_nil_of_length_eq_zero h.symm
    rfl
  | cons a before ih =>
    cases after with
    | nil => cases h
    | cons b after =>
      have rest := ih (Nat.succ.inj h)
      rw [List.zip_cons_cons, List.countP_cons, List.countP_cons, List.filter_cons, List.filter_cons]
      cases a.streak <;> cases b.streak <;> simp <;> omega

/-- A count that is the number of a group's columns in STREAK stays so (R44). -/
theorem streakCount_countP {before after : List Column} (h : before.length = after.length) (g : Nat) :
    streakCount before after g ((groupSlice g before).countP (·.streak)) = (groupSlice g after).countP (·.streak) := by
  have same : (groupSlice g before).length = (groupSlice g after).length := by simp [groupSlice, h]
  have moves := countP_streak_moves same
  rw [streakCount]
  omega

/-! ### The profile of a column (R85) -/

theorem columnProfile_of_free {m : LaneMap} {c : Nat} (h : m.groups.getD (c / 256) none = none) : columnProfile m c = 0 := by
  have free : groupLabel m (c / Config.groupWidth) = none := h
  rw [columnProfile, groupProfile, free]

theorem columnProfile_of_lane {m : LaneMap} {c label : Nat} {d : LaneDesc} (hg : m.groups[c / 256]? = some (some label))
    (hl : m.lanes[label - 1]? = some d) : columnProfile m c = d.profile := by
  have held : groupLabel m (c / Config.groupWidth) = some label := by
    rw [groupLabel, List.getD_eq_getElem?_getD]
    exact congrArg (Option.getD · none) hg
  rw [columnProfile, groupProfile, held]
  dsimp only
  rw [laneDesc, List.getD_eq_getElem?_getD, hl, Option.getD_some]

/-! ### The STREAK events (R55) -/

/-- The groups' events from group `g` on, in ascending group number. -/
theorem streakEvents_eq_foldl (l : Nat) {before after : List Nat} (h : before.length = after.length) (g n : Nat) (s : State)
    (hn : g + n = before.length) : streakEvents l g (before.drop g) (after.drop g) s =
      (List.range' g n).foldl (fun t i => streakEvent l i (before.getD i 0) (after.getD i 0) t) s := by
  induction n generalizing g s with
  | zero =>
    rw [List.drop_eq_nil_of_le (by omega), streakEvents.eq_2]
    · rfl
    · intro b bs a as hb
      cases hb
  | succ n ih =>
    have hb : g < before.length := by omega
    have ha : g < after.length := by omega
    rw [List.drop_eq_getElem_cons hb, List.drop_eq_getElem_cons ha, streakEvents, ih (g + 1) _ (by omega), List.range'_succ,
      List.foldl_cons, List.getD_eq_getElem _ _ hb, List.getD_eq_getElem _ _ ha]

theorem takePass_eq_foldl (l : Nat) {pass : LinePass} {s : State} (hs : s.det.streakCounts.length = 64)
    (hp : pass.counts.length = 64) : takePass l pass s = (List.range 64).foldl
      (fun t g => streakEvent l g (s.det.streakCounts.getD g 0) (pass.counts.getD g 0) t)
      { s with det := { columns := pass.columns, streakCounts := pass.counts, runs := pass.runs } } := by
  have all := streakEvents_eq_foldl l (hs.trans hp.symm) 0 64
    { s with det := { columns := pass.columns, streakCounts := pass.counts, runs := pass.runs } } (by rw [hs])
  rw [List.range_eq_range', ← all, List.drop_zero, List.drop_zero, takePass]

end Sys2Proof.Machine

open Sys2Proof Sys2Proof.Machine

/-- Settles O18: the step by the column's mode and the pixel's class, then the pass, the profiles and the events. -/
theorem columnStep : Obligations.ColumnStep := by
  unfold Obligations.ColumnStep
  refine ⟨?step, ?pass, fun m c => ⟨columnProfile_of_free, fun label d => columnProfile_of_lane⟩,
    fun l pass s hs hp => takePass_eq_foldl l hs hp⟩
  case step =>
    intro m p c _ _ (limit : m.streakLimit ≤ Config.flagAgeTop)
    have exit : Config.clearRunExit = 64 := rfl
    have between := refStep_between m.shift c.ref p
    refine ⟨rfl, rfl, fun hn hc => ?_, fun hn hf below => ?_, fun hn hf reached => ?_, fun hs hc below => ?_,
      fun hs hc reached => ?_, fun hs hf => ?_, refStep_up m.shift, refStep_down m.shift, between.1, between.2⟩
    · rw [stepColumn_normal hn, stepNormal_of_clear hc]
    · rw [stepColumn_normal hn, stepNormal_of_flagged hf, min_eq_left (below.le.trans limit),
        if_neg (Nat.not_le_of_lt below)]
    · rw [stepColumn_normal hn, stepNormal_of_flagged hf, if_pos (le_min reached limit)]
    · rw [stepColumn_streak hs, stepStreak_of_clear hc, if_neg (by omega)]
    · rw [stepColumn_streak hs, stepStreak_of_clear hc, if_pos (by omega)]
    · rw [stepColumn_streak hs, stepStreak_of_flagged hf]
  case pass =>
    intro lanes line d hlen
    dsimp only
    have steps := stepColumns_eq_mapIdx lanes 0 hlen
    simp only [Nat.zero_add] at steps
    have width : d.columns.length = (linePass lanes line d).columns.length := by
      simp [linePass, stepColumns_length]
    refine ⟨by rw [linePass, steps], by simp [linePass, groupCoverage, Config.groupCount], fun g hg => ?_,
      by simp [linePass, streakCountsAfter], fun g hg => ?_⟩
    · rw [linePass, groupCoverage_getD hg, steps]
      simp only [List.getElem?_map, Option.map_eq_some_iff, exists_and_left]
    · have counted := streakCount_countP width g
      have kept : (linePass lanes line d).counts[g]? = d.streakCounts[g]?.map
          (fun n => streakCount d.columns (linePass lanes line d).columns g n) := by
        simp [linePass, streakCountsAfter]
      rw [kept, hg]
      exact congrArg some counted
end

section
/-! SUPPORT. The Line Assembler's standings and coverage record (R30, R34), the bursts of a fetch (R36), and what an assembly by
arrival or by timeout does (R31 to R36). -/

namespace Sys2Proof.Machine

/-! ### Standings (R30) -/

theorem slotInState_eq_none {r : StreamRec} {stamp : Nat} {st : SlotState} :
    slotInState r stamp st = none ↔ ∀ e ∈ r.dir, ¬ (e.stamp = some stamp ∧ e.state = st) := by
  simp [slotInState]

theorem slotInState_isSome {r : StreamRec} {stamp : Nat} {st : SlotState} :
    (slotInState r stamp st).isSome = true ↔ ∃ e ∈ r.dir, e.stamp = some stamp ∧ e.state = st := by
  simp [slotInState]

theorem slotInState_of_first {r : StreamRec} {stamp : Nat} {st : SlotState} {pre post : List DirEntry} {e : DirEntry}
    (hd : r.dir = pre ++ e :: post) (he : e.stamp = some stamp ∧ e.state = st)
    (hp : ∀ y ∈ pre, ¬ (y.stamp = some stamp ∧ y.state = st)) : slotInState r stamp st = some pre.length := by
  have before : pre.findIdx? (fun y => y.stamp == some stamp && y.state == st) = none := by simpa using hp
  have here : (e.stamp == some stamp && e.state == st) = true := by simpa using he
  rw [slotInState, hd, List.findIdx?_append, before, List.findIdx?_cons, here]
  simp

theorem standing_of_not_running {s : State} {n : Nat} (h : (stream s n).state ≠ .running) (l : Nat) :
    standing s n l = (.uncovered, 0) := by
  simp [standing, h]

theorem standing_of_entered {s : State} {n l x : Nat} (h : (stream s n).state = .running)
    (hx : (stream s n).entryStamp = some x) (hl : l + (streamWindow s n).stagger ≤ x) : standing s n l = (.seeded, 0) := by
  simp [standing, h, hx, hl]

section
variable {s : State} {n l : Nat} (running : (stream s n).state = .running)
  (entered : ∀ x, (stream s n).entryStamp = some x → x < l + (streamWindow s n).stagger)
include running entered

theorem standing_of_ready {k : Nat} (h : slotInState (stream s n) (l + (streamWindow s n).stagger) .ready = some k) :
    standing s n l = (.present, k) := by
  cases hx : (stream s n).entryStamp with
  | none => simp [standing, running, hx, h]
  | some x => simp [standing, running, hx, h, Nat.not_le_of_lt (entered x hx)]

/-- With no slot READY at the needed stamp the stream waits while a fill may still bring it (R30). -/
theorem standing_of_not_ready (h : slotInState (stream s n) (l + (streamWindow s n).stagger) .ready = none) :
    standing s n l = if (slotInState (stream s n) (l + (streamWindow s n).stagger) .filling).isSome = true ∨
      (stream s n).lastStamp.all (fun x => decide (x < l + (streamWindow s n).stagger)) = true
      then (.waiting, 0) else (.missing, 0) := by
  rw [ite_or]
  cases hx : (stream s n).entryStamp with
  | none => cases hy : (stream s n).lastStamp <;> simp [standing, running, hx, hy, h]
  | some x =>
    have unseeded := Nat.not_le_of_lt (entered x hx)
    cases hy : (stream s n).lastStamp <;> simp [standing, running, hx, hy, h, unseeded]
end

/-! ### The coverage record (R34) -/

theorem mem_coverageRecord {s : State} {l : Nat} {e : CovEntry} :
    e ∈ coverageRecord s l ↔ ∃ n < 8, (stream s n).state ≠ .off ∧ e = covEntry s l n := by
  simp only [coverageRecord, List.mem_map, List.mem_filter, List.mem_range, bne_iff_ne, and_assoc, @eq_comm _ e]

theorem coverageRecord_streams (s : State) (l : Nat) : (coverageRecord s l).map (·.stream) =
    (List.range 8).filter (fun n => (stream s n).state != .off) := by
  rw [coverageRecord, List.map_map]
  exact List.map_id _

theorem coverageRecord_ascending (s : State) (l : Nat) : ((coverageRecord s l).map (·.stream)).Pairwise (· < ·) := by
  rw [coverageRecord_streams]
  exact List.pairwise_lt_range.filter _

/-! ### Bursts (R36) -/

/-- A burst of whole beats, of at most 256 bytes, within 4 KiB. -/
def BurstFits (b : Nat × Nat) : Prop :=
  b.1 % 16 = 0 ∧ b.2 % 16 = 0 ∧ 0 < b.2 ∧ b.2 ≤ 256 ∧ b.1 / 4096 = (b.1 + b.2 - 1) / 4096

/-- Cutting from one beat's start to another's covers the span once, in order, with bursts that fit. -/
theorem splitBursts_covers {cur stop : Nat} (fuel : Nat) (hc : cur % 16 = 0) (hs : stop % 16 = 0) (hf : stop ≤ cur + 16 * fuel) :
    ((splitBursts fuel cur stop).map (fun b => List.range' b.1 b.2)).flatten = List.range' cur (stop - cur) ∧
    ∀ b ∈ splitBursts fuel cur stop, BurstFits b := by
  induction fuel generalizing cur with
  | zero =>
    have empty : stop - cur = 0 := by omega
    simp [splitBursts, empty]
  | succ fuel ih =>
    rw [splitBursts]
    by_cases done : stop ≤ cur
    · have empty : stop - cur = 0 := by omega
      simp [done, empty]
    · rw [if_neg done]
      generalize hn : min (min (cur + 256) stop) ((cur / 4096 + 1) * 4096) = next
      obtain ⟨covered, fit⟩ := ih (cur := next) (by omega) (by omega)
      constructor
      · have joined := List.range'_append_1 (s := cur) (m := next - cur) (n := stop - next)
        rw [List.map_cons, List.flatten_cons, covered]
        rwa [show cur + (next - cur) = next by omega, show next - cur + (stop - next) = stop - cur by omega] at joined
      · refine List.forall_mem_cons.mpr ⟨⟨hc, ?_, ?_, ?_, ?_⟩, fit⟩ <;> dsimp only <;> omega

theorem bursts_covers (addr : Nat) {len : Nat} (h : 0 < len) :
    ((bursts addr len).map (fun b => List.range' b.1 b.2)).flatten =
      List.range' (addr / 16 * 16) ((addr + len + 15) / 16 * 16 - addr / 16 * 16) ∧ ∀ b ∈ bursts addr len, BurstFits b := by
  rw [bursts, if_neg h.ne']
  exact splitBursts_covers _ (by omega) (by omega) (by omega)

theorem bursts_fit (addr len : Nat) : ∀ b ∈ bursts addr len, BurstFits b := by
  rcases Nat.eq_zero_or_pos len with rfl | h
  · exact fun _ hb => absurd hb List.not_mem_nil
  · exact (bursts_covers addr h).2

/-! ### Events at the arbiter (R181, R185) -/

/-- Requests of the record log alone join the arbiter's queue; the Record Writer, the tallies and the streams may change besides,
and FAULT stays set. -/
def LogsAppended (s t : State) : Prop :=
  ∃ streams tally writer logs,
    t = { s with streams := streams, tally := tally, writer := writer
                 arb := { s.arb with ownWaiting := s.arb.ownWaiting ++ logs } } ∧
    (∀ x ∈ logs, x.purpose = .log) ∧ (s.writer.notices.fault = true → writer.notices.fault = true)

theorem LogsAppended.of_eq_with {s : State} (streams : List StreamRec) (tally : TallyUnit) {writer : RecordWriter}
    (h : s.writer.notices.fault = true → writer.notices.fault = true) :
    LogsAppended s { s with streams := streams, tally := tally, writer := writer } :=
  ⟨streams, tally, writer, [], by rw [List.append_nil], by simp, h⟩

theorem LogsAppended.refl (s : State) : LogsAppended s s := .of_eq_with s.streams s.tally id

theorem LogsAppended.trans {s t u : State} (h : LogsAppended s t) (k : LogsAppended t u) : LogsAppended s u := by
  obtain ⟨_, _, _, before, rfl, logs, fault⟩ := h
  obtain ⟨streams, tally, writer, after, rfl, moreLogs, stillFault⟩ := k
  refine ⟨streams, tally, writer, before ++ after, by simp only [List.append_assoc], fun x hx => ?_, stillFault ∘ fault⟩
  exact (List.mem_append.mp hx).elim (logs x) (moreLogs x)

theorem LogsAppended.fault {s t : State} (h : LogsAppended s t) (hs : s.writer.notices.fault = true) :
    t.writer.notices.fault = true := by
  obtain ⟨_, _, _, _, rfl, _, fault⟩ := h
  exact fault hs

theorem LogsAppended.foldl {α : Type} {f : State → α → State} (h : ∀ s a, LogsAppended s (f s a)) (l : List α) (s : State) :
    LogsAppended s (l.foldl f s) := by
  induction l generalizing s with
  | nil => exact .refl s
  | cons a l ih => exact (h s a).trans (ih _)

theorem issueOwn_log_logsAppended (addr : Nat) (body : OwnBody) (s : State) : LogsAppended s (issueOwn .log addr body s) :=
  ⟨_, _, _, [_], rfl, by simp, id⟩

theorem loseRecords_logsAppended (n : Nat) (s : State) : LogsAppended s (loseRecords n s) := .of_eq_with _ _ id

theorem issueRecords_logsAppended (base size i : Nat) (rs : List LogRecord) (s : State) :
    LogsAppended s (issueRecords base size i rs s) := by
  induction rs generalizing i s with
  | nil => exact .refl s
  | cons r rs ih => exact (issueOwn_log_logsAppended _ _ s).trans (ih _ _)

theorem takeGroups_logsAppended (gs : List LogGroup) (s : State) : LogsAppended s (takeGroups gs s) := by
  induction gs generalizing s with
  | nil => exact .of_eq_with _ _ id
  | cons g gs ih =>
    unfold takeGroups
    split
    · exact (loseRecords_logsAppended _ s).trans (ih _)
    · exact (LogsAppended.of_eq_with s.streams s.tally id).trans (issueRecords_logsAppended ..)

theorem pumpLog_logsAppended (s : State) : LogsAppended s (pumpLog s) := by
  unfold pumpLog
  split
  · exact takeGroups_logsAppended _ s
  · exact .refl s

theorem handGroup_logsAppended (bodies : List RecordBody) (s : State) : LogsAppended s (handGroup bodies s) := by
  unfold handGroup
  dsimp only
  split
  · exact (LogsAppended.of_eq_with s.streams s.tally id).trans (pumpLog_logsAppended _)
  · exact (LogsAppended.of_eq_with s.streams s.tally id).trans (loseRecords_logsAppended _ _)

theorem issueEvent_logsAppended (k : EventKind) (fields : List Nat) (s : State) : LogsAppended s (issueEvent k fields s) := by
  unfold issueEvent
  split
  · exact (LogsAppended.of_eq_with s.streams s.tally fun _ => rfl).trans (handGroup_logsAppended _ _)
  · exact handGroup_logsAppended _ s

/-- An event with an error code sets FAULT (R185). -/
theorem issueEvent_fault {k : EventKind} (h : k.isError = true) (fields : List Nat) (s : State) :
    (issueEvent k fields s).writer.notices.fault = true := by
  rw [issueEvent, if_pos h]
  exact (handGroup_logsAppended _ _).fault rfl

/-! ### Episodes (R33) -/

theorem stepEpisode_logsAppended (l : Nat) (s : State) (e : CovEntry) : LogsAppended s (stepEpisode l s e) := by
  have marked (b : Bool) : LogsAppended s (modStream e.stream (fun r => { r with episode := b }) s) :=
    .of_eq_with _ s.tally id
  unfold stepEpisode
  split
  · split
    · exact .refl s
    · exact (marked true).trans (issueEvent_logsAppended ..)
  · exact marked false

/-- An entry's stream is in its episode iff the entry stands WAITING; the other streams are left alone. -/
theorem stream_stepEpisode {s : State} {e : CovEntry} (h : (stream s e.stream).state ≠ .off) (l m : Nat) :
    stream (stepEpisode l s e) m =
      if m = e.stream then { stream s m with episode := decide (e.standing = .waiting) } else stream s m := by
  have marked (b : Bool) : stream (modStream e.stream (fun r => { r with episode := b }) s) m =
      if m = e.stream then { stream s m with episode := b } else stream s m := by
    split
    next same =>
      subst same
      exact stream_modStream_self _ s (lt_of_stream_ne_off h)
    next other => exact stream_modStream_of_ne _ s other
  by_cases waiting : e.standing = .waiting
  · by_cases inEpisode : (stream s e.stream).episode = true
    · have kept : stepEpisode l s e = s := by simp [stepEpisode, waiting, inEpisode]
      rw [kept]
      split
      next same =>
        subst same
        rw [decide_eq_true waiting, ← inEpisode]
      · rfl
    · have begun : stepEpisode l s e = issueEvent .assemblyTimeout [e.stream, l, e.stamp]
          (modStream e.stream (fun r => { r with episode := true }) s) := by simp [stepEpisode, waiting, inEpisode]
      rw [begun, stream, (issueEvent_logFrame ..).streams, decide_eq_true waiting]
      exact marked true
  · have ended : stepEpisode l s e = modStream e.stream (fun r => { r with episode := false }) s := by
      simp [stepEpisode, waiting]
    rw [ended, decide_eq_false waiting]
    exact marked false

/-- A stream that comes to stand WAITING sets FAULT. -/
theorem stepEpisode_fault {s : State} {e : CovEntry} (hw : e.standing = .waiting) (he : (stream s e.stream).episode = false)
    (l : Nat) : (stepEpisode l s e).writer.notices.fault = true := by
  have begun : stepEpisode l s e = issueEvent .assemblyTimeout [e.stream, l, e.stamp]
      (modStream e.stream (fun r => { r with episode := true }) s) := by simp [stepEpisode, hw, he]
  rw [begun]
  exact issueEvent_fault rfl _ _

/-- The episodes of a line's entries, where entries of one stream agree on whether it waits. -/
theorem stream_stepEpisodes (waits : Nat → Bool) {es : List CovEntry} {s : State}
    (off : ∀ e ∈ es, (stream s e.stream).state ≠ .off) (agree : ∀ e ∈ es, decide (e.standing = .waiting) = waits e.stream)
    (l m : Nat) : stream (es.foldl (stepEpisode l) s) m =
      if m ∈ es.map (·.stream) then { stream s m with episode := waits m } else stream s m := by
  induction es generalizing s with
  | nil => rfl
  | cons e es ih =>
    obtain ⟨offHere, offRest⟩ := List.forall_mem_cons.mp off
    obtain ⟨here, rest⟩ := List.forall_mem_cons.mp agree
    have step := stream_stepEpisode offHere l
    have state (i : Nat) : (stream (stepEpisode l s e) i).state = (stream s i).state := by
      rw [step]
      split <;> rfl
    rw [List.foldl_cons, ih (fun x hx => by rw [state]; exact offRest x hx) rest, step]
    by_cases same : m = e.stream
    · subst same
      simp [here]
    · simp [same]

/-- With distinct streams, one that comes to stand WAITING sets FAULT. -/
theorem stepEpisodes_fault {es : List CovEntry} {e : CovEntry} {s : State} (off : ∀ e ∈ es, (stream s e.stream).state ≠ .off)
    (distinct : (es.map (·.stream)).Nodup) (he : e ∈ es) (hw : e.standing = .waiting)
    (hn : (stream s e.stream).episode = false) (l : Nat) : (es.foldl (stepEpisode l) s).writer.notices.fault = true := by
  induction es generalizing s with
  | nil => cases he
  | cons x es ih =>
    obtain ⟨offHere, offRest⟩ := List.forall_mem_cons.mp off
    obtain ⟨apart, distinctRest⟩ := List.nodup_cons.mp distinct
    rcases List.mem_cons.mp he with rfl | later
    · exact (LogsAppended.foldl (stepEpisode_logsAppended l) es _).fault (stepEpisode_fault hw hn l)
    · have kept (y : CovEntry) (hy : y ∈ es) : stream (stepEpisode l s x) y.stream = stream s y.stream := by
        rw [stream_stepEpisode offHere, if_neg]
        exact fun same => apart (List.mem_map.mpr ⟨y, hy, same⟩)
      exact ih (fun y hy => by rw [kept y hy]; exact offRest y hy) distinctRest later (by rw [kept e later]; exact hn)

/-! ### Pixel reads (R35, R36) -/

theorem pixelReads_cons (s : State) (e : CovEntry) (es : List CovEntry) :
    pixelReads s (e :: es) = pixelReads s [e] ++ pixelReads s es := by
  simp [pixelReads]

theorem pixelReads_of_window {s t : State} (h : t.window = s.window) (es : List CovEntry) : pixelReads t es = pixelReads s es := by
  simp only [pixelReads, streamWindow, h]

theorem issueFetch_eq (s : State) (e : CovEntry) : issueFetch s e =
    { s with arb := { s.arb with ownWaiting := s.arb.ownWaiting ++ pixelReads s [e] } } := by
  by_cases present : e.standing = .present
  · simp [issueFetch, present, issueReads_eq, pixelReads]
  · simp [issueFetch, present, pixelReads]

theorem issueFetches_eq (es : List CovEntry) (s : State) : es.foldl issueFetch s =
    { s with arb := { s.arb with ownWaiting := s.arb.ownWaiting ++ pixelReads s es } } := by
  induction es generalizing s with
  | nil => simp [pixelReads]
  | cons e es ih =>
    have window : (issueFetch s e).window = s.window := (issueFetch_logFrame s e).window
    rw [List.foldl_cons, ih, pixelReads_of_window window, issueFetch_eq, pixelReads_cons s e es]
    simp only [List.append_assoc]

/-- Pixel reads tell nothing in the status block. -/
theorem statusFields_issueFetches (es : List CovEntry) (s : State) :
    statusFields (es.foldl issueFetch s) = statusFields s := by
  induction es generalizing s with
  | nil => rfl
  | cons e es ih =>
    rw [List.foldl_cons, ih, issueFetch]
    split
    · exact statusFields_issueReads rfl _ s
    · rfl

/-! ### Assembly (R31, R32) -/

theorem arrivalDue_of_arrived {s : State} (on : enabled s = true) (idle : s.asm.record = none)
    (running : ∃ n < 8, (stream s n).state = .running) (due : s.asm.a + 1 ≤ s.enc.e)
    (arrived : ∀ e ∈ coverageRecord s (s.asm.a + 1), e.standing ≠ .waiting) : arrivalDue s = true := by
  simpa [arrivalDue, on, idle, assembling, due] using ⟨running, arrived⟩

theorem timeoutDue_of_late {s : State} (on : enabled s = true) (idle : s.asm.record = none)
    (late : s.asm.a + 1 + 63 + assemblyTimeout s ≤ s.enc.e) : timeoutDue s = true := by
  simp [timeoutDue, on, idle, assembling, late]

theorem exec_lineAssembly_of_due {s : State} (h : arrivalDue s = true) :
    exec .lineAssembly s = .next (refreshStatus s (assembleLine s)) :=
  congrArg Host.Outcome.next (if_pos h)

theorem exec_assemblyTimeout_of_due {s : State} (h : timeoutDue s = true) :
    exec .assemblyTimeout s = .next (refreshStatus s (assembleLine s)) :=
  congrArg Host.Outcome.next (if_pos h)

/-- The state with the record of the line being assembled. -/
def recorded (s : State) : State := { s with asm := { s.asm with record := some (coverageRecord s (s.asm.a + 1)) } }

/-- The state after the episodes of an assembly. -/
def episoded (s : State) : State := (coverageRecord s (s.asm.a + 1)).foldl (stepEpisode (s.asm.a + 1)) (recorded s)

theorem recorded_logsAppended (s : State) : LogsAppended (recorded s) (episoded s) := .foldl (stepEpisode_logsAppended _) _ _

theorem assembleLine_eq (s : State) : assembleLine s = { episoded s with
    arb := { (episoded s).arb with
      ownWaiting := (episoded s).arb.ownWaiting ++ pixelReads s (coverageRecord s (s.asm.a + 1)) } } := by
  have window : (episoded s).window = s.window := by
    obtain ⟨_, _, _, _, shape, _⟩ := recorded_logsAppended s
    rw [shape]
    rfl
  rw [← pixelReads_of_window window]
  exact issueFetches_eq _ (episoded s)

theorem recorded_ne_off {s : State} {l : Nat} : ∀ e ∈ coverageRecord s l, (stream (recorded s) e.stream).state ≠ .off := by
  intro e he
  obtain ⟨n, _, off, rfl⟩ := mem_coverageRecord.mp he
  exact off

/-- A stream stands WAITING for the line being assembled. -/
def waitsIn (s : State) (n : Nat) : Bool := decide ((standing s n (s.asm.a + 1)).1 = .waiting)

/-- Every stream in service is in its episode from an assembly on iff it stands WAITING. -/
theorem stream_assembleLine (s : State) {n : Nat} (hn : n < 8) : stream (assembleLine s) n =
    if (stream s n).state = .off then stream s n
    else { stream s n with episode := waitsIn s n } := by
  have agree : ∀ e ∈ coverageRecord s (s.asm.a + 1), decide (e.standing = .waiting) = waitsIn s e.stream := by
    intro e he
    obtain ⟨n, _, _, rfl⟩ := mem_coverageRecord.mp he
    rfl
  have after : stream (assembleLine s) n = stream (episoded s) n := by rw [assembleLine_eq]; rfl
  have inRecord : n ∈ (coverageRecord s (s.asm.a + 1)).map (·.stream) ↔ ¬ (stream s n).state = .off := by
    simp [coverageRecord_streams, hn]
  rw [after, episoded, stream_stepEpisodes (waitsIn s) recorded_ne_off agree, if_congr inRecord rfl rfl, ite_not]
  rfl

theorem assembleLine_fault {s : State} {n : Nat} (hn : n < 8) (off : (stream s n).state ≠ .off)
    (hw : (standing s n (s.asm.a + 1)).1 = .waiting) (he : (stream s n).episode = false) :
    (assembleLine s).writer.notices.fault = true := by
  rw [assembleLine_eq]
  exact stepEpisodes_fault recorded_ne_off ((coverageRecord_ascending s _).imp Nat.ne_of_lt)
    (mem_coverageRecord.mpr ⟨n, hn, off, rfl⟩) hw he _

theorem assembleLine_logs (s : State) : ∃ logs, (∀ x ∈ logs, x.purpose = .log) ∧ assembleLine s =
    { recorded s with
      streams := (assembleLine s).streams, tally := (assembleLine s).tally, writer := (assembleLine s).writer
      arb := { s.arb with
        ownWaiting := s.arb.ownWaiting ++ logs ++ pixelReads s (coverageRecord s (s.asm.a + 1)) } } := by
  obtain ⟨streams, tally, writer, logs, shape, log, _⟩ := recorded_logsAppended s
  refine ⟨logs, log, ?_⟩
  rw [assembleLine_eq, shape]
  rfl

/-- With no stream waiting the episodes touch the streams alone, and the status block is as before. -/
theorem stepEpisodes_of_none_waiting {es : List CovEntry} (h : ∀ e ∈ es, e.standing ≠ .waiting) (l : Nat) (s : State) :
    es.foldl (stepEpisode l) s = { s with streams := (es.foldl (stepEpisode l) s).streams } ∧
      statusFields (es.foldl (stepEpisode l) s) = statusFields s := by
  induction es generalizing s with
  | nil => exact ⟨rfl, rfl⟩
  | cons e es ih =>
    obtain ⟨here, rest⟩ := List.forall_mem_cons.mp h
    have step : stepEpisode l s e = modStream e.stream (fun r => { r with episode := false }) s := by
      simp [stepEpisode, here]
    obtain ⟨shape, status⟩ := ih rest (stepEpisode l s e)
    rw [List.foldl_cons]
    constructor
    · rw [shape, step]
      rfl
    · rw [status, step]
      exact statusFields_modStream (f := fun r => { r with episode := false }) (fun _ => rfl) _ s

section
variable {s : State} (arrived : ∀ e ∈ coverageRecord s (s.asm.a + 1), e.standing ≠ .waiting)
include arrived

theorem assembleLine_of_arrived : assembleLine s =
    { recorded s with
      streams := (assembleLine s).streams
      arb := { s.arb with ownWaiting := s.arb.ownWaiting ++ pixelReads s (coverageRecord s (s.asm.a + 1)) } } := by
  have episodes : episoded s = { recorded s with streams := (episoded s).streams } :=
    (stepEpisodes_of_none_waiting arrived _ _).1
  rw [assembleLine_eq, episodes]
  rfl

theorem refreshStatus_of_arrived : refreshStatus s (assembleLine s) = assembleLine s := by
  have episodes := (stepEpisodes_of_none_waiting arrived (s.asm.a + 1) (recorded s)).2
  exact refreshStatus_of_eq ((statusFields_issueFetches _ _).trans episodes)

theorem stream_of_arrived {n : Nat} (hn : n < 8) : stream (assembleLine s) n =
    if (stream s n).state = .off then stream s n else { stream s n with episode := false } := by
  rw [stream_assembleLine s hn]
  split
  · rfl
  next off =>
    have here : waitsIn s n = false := decide_eq_false (arrived _ (mem_coverageRecord.mpr ⟨n, hn, off, rfl⟩))
    rw [here]
end

end Sys2Proof.Machine

open Sys2Proof Sys2Proof.Machine

/-- Settles O14: the standings, the record, the bursts, and the two assemblies from what the episodes and the fetches do. -/
theorem lineAssembled : Obligations.LineAssembled := by
  unfold Obligations.LineAssembled
  refine ⟨?standings, fun s l => ⟨fun e => mem_coverageRecord, coverageRecord_ascending s l⟩, fun w e => ⟨rfl, rfl⟩,
    fun addr len => ⟨rfl, fun h => (bursts_covers addr h).1, bursts_fit addr len⟩, fun s on idle => ⟨?arrival, ?timeout⟩⟩
  case standings =>
    intro s n l
    refine ⟨fun h => standing_of_not_running h l, fun x => standing_of_entered, fun running entered => ⟨?_, fun unready => ?_⟩⟩
    · intro pre e post hd he hp
      exact standing_of_ready running entered (slotInState_of_first hd he hp)
    · have settled := standing_of_not_ready running entered (slotInState_eq_none.mpr unready)
      constructor
      · intro waits
        rw [settled, if_pos]
        exact waits.imp slotInState_isSome.mpr fun ahead => (Option.all_eq_true _ _).mpr fun x hx => decide_eq_true (ahead x hx)
      · intro x unfilled last passed
        rw [settled, if_neg]
        rintro (filling | ahead)
        · obtain ⟨e, he, fills⟩ := slotInState_isSome.mp filling
          exact unfilled e he fills
        · have early := (Option.all_eq_true _ _).mp ahead x last
          exact Nat.not_lt_of_le passed (of_decide_eq_true early)
  case arrival =>
    intro running due arrived
    have done := exec_lineAssembly_of_due (arrivalDue_of_arrived on idle running due arrived)
    rw [refreshStatus_of_arrived arrived] at done
    exact ⟨assembleLine s, done, assembleLine_of_arrived arrived, fun n => stream_of_arrived arrived⟩
  case timeout =>
    intro late
    obtain ⟨logs, log, shape⟩ := assembleLine_logs s
    exact ⟨assembleLine s, logs, exec_assemblyTimeout_of_due (timeoutDue_of_late on idle late), shape, log,
      fun n => stream_assembleLine s, fun ⟨n, hn, off, waits, fresh⟩ => assembleLine_fault hn off waits fresh⟩
end

section
/-! SUPPORT. What the commands other than a pin reset do to the Detection Unit and the Lane Map: four acts, and nothing else
(`InspectSteps`). One lemma for each shared operation that is neither a `LogFrame` nor a `PlateFrame`. -/

namespace Sys2Proof.Machine

/-- `t` comes about from `s` by acts that leave the Detection Unit and the Lane Map as they are, and by these four: the run
buffer is emptied (R28, R44), a seed load (R45), the pass over a line of byte pixels (R46), and a lane order (R86). -/
inductive InspectSteps : State → State → Prop
  | same {s t : State} (hd : t.det = s.det) (hl : t.lanes = s.lanes) : InspectSteps s t
  | trans {s t u : State} (h : InspectSteps s t) (k : InspectSteps t u) : InspectSteps s u
  | abandonLine (s : State) : InspectSteps s (abandonLine s)
  | seedLoad (first : Nat) (pixels : List Byte) (s : State) : InspectSteps s (seedLoad first pixels s)
  | takePass {line : List ColIn} (bytes : ∀ p, .covered p ∈ line → p ≤ 255) (l : Nat) (s : State) :
      InspectSteps s (takePass l (linePass s.lanes line s.det) s)
  | takeLaneOrder (o : List Byte) (s : State) : InspectSteps s (takeLaneOrder o s)

theorem InspectSteps.refl (s : State) : InspectSteps s s := .same rfl rfl

theorem PlateFrame.inspects {s t : State} (h : PlateFrame s t) : InspectSteps s t := .same h.det h.lanes

theorem LogFrame.inspects {s t : State} (h : LogFrame s t) : InspectSteps s t := .same h.det h.lanes

/-- A choice between two updates. -/
theorem InspectSteps.ite {s t u : State} {p : Prop} [Decidable p] (h : InspectSteps s t) (k : InspectSteps s u) :
    InspectSteps s (if p then t else u) := by
  split
  · exact h
  · exact k

theorem InspectSteps.foldl {α : Type} {f : State → α → State} (h : ∀ s a, InspectSteps s (f s a)) (l : List α) (s : State) :
    InspectSteps s (l.foldl f s) := by
  induction l generalizing s with
  | nil => exact .refl s
  | cons a l ih => exact (h s a).trans (ih _)

theorem InspectSteps.foldr {α : Type} {f : α → State → State} (h : ∀ s a, InspectSteps s (f a s)) (l : List α) (s : State) :
    InspectSteps s (l.foldr f s) := by
  induction l with
  | nil => exact .refl s
  | cons a l ih => exact ih.trans (h _ a)

theorem plan_inspects (s : State) : InspectSteps s (plateChanged (evaluate s)) :=
  ((evaluate_plateFrame s).trans (plateChanged_plateFrame _)).inspects

theorem answerOwn_inspects {p : Purpose → Bool} {s s1 : State} {x : OwnTxn} (h : answerOwn p s = some (x, s1)) :
    InspectSteps s s1 := by
  unfold answerOwn at h
  split at h
  · obtain ⟨-, rfl⟩ := Prod.mk.inj (Option.some.inj h)
    exact .same rfl rfl
  · cases h

/-! ### The Ring Tracker -/

theorem endHold_inspects (n : Nat) (a b : TakeMode) (s : State) : InspectSteps s (endHold n a b s) := by
  unfold endHold
  split
  · exact .same rfl rfl
  · exact .refl s

theorem abandonHold_inspects (n : Nat) (s : State) : InspectSteps s (abandonHold n s) := by
  unfold abandonHold
  exact (endHold_inspects n .untracked .untracked s).trans (.same rfl rfl)

theorem faultStream_inspects (n : Nat) (s : State) : InspectSteps s (faultStream n s) := by
  have marked : PlateFrame s (unpinStream n ((slotsWhere s n (fun e => e.state == .filling && e.awaiting)).foldl
      (fun s k => loseSlot n k s) (passReady n (fun _ _ => true) s))) :=
    ((passReady_plateFrame _ _ s).trans (.foldl (fun s k => loseSlot_plateFrame n k s) _ _)).trans (modStream_plateFrame _ _ _)
  unfold faultStream
  exact (((marked.trans (disown_logFrame _ _).plate).trans (modStream_plateFrame _ _ _)).trans
    (issueEvent_logFrame _ _ _).plate).inspects.trans (abandonHold_inspects _ _)

theorem stopStream_inspects (n : Nat) (s : State) : InspectSteps s (stopStream n s) := by
  unfold stopStream
  refine .ite (.refl s) (((dropCopyOf_plateFrame n s).inspects.trans (abandonHold_inspects n _)).trans ?_)
  exact .same (by simp only [disown_det, modStream_det, withdrawStream_det])
    (by simp only [disown_lanes, modStream_lanes, withdrawStream_lanes])

/-- A completed seed fetch loads the references of its span (R45). -/
theorem seedDone_inspects (n : Nat) (f : SeedFetch) (bs : List ReadResult) (s : State) : InspectSteps s (seedDone n f bs s) :=
  have entered : InspectSteps s (seedEntered n f s) := .same rfl rfl
  entered.trans (.seedLoad _ _ _)

theorem endSeed_inspects (n : Nat) (f : SeedFetch) (bs : List ReadResult) (s : State) : InspectSteps s (endSeed n f bs s) := by
  unfold endSeed
  exact .ite (seedDone_inspects _ _ _ s) (seedFailed_plateFrame _ _ s).inspects

theorem timeOutFill_inspects (n : Nat) (s : State) : InspectSteps s (timeOutFill n s) := by
  unfold timeOutFill
  split
  · exact .refl s
  · rename_i f _
    have lost := (((setFill_plateFrame n none s).trans (loseSlot_plateFrame n f.slot _)).trans
      (issueEvent_logFrame .lineTimeout [n, f.slot, stampOf s n f.slot] _).plate).inspects
    exact .ite lost (lost.trans (faultStream_inspects _ _))

/-! ### The Line Assembler -/

theorem assembleLine_inspects (s : State) : InspectSteps s (assembleLine s) :=
  .trans (by exact .same rfl rfl) (assembleLine_plateFrame s).inspects

theorem testNotBefore_inspects (s : State) : InspectSteps s (testNotBefore s) := by
  rw [testNotBefore_eq_with]
  exact .same rfl rfl

theorem takeWaitingLaneOrder_inspects (s : State) : InspectSteps s (takeWaitingLaneOrder s) := by
  unfold takeWaitingLaneOrder
  split
  · exact .takeLaneOrder _ s
  · exact .refl s

/-- A completed line lets a waiting lane order be taken (R41, R86). -/
theorem completeLine_inspects (l : Nat) (r : List CovEntry) (s : State) : InspectSteps s (completeLine l r s) := by
  have passed : PlateFrame s ((List.range 8).foldl (passBehind l) (r.foldl passEntry s)) := (slotsPassed_passFrame l r s).plate
  unfold completeLine
  generalize (List.range 8).foldl (passBehind l) (r.foldl passEntry s) = u at passed ⊢
  have taken : InspectSteps s (lineTaken l u) := .same passed.det passed.lanes
  exact ((taken.trans (takeWaitingLaneOrder_inspects _)).trans (testNotBefore_inspects _)).trans (plan_inspects _)

/-- The pixels handed over are bytes. -/
theorem lineColumn_le {entries : List (CovEntry × List Byte)} {c p : Nat} (h : lineColumn entries c = .covered p) :
    p ≤ 255 := by
  unfold lineColumn at h
  split at h
  · cases h
  · split at h
    · rename_i byte _
      obtain rfl := ColIn.covered.inj h
      exact Nat.le_of_lt_succ byte.isLt
    · cases h

/-- The line is analysed by the pass over the columns handed over (R40, R46). -/
theorem lineAnalysed_inspects (l : Nat) {line : List ColIn} (bytes : ∀ p, .covered p ∈ line → p ≤ 255) (s : State) :
    InspectSteps s (lineAnalysed l (linePass s.lanes line s.det) s) :=
  (InspectSteps.takePass bytes l s).trans (blobAct_plateFrame ..).inspects

theorem analyseLine_inspects (early : List (Fin 8)) (r : List CovEntry) (ts : List OwnTxn) (rs : List ReadResult) (s : State) :
    InspectSteps s (analyseLine early r ts rs s) := by
  have events := fetchReports_logFrame (s.asm.a + 1) early ts rs r { s with asm := { s.asm with analysing := true } }
  rw [analyseLine_eq, handedPass]
  generalize fetchReports (s.asm.a + 1) early ts rs r { s with asm := { s.asm with analysing := true } } = u at events ⊢
  have lanes : u.lanes = s.lanes := events.lanes
  have det : u.det = s.det := events.det
  rw [← lanes, ← det]
  refine ((InspectSteps.same det lanes).trans (lineAnalysed_inspects _ (fun p hp => ?_) u)).trans (completeLine_inspects _ _ _)
  obtain ⟨c, -, hc⟩ := List.mem_map.mp hp
  exact lineColumn_le hc

/-! ### Reports, REFRESH and orders -/

theorem takeShiftClose_inspects (next : Nat) (s : State) : InspectSteps s (takeShiftClose next s) := by
  unfold takeShiftClose closeShift
  have bursts : ∀ (l : List (Nat × List Byte)) (s : State),
      LogFrame s (l.foldl (fun s b => issueOwn .report b.1 (.write b.2) s) s) :=
    fun l s => .foldl (fun s b => issueOwn_logFrame _ _ _ s) l s
  exact .ite ((InspectSteps.trans (by exact .same rfl rfl) (bursts _ _).inspects).trans (.same rfl rfl)) (.same rfl rfl)

theorem endReport_inspects (s : State) : InspectSteps s (endReport s) := by
  unfold endReport
  dsimp only
  split
  · exact .trans (by exact .same rfl rfl) (takeShiftClose_inspects _ _)
  · exact .same rfl rfl

theorem restartLog_inspects (s : State) : InspectSteps s (restartLog s) := by
  unfold restartLog
  exact .ite (.trans (by exact .same rfl rfl) (formLogLost_logFrame _).inspects)
    (.trans (by exact .same rfl rfl) (pumpLog_logFrame _).inspects)

theorem replaceParts_inspects (k : Nat) (table : List Byte) (s : State) : InspectSteps s (replaceParts k table s) := by
  have cached : InspectSteps s { s with window := refreshedWindow s k table } := .same rfl rfl
  have log := cached.trans (.ite (p := (replacedParts s k).contains 9 = true) (restartLog_inspects _) (.refl _))
  have tickets := log.trans (.ite (p := (replacedParts s k).contains 8 = true) (t := resetTickets _) (.same rfl rfl) (.refl _))
  exact (tickets.trans (windowEvents_logFrame (replacedParts s k) _).inspects).trans
    (.ite (followTicket_plateFrame _).inspects (.refl _))

theorem takeRefresh_inspects (k : Nat) (table : List Byte) (s : State) : InspectSteps s (takeRefresh k table s) := by
  unfold takeRefresh
  exact .ite ((replaceParts_inspects _ _ s).trans (.same rfl rfl)) (.ite (.same rfl rfl)
    ((replaceParts_inspects _ _ s).trans (.same rfl rfl)))

theorem abandonOrder_inspects (s : State) : InspectSteps s (abandonOrder s) := by
  unfold abandonOrder
  split <;> exact .same rfl rfl

theorem takePlanSet_inspects (o : List Byte) (s : State) : InspectSteps s (takePlanSet o s) := by
  unfold takePlanSet
  split
  · exact .same rfl rfl
  · exact .ite (.trans (by exact .same rfl rfl) (plan_inspects _)) (.trans (by exact .same rfl rfl) (activate_plateFrame _).inspects)

theorem takeCutRequest_inspects (o : List Byte) (s : State) : InspectSteps s (takeCutRequest o s) := by
  unfold takeCutRequest
  split
  · exact .same rfl rfl
  · exact .trans (by exact .same rfl rfl) (plan_inspects _)

theorem takeRestart_inspects (s : State) : InspectSteps s (takeRestart s) := by
  unfold takeRestart
  split
  · exact (restartPlates_plateFrame _ s).inspects.trans (.same rfl rfl)
  · exact .same rfl rfl

theorem decideAfterRestart_inspects (s : State) : InspectSteps s (decideAfterRestart s) := by
  unfold decideAfterRestart
  exact .ite ((plan_inspects s).trans (refreshStatus_logFrame _ _).inspects) (.refl s)

theorem takeStreamStart_inspects (o : List Byte) (s : State) : InspectSteps s (takeStreamStart o s) := by
  unfold takeStreamStart startStream
  dsimp only
  split <;> exact .same rfl rfl

theorem takeStreamStop_inspects (o : List Byte) (s : State) : InspectSteps s (takeStreamStop o s) := by
  unfold takeStreamStop
  exact .ite (.same rfl rfl) ((stopStream_inspects _ s).trans (.same rfl rfl))

theorem takeTableLoad_inspects (o : List Byte) (s : State) : InspectSteps s (takeTableLoad o s) := by
  unfold takeTableLoad
  split <;> exact .same rfl rfl

theorem loadTables_inspects (block : List Byte) (s : State) : InspectSteps s (loadTables block s) := by
  unfold loadTables
  exact .ite (.same rfl rfl) (.same rfl rfl)

theorem takeRefreshOrder_inspects (o : List Byte) (s : State) : InspectSteps s (takeRefreshOrder o s) := by
  unfold takeRefreshOrder
  exact .ite (.same rfl rfl) (.same rfl rfl)

theorem takeFence_inspects (o : List Byte) (s : State) : InspectSteps s (takeFence o s) := by
  unfold takeFence
  split
  · exact .ite (.same rfl rfl) (.same rfl rfl)
  · exact .same rfl rfl

theorem endFence_inspects (a : Nat) (m o : Bool) (s : State) : InspectSteps s (endFence a m o s) := by
  unfold endFence
  exact .ite (.trans (.ite (setNotices_logFrame _ s).inspects (.refl s)) (.same rfl rfl))
    ((issueEvent_logFrame _ _ s).inspects.trans (.same rfl rfl))

theorem handLaneOrder_inspects (o : List Byte) (s : State) : InspectSteps s (handLaneOrder o s) := by
  unfold handLaneOrder
  exact .ite (.same rfl rfl) (.takeLaneOrder o s)

theorem takeShiftOrder_inspects (o : List Byte) (s : State) : InspectSteps s (takeShiftOrder o s) := by
  unfold takeShiftOrder
  exact .ite (takeShiftClose_inspects _ s) (.same rfl rfl)

theorem headAdvance_inspects (okay : Bool) (code : Nat) (s : State) : InspectSteps s (headAdvance okay code s) := by
  unfold headAdvance
  exact (InspectSteps.ite (.refl s) (issueEvent_logFrame _ _ s).inspects).trans (.same rfl rfl)

/-! ### Enable, disable and the anchor page -/

theorem enablePart_inspects (s : State) : InspectSteps s (enablePart s) := by
  rw [enablePart_eq]
  exact .trans (by exact .same rfl rfl) (activate_plateFrame _).inspects

theorem disablePart_inspects (s : State) : InspectSteps s (disablePart s) := by
  unfold disablePart
  exact ((((dropCopy_plateFrame s).inspects.trans (.foldr (fun s n => stopStream_inspects n s) _ _)).trans
    (.abandonLine _)).trans (PlateFrame.ofBlobs _ _).inspects).trans
    ((disableScheduler_plateFrame _).inspects.trans (abandonOrder_inspects _))

theorem writeControl_inspects (v : Nat) (s : State) : InspectSteps s (writeControl v s) := by
  unfold writeControl
  refine InspectSteps.trans ?_ (.ite (formLogLost_logFrame _).inspects (.refl _))
  exact .ite (.trans (by exact .same rfl rfl) (enablePart_inspects _))
    (.ite (.trans (by exact .same rfl rfl) (disablePart_inspects _)) (.same rfl rfl))

theorem ringSet_inspects (s : State) : InspectSteps s (ringSet s) := by
  unfold ringSet
  exact .trans (by exact .same rfl rfl) (abandonOrder_inspects _)

theorem writeOrderSize_inspects (v : Nat) (s : State) : InspectSteps s (writeOrderSize v s) := by
  unfold writeOrderSize
  exact .ite (issueEvent_logFrame _ _ s).inspects (.trans (by exact .same rfl rfl) (ringSet_inspects _))

theorem writeOrderTail_inspects (v : Nat) (s : State) : InspectSteps s (writeOrderTail v s) := by
  unfold writeOrderTail
  exact .ite (issueEvent_logFrame _ _ s).inspects (.ite (.same rfl rfl) (.same rfl rfl))

theorem writeLogRead_inspects (v : Nat) (s : State) : InspectSteps s (writeLogRead v s) := by
  unfold writeLogRead
  exact .ite (.same rfl rfl) (issueEvent_logFrame _ _ s).inspects

theorem actOn_inspects {f : Nat → State → State} (h : ∀ v s, InspectSteps s (f v s)) (v : Option Nat) (s : State) :
    InspectSteps s (actOn v f s) := by
  unfold actOn
  split
  · exact h _ s
  · exact .refl s

/-- The actions of the control fields, in ascending offset (R174). -/
theorem latchAnchor_inspects (w : UpWrite) (s : State) : InspectSteps s (latchAnchor w s) := by
  have base : ∀ v s, InspectSteps s (writeOrderBase v s) := fun v s => .trans (by exact .same rfl rfl) (ringSet_inspects _)
  unfold latchAnchor
  refine InspectSteps.trans ?_ (actOn_inspects (fun _ _ => .same (by rfl) (by rfl)) _ _)
  refine InspectSteps.trans ?_ (actOn_inspects (fun _ _ => .same (by rfl) (by rfl)) _ _)
  refine InspectSteps.trans ?_ (actOn_inspects (fun _ _ => .same (by rfl) (by rfl)) _ _)
  refine InspectSteps.trans ?_ (actOn_inspects (fun _ _ => .same (by rfl) (by rfl)) _ _)
  refine InspectSteps.trans ?_ (actOn_inspects writeLogRead_inspects _ _)
  refine InspectSteps.trans ?_ (actOn_inspects (fun _ _ => .same (by rfl) (by rfl)) _ _)
  refine InspectSteps.trans ?_ (actOn_inspects writeOrderTail_inspects _ _)
  refine InspectSteps.trans ?_ (actOn_inspects writeOrderSize_inspects _ _)
  exact (actOn_inspects writeControl_inspects _ s).trans (actOn_inspects base _ _)

/-! ### The Traffic Classifier -/

theorem refuseWrite_inspects (w : UpWrite) (s : State) : InspectSteps s (refuseWrite w s) := by
  unfold refuseWrite
  exact ((InspectSteps.ite (issueEvent_logFrame _ _ s).inspects (.refl s)).trans
    (.ite (issueEvent_logFrame _ _ _).inspects (.refl _))).trans (.same rfl rfl)

theorem passWrite_inspects (w : UpWrite) (b : Bool) (s : State) : InspectSteps s (passWrite w b s) := by
  unfold passWrite
  refine InspectSteps.trans ?_ (latchAnchor_inspects _ _)
  refine InspectSteps.trans ?_ (takeStatus_plateFrame _ _).inspects
  refine InspectSteps.trans ?_ (forwardPass_logFrame _ _).inspects
  split
  · exact (takeStreamWrite_plateFrame _ _ _).inspects
  · exact .refl s

theorem judgeWrite_inspects (w : UpWrite) (m : TakeMode) (s : State) : InspectSteps s (judgeWrite w m s) := by
  unfold judgeWrite
  refine .ite (refuseWrite_inspects w s) ?_
  split
  · exact passWrite_inspects _ _ s
  · exact passWrite_inspects _ _ s
  · split
    · exact (holdWrite_plateFrame _ _ s).inspects
    · exact passWrite_inspects _ _ s

theorem takeWrite_inspects (w : UpWrite) (m : TakeMode) (s : State) : InspectSteps s (takeWrite w m s) := by
  unfold takeWrite
  split
  · exact (queueWrite_plateFrame _ _ s).inspects
  · exact judgeWrite_inspects _ _ s

theorem takeLetGo_inspects (x : LetGo) (s : State) : InspectSteps s (takeLetGo x s) := by
  unfold takeLetGo
  exact .ite (queueWrite_plateFrame _ _ s).inspects (takeWrite_inspects _ _ s)

theorem arriveWrite_inspects (w : UpWrite) (s : State) : InspectSteps s (arriveWrite w s) := by
  unfold arriveWrite
  exact .ite (.refl s) (takeWrite_inspects w .arrive s)

theorem takeRead_inspects (r : UpRead) (s : State) : InspectSteps s (takeRead r s) := by
  unfold takeRead
  have served : InspectSteps s (if (r.tag == s.window.ticket.tag) && (readPortions s r).any (fun q => !q.fromMemory)
    then tallyAdd .nullServed 1 s else s) := .ite (tallyAdd_logFrame _ _ s).inspects (.refl s)
  have taken := served.trans (.ite (p := (r.tag == s.window.ticket.tag) = true)
    (.foldl (fun s q => (takeTicket_plateFrame q s).inspects) (readPortions s r) _) (.refl _))
  exact .ite (taken.trans (.same rfl rfl)) (taken.trans (forwardPass_logFrame _ _).inspects)

theorem writeAnswered_inspects (tag : Nat) (o : Bool) (s : State) : InspectSteps s (writeAnswered tag o s) := by
  unfold writeAnswered
  split
  · exact .trans (by exact .same rfl rfl) (.foldl (fun s x => (resolveNote_plateFrame o s x).inspects) _ _)
  · exact .refl s

theorem readAnswered_inspects (tag : Nat) (b : ReadResult) (s : State) : InspectSteps s (readAnswered tag b s) := by
  unfold readAnswered
  split
  · exact .ite (.refl s) (.same rfl rfl)
  · exact .refl s

theorem takePassEvent_inspects (e : PassEvent) (s : State) : InspectSteps s (takePassEvent e s) := by
  cases e with
  | write w => exact arriveWrite_inspects w s
  | read r => exact takeRead_inspects r s
  | writeResponse tag okay => exact writeAnswered_inspects tag okay s
  | readResponse tag b => exact readAnswered_inspects tag b s

theorem expireHold_inspects (n : Nat) (s : State) : InspectSteps s (expireHold n s) := by
  unfold expireHold
  split
  · exact .refl s
  · rename_i h _
    have taken : InspectSteps s (takeWrite h.held .forced (modStream n (fun r => { r with hold := none }) s)) :=
      (modStream_plateFrame _ _ s).inspects.trans (takeWrite_inspects _ _ _)
    have told := taken.trans (issueEvent_logFrame .holdExpired [n, headerSlot s n h.held] _).inspects
    exact told.trans (.same rfl rfl)

theorem drain_inspects (f : Nat) (s : State) : InspectSteps s (drain f s) := by
  induction f generalizing s with
  | zero => exact .refl s
  | succ f ih =>
    unfold drain
    split
    · exact .refl s
    · exact ((InspectSteps.trans (by exact .same rfl rfl) (takeLetGo_inspects _ _)).trans
        (refreshStatus_logFrame _ _).inspects).trans (ih _)

theorem settleHolds_inspects (f : Nat) (s : State) : InspectSteps s (settleHolds f s) := by
  induction f generalizing s with
  | zero => exact .refl s
  | succ f ih =>
    have settled := ((testSegments_plateFrame s).inspects.trans (drain_inspects 1024 _)).trans
      (advanceCapture_plateFrame _).inspects
    unfold settleHolds
    dsimp only
    split
    · exact (settled.trans (endHold_inspects _ _ _ _)).trans (ih _)
    · exact settled

/-- A command's act, with what it leaves to be done (R11). -/
theorem finish_inspects {b s t : State} (h : InspectSteps s t) : InspectSteps s (finish b t) :=
  (h.trans (refreshStatus_logFrame b t).inspects).trans (settleHolds_inspects 256 _)

/-! ### Responses to own transactions -/

theorem ownAnswered_inspects {p : Purpose → Bool} {fits : OwnTxn → Bool} {act : OwnTxn → State → State}
    (h : ∀ x s, InspectSteps s (act x s)) (s : State) : InspectSteps s (ownAnswered p fits act s) := by
  unfold ownAnswered
  split
  · exact .refl s
  · rename_i x s1 hx
    exact .ite (.ite ((answerOwn_inspects hx).trans (h x s1)) (.refl s)) (answerOwn_inspects hx)

theorem burstsAnswered_inspects {p : Purpose → Bool} {act : List OwnTxn → State → State} {s : State} (rs : List ReadResult)
    (h : ∀ ts, InspectSteps (clearOut p s) (act ts (clearOut p s))) : InspectSteps s (burstsAnswered p rs act s) := by
  unfold burstsAnswered
  split
  · exact .refl s
  · exact .ite ((clearOut_logFrame p s).inspects.trans (h _)) (.refl s)

theorem withOrder_inspects {k : Nat} {act : List Byte → State → State} (h : ∀ o s, InspectSteps s (act o s)) (s : State) :
    InspectSteps s (withOrder k act s) := by
  unfold withOrder
  split
  · exact h _ s
  · exact .refl s

theorem grant_inspects (s : State) : InspectSteps s (grant s) := by
  unfold grant
  split
  case h_4 => exact .ite (.same rfl rfl) (.same rfl rfl)
  all_goals exact .same rfl rfl

theorem orderAnswered_inspects (r : ReadResult) (s : State) : InspectSteps s (orderAnswered r s) := by
  unfold orderAnswered
  split
  · exact .ite (.trans (by exact .same rfl rfl) (testNotBefore_inspects _))
      (.trans (by exact .same rfl rfl) (issueEvent_logFrame _ _ _).inspects)
  · exact .refl s

theorem takeFenceWrite_inspects (s : State) : InspectSteps s (takeFenceWrite s) := by
  unfold takeFenceWrite
  split
  · exact .ite (.same rfl rfl) (.refl s)
  · exact .refl s

theorem fenceAnswered_inspects (okay : Bool) (s : State) : InspectSteps s (fenceAnswered okay s) := by
  unfold fenceAnswered
  split
  · exact endFence_inspects _ _ _ s
  · exact .refl s

theorem refreshAnswered_inspects (r : ReadResult) (s : State) : InspectSteps s (refreshAnswered r s) := by
  unfold refreshAnswered startRefresh failRefresh
  split
  · exact .ite (.ite (.same rfl rfl) (takeRefresh_inspects _ _ s)) (.ite (.same rfl rfl) (.same rfl rfl))
  · exact .refl s

theorem tableAnswered_inspects (r : ReadResult) (s : State) : InspectSteps s (tableAnswered r s) := by
  unfold tableAnswered
  split
  · exact .ite (loadTables_inspects _ s) (.same rfl rfl)
  · exact .refl s

theorem completionAnswered_inspects (okay : Bool) (s : State) : InspectSteps s (completionAnswered okay s) := by
  unfold completionAnswered
  split
  · exact headAdvance_inspects _ _ s
  · exact .refl s

theorem reportEnded_inspects (s : State) : InspectSteps s (reportEnded s) := by
  unfold reportEnded
  refine .ite (.refl s) ?_
  split
  · exact .refl s
  · exact ((clearOut_logFrame _ s).trans (setNotices_logFrame _ _)).inspects.trans (endReport_inspects _)
  · exact ((clearOut_logFrame _ s).trans (issueEvent_logFrame _ _ _)).inspects.trans (endReport_inspects _)

theorem failReport_inspects (a : Nat) (s : State) : InspectSteps s (failReport a s) := by
  unfold failReport
  split
  · exact .same rfl rfl
  · exact .refl s
  · exact .refl s

theorem reportBurst_inspects (s : State) (okay : Bool) : InspectSteps s (reportBurst s okay) := by
  unfold reportBurst
  split
  · exact .refl s
  · exact .trans (.ite (by exact .same rfl rfl) (.trans (by exact .same rfl rfl) (failReport_inspects _ _)))
      (reportEnded_inspects _)

theorem segmentAnswered_inspects (c : Copy) (cs : CapStream) (n : Nat) (bs : List ReadResult) (s : State) :
    InspectSteps s (segmentAnswered c cs n bs s) := by
  unfold segmentAnswered
  exact .ite (.same rfl rfl) ((modStream_plateFrame _ _ s).trans (missSegment_plateFrame _ _)).inspects

theorem failCapture_inspects (a : Nat) (s : State) : InspectSteps s (failCapture a s) := by
  unfold failCapture
  split
  · exact ((dropCopy_plateFrame s).trans (issueEvent_logFrame _ _ _).plate).inspects
  · exact .refl s

theorem rowAnswered_inspects (okay : Bool) (x : OwnTxn) (s : State) : InspectSteps s (rowAnswered okay x s) := by
  unfold rowAnswered
  exact .ite (.same rfl rfl) (failCapture_inspects _ s)

theorem headerAnswered_inspects (okay : Bool) (x : OwnTxn) (s : State) : InspectSteps s (headerAnswered okay x s) := by
  have ended : ∀ c, InspectSteps s (endCapture c s) := fun c => by
    rw [endCapture_eq]
    exact .ite (.trans (captureLocked_plateFrame c s).inspects (issueEvent_logFrame _ _ _).inspects)
      (captureLocked_plateFrame c s).inspects
  unfold headerAnswered
  split
  · exact .ite (ended _) (failCapture_inspects _ s)
  · exact .refl s

theorem logAnswered_inspects (okays : List Bool) (s : State) : InspectSteps s (logAnswered okays s) := by
  have waiting : ∀ s, InspectSteps s (takeWaitingRefresh s) := fun s => by
    unfold takeWaitingRefresh
    split
    · exact takeRefresh_inspects _ _ s
    · exact .refl s
  unfold logAnswered
  split
  · exact (clearOut_logFrame _ s).inspects
  · refine .ite (.refl s) ?_
    unfold groupAnswered
    have taken : InspectSteps s (clearOut (· == .log) { s with writer := { s.writer with inFlight := none } }) := .same rfl rfl
    exact (((taken.trans (.ite (groupWritten_logFrame _ _).inspects (loseRecords_logFrame _ _).inspects))).trans
      (waiting _)).trans (pumpLog_logFrame _).inspects

theorem statusAnswered_inspects (s : State) : InspectSteps s (statusAnswered s) := by
  have counted : InspectSteps s (countStatus { s with writer := { s.writer with statusOut := false } }) := by
    unfold countStatus
    split <;> exact .same rfl rfl
  unfold statusAnswered
  exact .ite (counted.trans (.same rfl rfl)) counted

/-! ### The Ticket Unit -/

theorem ownTicketAnswered_inspects (p : Purpose → Bool) (okay : Bool) (s : State) :
    InspectSteps s (ownTicketAnswered p okay s) := by
  unfold ownTicketAnswered
  split
  · rename_i x s1 hx
    exact .ite ((answerOwn_inspects hx).trans (ticketAnswered_plateFrame okay x s1).inspects) (answerOwn_inspects hx)
  · exact .refl s

/-! ### The commands -/

/-- A command's act, with the status block refreshed. -/
theorem refreshed_inspects {b s t : State} (h : InspectSteps s t) : InspectSteps s (refreshStatus b t) :=
  h.trans (refreshStatus_logFrame b t).inspects

/-- What a command does to the Detection Unit and the Lane Map: a pin reset leaves the reset's, every other goes by the four
acts. -/
theorem exec_inspects (c : Instr) (s : State) :
    ∃ t, exec c s = .next t ∧ (t = pinResetState s ∨ InspectSteps s t) := by
  cases c with
  | pinReset => exact ⟨_, exec_pinReset s, .inl rfl⟩
  | forwardCount =>
    obtain ⟨t, ht, f⟩ := exec_forwardCount_plateFrame s
    exact ⟨t, ht, .inr (.same f.det f.lanes)⟩
  | reverseCount =>
    obtain ⟨t, ht, f⟩ := exec_reverseCount_logFrame s
    exact ⟨t, ht, .inr (.same f.det f.lanes)⟩
  | invalidTransition =>
    obtain ⟨t, ht, f⟩ := exec_invalidTransition_logFrame s
    exact ⟨t, ht, .inr (.same f.det f.lanes)⟩
  | headerWrite w | continuationWrite w | guardWrite w | statusWrite w | statusBlockGuard w | enable w | disable w
  | logClear w | orderRingSet w | orderTail w | logRead w | noticeEnable w | noticeAck w | captureRelease w
  | anchorWrite w => exact ⟨_, rfl, .inr <| finish_inspects (arriveWrite_inspects w s)⟩
  | completingWriteResponse tag okay => exact ⟨_, rfl, .inr <| finish_inspects (writeAnswered_inspects tag okay s)⟩
  | holdExpired n => exact ⟨_, rfl, .inr <| .ite (finish_inspects (expireHold_inspects n s)) (.refl s)⟩
  | lineTimeout n => exact ⟨_, rfl, .inr <| .ite (finish_inspects (timeOutFill_inspects n s)) (.refl s)⟩
  | streamLapsed n => exact ⟨_, rfl, .inr <| .ite (finish_inspects (lapseStream_plateFrame n s).inspects) (.refl s)⟩
  | seedFetchDone n bs =>
    refine ⟨_, rfl, .inr <| finish_inspects ?_⟩
    split
    · exact burstsAnswered_inspects bs fun _ => endSeed_inspects _ _ _ _
    · exact (clearOut_logFrame _ s).inspects
  | lineAssembly | assemblyTimeout => exact ⟨_, rfl, .inr <| .ite (refreshed_inspects (assembleLine_inspects s)) (.refl s)⟩
  | pixelFetchDone r =>
    refine ⟨_, rfl, .inr <| finish_inspects ?_⟩
    split
    · exact burstsAnswered_inspects r.bursts fun ts => analyseLine_inspects r.early _ ts r.bursts _
    · exact (clearOut_logFrame _ s).inspects
  | forcingReached =>
    exact ⟨_, rfl, .inr <| .ite (refreshed_inspects (examineIfChanged_plateFrame (evaluate_plateFrame s)).inspects) (.refl s)⟩
  | starved => exact ⟨_, rfl, .inr <| .ite (refreshed_inspects (evaluate_plateFrame s).inspects) (.refl s)⟩
  | sealFailedCutPoint => exact ⟨_, rfl, .inr <| .ite (refreshed_inspects (plateChanged_plateFrame s).inspects) (.refl s)⟩
  | sealWriteResponse slot okay | nullWriteResponse slot okay =>
    exact ⟨_, rfl, .inr <| refreshed_inspects (ownTicketAnswered_inspects _ okay s)⟩
  | ticketRead r => exact ⟨_, rfl, .inr <| refreshed_inspects (takeRead_inspects r s)⟩
  | cutMissed n => exact ⟨_, rfl, .inr <| refreshed_inspects (missPlate_plateFrame s n).inspects⟩
  | passThrough e => exact ⟨_, rfl, .inr <| finish_inspects (takePassEvent_inspects e s)⟩
  | arbiterGrant => exact ⟨_, rfl, .inr <| grant_inspects s⟩
  | orderFetch => exact ⟨_, rfl, .inr <| .ite (refreshed_inspects (.same rfl rfl)) (.refl s)⟩
  | orderFetchDone r => exact ⟨_, rfl, .inr <| refreshed_inspects (ownAnswered_inspects (fun _ => orderAnswered_inspects r) s)⟩
  | nop => exact ⟨_, rfl, .inr <| refreshed_inspects (withOrder_inspects (fun _ s => .same (t := complete .done s) rfl rfl) s)⟩
  | badOrder => exact ⟨_, rfl, .inr <| refreshed_inspects (.ite (.same rfl rfl) (.refl s))⟩
  | fence => exact ⟨_, rfl, .inr <| refreshed_inspects (withOrder_inspects takeFence_inspects s)⟩
  | fenceWrite => exact ⟨_, rfl, .inr <| refreshed_inspects (takeFenceWrite_inspects s)⟩
  | fenceWriteResponse okay =>
    exact ⟨_, rfl, .inr <| refreshed_inspects (ownAnswered_inspects (fun _ => fenceAnswered_inspects okay) s)⟩
  | refresh => exact ⟨_, rfl, .inr <| refreshed_inspects (withOrder_inspects takeRefreshOrder_inspects s)⟩
  | refreshFetchDone r =>
    exact ⟨_, rfl, .inr <| refreshed_inspects (ownAnswered_inspects (fun _ => refreshAnswered_inspects r) s)⟩
  | streamStart => exact ⟨_, rfl, .inr <| refreshed_inspects (withOrder_inspects takeStreamStart_inspects s)⟩
  | streamStop => exact ⟨_, rfl, .inr <| finish_inspects (withOrder_inspects takeStreamStop_inspects s)⟩
  | profileLoad | laneAssign | laneRelease =>
    exact ⟨_, rfl, .inr <| refreshed_inspects (withOrder_inspects handLaneOrder_inspects s)⟩
  | tableLoad => exact ⟨_, rfl, .inr <| refreshed_inspects (withOrder_inspects takeTableLoad_inspects s)⟩
  | tableLoadFetchDone r =>
    exact ⟨_, rfl, .inr <| refreshed_inspects (ownAnswered_inspects (fun _ => tableAnswered_inspects r) s)⟩
  | planSet => exact ⟨_, rfl, .inr <| refreshed_inspects (withOrder_inspects takePlanSet_inspects s)⟩
  | cutRequest => exact ⟨_, rfl, .inr <| refreshed_inspects (withOrder_inspects takeCutRequest_inspects s)⟩
  | restart =>
    exact ⟨_, rfl, .inr <| withOrder_inspects
      (fun _ s => (refreshed_inspects (takeRestart_inspects s)).trans (decideAfterRestart_inspects _)) s⟩
  | shiftClose => exact ⟨_, rfl, .inr <| refreshed_inspects (withOrder_inspects takeShiftOrder_inspects s)⟩
  | completionWriteResponse okay =>
    exact ⟨_, rfl, .inr <| refreshed_inspects (ownAnswered_inspects (fun _ => completionAnswered_inspects okay) s)⟩
  | reportWriteResponse okays =>
    exact ⟨_, rfl, .inr <| refreshed_inspects (.ite (clearOut_logFrame _ s).inspects (.foldl reportBurst_inspects okays s))⟩
  | captureSegmentReadDone n bs =>
    refine ⟨_, rfl, .inr <| finish_inspects ?_⟩
    split
    · exact burstsAnswered_inspects bs fun _ => segmentAnswered_inspects _ _ _ bs _
    · exact (clearOut_logFrame _ s).inspects
  | captureRowWriteDone okay => exact ⟨_, rfl, .inr <| finish_inspects (ownAnswered_inspects (rowAnswered_inspects okay) s)⟩
  | captureHeaderWriteDone okay =>
    exact ⟨_, rfl, .inr <| finish_inspects (ownAnswered_inspects (headerAnswered_inspects okay) s)⟩
  | logWriteResponse okays => exact ⟨_, rfl, .inr <| refreshed_inspects (logAnswered_inspects okays s)⟩
  | statusBlockWriteResponse okay =>
    exact ⟨_, rfl, .inr <| refreshed_inspects (ownAnswered_inspects (fun _ => statusAnswered_inspects) s)⟩

/-! ### The columns and the run buffer (R44, R50, R59) -/

/-- A column's step under a pixel that is a byte keeps its ranges, whatever the profile. -/
theorem stepColumn_inv {i : ColIn} (byte : ∀ p, i = .covered p → p ≤ 255) (m : Profile) {c : Column} (h : ColumnInv c) :
    ColumnInv (stepColumn m i c).1 := by
  cases i with
  | outside | uncovered => exact h
  | covered p =>
    obtain ⟨ref, age, run⟩ := h
    have pixel := byte p rfl
    have between := (refStep_between m.shift c.ref p).2
    have moved : refStep m.shift c.ref p ≤ 65280 := between.trans (max_le ref (by omega))
    have exit : Config.clearRunExit = 64 := rfl
    cases mode : c.streak with
    | false =>
      rw [stepColumn_normal mode]
      by_cases clear : pixelClass m (contrast c.ref p) = .clear
      · rw [stepNormal_of_clear clear]
        exact ⟨moved, Nat.zero_le _, run⟩
      · rw [stepNormal_of_flagged clear]
        split
        · exact ⟨ref, Nat.zero_le _, Nat.zero_le _⟩
        · exact ⟨ref, min_le_right _ _, run⟩
    | true =>
      rw [stepColumn_streak mode]
      by_cases clear : pixelClass m (contrast c.ref p) = .clear
      · rw [stepStreak_of_clear clear]
        split
        · exact ⟨moved, age, Nat.zero_le _⟩
        · exact ⟨moved, age, by dsimp only; omega⟩
      · rw [stepStreak_of_flagged clear]
        exact ⟨moved, age, Nat.zero_le _⟩

theorem stepColumns_inv {line : List ColIn} (bytes : ∀ p, .covered p ∈ line → p ≤ 255) (lanes : LaneMap) (c : Nat)
    {cs : List Column} (h : ∀ x ∈ cs, ColumnInv x) : ∀ y ∈ stepColumns lanes c line cs, ColumnInv y.1 := by
  induction line generalizing c cs with
  | nil =>
    intro y hy
    obtain ⟨x, hx, rfl⟩ := List.mem_map.mp hy
    exact h x hx
  | cons i line ih =>
    cases cs with
    | nil => exact fun y hy => nomatch hy
    | cons x cs =>
      obtain ⟨first, rest⟩ := List.forall_mem_cons.mp h
      refine List.forall_mem_cons.mpr ⟨stepColumn_inv (fun p hp => ?_) _ first, ih (fun p hp => ?_) (c + 1) rest⟩
      · exact bytes p (hp ▸ List.mem_cons_self)
      · exact bytes p (List.mem_cons_of_mem _ hp)

theorem linePass_columns_inv {line : List ColIn} (bytes : ∀ p, .covered p ∈ line → p ≤ 255) (lanes : LaneMap) {d : Detection}
    (h : ∀ c ∈ d.columns, ColumnInv c) : ∀ c ∈ (linePass lanes line d).columns, ColumnInv c := by
  intro c hc
  obtain ⟨y, hy, rfl⟩ := List.mem_map.mp hc
  exact stepColumns_inv bytes lanes 0 h y hy

/-- A column loaded from a seed pixel is in range (R45). -/
theorem seedColumn_inv (p : Byte) : ColumnInv (seedColumn p) := by
  have byte : p.toNat < 256 := p.isLt
  exact ⟨show 256 * p.toNat ≤ 65280 by omega, Nat.zero_le _, Nat.zero_le _⟩

theorem seedColumns_inv (first : Nat) (pixels : List Byte) {cs : List Column} (h : ∀ c ∈ cs, ColumnInv c) :
    ∀ c ∈ seedColumns first pixels cs, ColumnInv c := by
  intro c hc
  obtain ⟨i, hi, rfl⟩ := List.mem_mapIdx.mp hc
  have old := h _ (List.getElem_mem hi)
  split
  · split
    · exact seedColumn_inv _
    · exact old
  · exact old

/-- A lane order leaves the Detection Unit as it is (R86). -/
theorem takeLaneOrder_det (o : List Byte) (s : State) : (takeLaneOrder o s).det = s.det := by
  unfold takeLaneOrder
  dsimp only
  split
  · rfl
  · split
    · rfl
    · split
      · rfl
      · split
        · rfl
        · exact (issueEvent_logFrame ..).det

/-- The invariant speaks of the Detection Unit alone. -/
theorem ColumnsInv.of_det {s t : State} (h : ColumnsInv s) (hd : t.det = s.det) : ColumnsInv t := by
  rwa [ColumnsInv, hd]

theorem InspectSteps.columns {s t : State} (k : InspectSteps s t) : ColumnsInv s → ColumnsInv t := by
  induction k with
  | same hd _ => exact fun h => h.of_det hd
  | trans _ _ ih ih' => exact ih' ∘ ih
  | abandonLine s => exact fun ⟨columns, _⟩ => ⟨columns, Nat.zero_le _⟩
  | seedLoad first pixels s =>
    intro ⟨columns, runs⟩
    refine ColumnsInv.of_det ?_ (seedLoad_logFrame first pixels s).det
    exact ⟨seedColumns_inv first pixels columns, runs⟩
  | @takePass line bytes l s =>
    intro ⟨columns, _⟩
    refine ColumnsInv.of_det ?_ (streakEvents_logFrame l 0 _ _ _).det
    exact ⟨linePass_columns_inv bytes s.lanes columns, List.length_take_le _ _⟩
  | takeLaneOrder o s => exact fun h => h.of_det (takeLaneOrder_det o s)

theorem exec_columns (c : Instr) {s : State} (h : ColumnsInv s) : ∃ t, exec c s = .next t ∧ ColumnsInv t := by
  obtain ⟨t, ht, rfl | steps⟩ := exec_inspects c s
  · exact ⟨_, ht, columnsInv_reset.of_det rfl⟩
  · exact ⟨t, ht, steps.columns h⟩

end Sys2Proof.Machine

open Sys2Proof Sys2Proof.Machine

/-- Settles O54: each command keeps the ranges, and a step is the command at the front of the queue. -/
theorem columnsKept : Obligations.ColumnsKept := by
  unfold Obligations.ColumnsKept
  intro s t inv h
  unfold step at h
  split at h
  · obtain rfl := Host.Outcome.next.inj h
    exact inv
  · rename_i c rest _
    obtain ⟨u, hu, kept⟩ := exec_columns c (s := { s with pending := rest }) inv
    obtain rfl := Host.Outcome.next.inj (h.symm.trans hu)
    exact kept
end

section
/-! SUPPORT. The reference level (R48), the contrast and the classes of a pixel (R49), and what a covered column marks (R47, R56). -/

namespace Sys2Proof.Machine

/-! ### Levels, contrasts and classes -/

/-- The level is the grey level nearest to the reference, the upper one at half-way (R48). -/
theorem refLevel_nearest (ref : Nat) : 256 * refLevel ref ≤ ref + 128 ∧ ref < 256 * refLevel ref + 128 := by
  unfold refLevel
  omega

theorem refLevel_le {ref : Nat} (h : ref ≤ 65280) : refLevel ref ≤ 255 := by
  have := refLevel_nearest ref
  omega

theorem contrast_range {ref p : Nat} (hr : ref ≤ 65280) (hp : p ≤ 255) : -255 ≤ contrast ref p ∧ contrast ref p ≤ 255 := by
  have := refLevel_le hr
  unfold contrast
  omega

section
variable {m : Profile} {d : Int}

theorem pixelClass_eq_dark : pixelClass m d = .dark ↔ d ≤ -(m.dark : Int) := by
  unfold pixelClass
  split
  · simp [*]
  · split <;> simp [*]

/-- A threshold is at least 1, so no contrast is beyond both. -/
theorem pixelClass_eq_bright (h : 1 ≤ m.bright) : pixelClass m d = .bright ↔ (m.bright : Int) ≤ d := by
  unfold pixelClass
  split
  · have : ¬ (m.bright : Int) ≤ d := by omega
    simp [this]
  · split <;> simp [*]

theorem pixelClass_eq_clear : pixelClass m d = .clear ↔ -(m.dark : Int) < d ∧ d < m.bright := by
  rw [← not_le, ← not_le]
  unfold pixelClass
  split
  · simp [*]
  · split <;> simp [*]

end

/-! ### What a covered column marks -/

/-- The mark of a class: a flagged pixel carries its magnitude to the runs (R49, R56). -/
def PixelClass.mark (magnitude : Nat) : PixelClass → Mark
  | .clear => .clear
  | .dark => .flagged .dark magnitude
  | .bright => .flagged .bright magnitude

theorem PixelClass.mark_eq_clear {g : Nat} {k : PixelClass} : k.mark g = .clear ↔ k = .clear := by
  cases k <;> simp [PixelClass.mark]

section
variable {m : Profile} {p : Nat} {c : Column}

/-- A covered NORMAL column marks its pixel's class, with the magnitude of the contrast (R49). -/
theorem stepNormal_mark :
    (stepNormal m p c).2 = (pixelClass m (contrast c.ref p)).mark (contrast c.ref p).natAbs := by
  unfold stepNormal
  dsimp only
  cases pixelClass m (contrast c.ref p) <;> rfl

/-- A covered STREAK column breaks runs and uncovers its group (R53). -/
theorem stepStreak_mark : (stepStreak m p c).2 = .broken true := by
  unfold stepStreak
  cases pixelClass m (contrast c.ref p) with
  | clear => dsimp only; split <;> rfl
  | dark | bright => rfl

end

end Sys2Proof.Machine

open Sys2Proof Sys2Proof.Machine

/-- Settles O16: the rounding, and a NORMAL column's mark by its class. -/
theorem referenceLevel : Obligations.ReferenceLevel := by
  unfold Obligations.ReferenceLevel
  intro r hr
  obtain ⟨above, below⟩ := refLevel_nearest r
  refine ⟨rfl, above, below, refLevel_le hr, fun _ => by omega, ?_⟩
  rintro m p c rfl normal
  rw [stepColumn_normal normal, stepNormal_mark]
  exact PixelClass.mark_eq_clear

/-- Settles O17: the ranges, the classes by the thresholds, then the marks of a NORMAL and the clear-run of a STREAK column. -/
theorem pixelClasses : Obligations.PixelClasses := by
  unfold Obligations.PixelClasses
  intro m p c hp hr dark darkTop bright brightTop
  dsimp only
  have range := contrast_range hr hp
  have exit : Config.clearRunExit = 64 := rfl
  have value : contrast c.ref p = (p : Int) - refLevel c.ref := rfl
  refine ⟨rfl, range.1, range.2, pixelClass_eq_dark, pixelClass_eq_bright bright, pixelClass_eq_clear, fun level => ?_,
    fun black white => ?_, fun white black => ?_, fun h => ?_, fun h => ?_, fun normal h => ?_, fun normal h => ?_,
    fun streak => ?_, fun streak h => ?_, fun streak h below => ?_⟩
  · exact pixelClass_eq_clear.mpr (by omega)
  · exact pixelClass_eq_dark.mpr (by omega)
  · exact (pixelClass_eq_bright bright).mpr (by omega)
  · have := pixelClass_eq_dark.mp h
    omega
  · have := (pixelClass_eq_bright bright).mp h
    omega
  · rw [stepColumn_normal normal, stepNormal_mark, h, PixelClass.mark]
  · rw [stepColumn_normal normal, stepNormal_mark, h, PixelClass.mark]
  · rw [stepColumn_streak streak, stepStreak_mark]
  · rw [stepColumn_streak streak, stepStreak_of_flagged h]
  · rw [stepColumn_streak streak, stepStreak_of_clear h, if_neg (by omega)]
end

section
/-! SUPPORT. The runs of a line (R56, R57): the columns are taken one at a time, each closing the run at hand, extending it or
beginning one. -/

namespace Sys2Proof.Machine

/-! ### One column -/

/-- What column `c` with mark `m` does to the run at hand: the run it closes, and the run that the next column may extend. -/
def formStep (c : Nat) : Option Run → Mark → List Run × Option Run
  | none, .flagged pol g => ([], some (newRun c pol g))
  | some r, .flagged pol g =>
    if r.polarity = pol then ([], some { r with c1 := c, peak := max r.peak g, sum := r.sum + g })
    else ([r], some (newRun c pol g))
  | cur, .clear => (cur.toList, none)
  | cur, .broken _ => (cur.toList, none)

theorem formRuns_cons (c : Nat) (cur : Option Run) (m : Mark) (ms : List Mark) :
    formRuns c cur (m :: ms) = (formStep c cur m).1 ++ formRuns (c + 1) (formStep c cur m).2 ms := by
  cases m with
  | clear | broken u => cases cur <;> rfl
  | flagged pol g =>
    cases cur with
    | none => rfl
    | some r =>
      rw [formRuns, formStep]
      split <;> rfl

/-! ### Maximal runs -/

/-- The columns of `r` are flagged with its polarity, its peak bounds their magnitudes, and the column before it is not so
flagged (R57). -/
structure RunOf (marks : List Mark) (r : Run) : Prop where
  ordered : r.c0 ≤ r.c1
  flagged : ∀ c, r.c0 ≤ c → c ≤ r.c1 → ∃ g, marks[c]? = some (.flagged r.polarity g) ∧ g ≤ r.peak
  first : ∀ c g, c + 1 = r.c0 → marks[c]? ≠ some (.flagged r.polarity g)

/-- A run that does not go on beyond its last column. -/
def MaximalRun (marks : List Mark) (r : Run) : Prop :=
  RunOf marks r ∧ ∀ g, marks[r.c1 + 1]? ≠ some (.flagged r.polarity g)

/-- The run at hand after the columns `pre`: it ends at the last of them; with none, the last is not flagged. -/
def AtHand (pre : List Mark) : Option Run → Prop
  | none => ∀ c pol g, c + 1 = pre.length → pre[c]? ≠ some (.flagged pol g)
  | some r => RunOf pre r ∧ r.c1 + 1 = pre.length

theorem RunOf.append {pre : List Mark} {r : Run} (h : RunOf pre r) (inside : r.c1 < pre.length) (ms : List Mark) :
    RunOf (pre ++ ms) r := by
  have ordered := h.ordered
  refine ⟨ordered, fun c hc hc' => ?_, fun c g hc => ?_⟩
  · rw [List.getElem?_append_left (by omega)]
    exact h.flagged c hc hc'
  · rw [List.getElem?_append_left (by omega)]
    exact h.first c g hc

/-- The run at hand is maximal when the next column is not flagged with its polarity. -/
theorem AtHand.maximal {pre : List Mark} {r : Run} (h : AtHand pre (some r)) {ms : List Mark}
    (ends : ∀ g, ms[0]? ≠ some (.flagged r.polarity g)) : MaximalRun (pre ++ ms) r := by
  obtain ⟨run, last⟩ := h
  refine ⟨run.append (by omega) ms, fun g => ?_⟩
  rw [last, List.getElem?_append_right le_rfl, Nat.sub_self]
  exact ends g

/-- The next column begins a run if the one before it is not flagged with its polarity. -/
theorem RunOf.begins {pre : List Mark} {pol : Polarity} (g : Nat)
    (first : ∀ c g, c + 1 = pre.length → pre[c]? ≠ some (.flagged pol g)) :
    RunOf (pre ++ [.flagged pol g]) (newRun pre.length pol g) := by
  refine ⟨le_rfl, fun c hc hc' => ?_, fun c g' hc => ?_⟩
  · obtain rfl : c = pre.length := le_antisymm hc' hc
    exact ⟨g, List.getElem?_concat_length, le_rfl⟩
  · have before : c + 1 = pre.length := hc
    rw [List.getElem?_append_left (by omega)]
    exact first c g' before

/-- The next column extends the run at hand if it is flagged with its polarity. -/
theorem AtHand.extends {pre : List Mark} {r : Run} (h : AtHand pre (some r)) (g : Nat) :
    RunOf (pre ++ [.flagged r.polarity g]) { r with c1 := pre.length, peak := max r.peak g, sum := r.sum + g } := by
  obtain ⟨run, last⟩ := h
  have ordered := run.ordered
  refine ⟨show r.c0 ≤ pre.length by omega, fun c hc hc' => ?_, (run.append (by omega) _).first⟩
  rcases Nat.lt_or_eq_of_le hc' with inside | rfl
  · obtain ⟨g', hg', peak⟩ := run.flagged c hc (by dsimp only at inside; omega)
    exact ⟨g', by rwa [List.getElem?_append_left inside], peak.trans (le_max_left _ _)⟩
  · exact ⟨g, List.getElem?_concat_length, le_max_right _ _⟩

/-- The column before a run of another polarity, or before none at hand, is not flagged with the column's polarity. -/
theorem AtHand.other {pre : List Mark} {r : Run} (h : AtHand pre (some r)) {pol : Polarity} (hp : r.polarity ≠ pol) :
    ∀ c g, c + 1 = pre.length → pre[c]? ≠ some (.flagged pol g) := by
  obtain ⟨run, last⟩ := h
  intro c g hc hm
  obtain ⟨g', hg', -⟩ := run.flagged r.c1 run.ordered le_rfl
  obtain rfl : c = r.c1 := by omega
  rw [hg'] at hm
  injection hm with hm
  injection hm with same _
  exact hp same

/-- A column after a mark that is not flagged has no flagged column before it. -/
theorem atHand_none {pre : List Mark} {m : Mark} (h : ∀ pol g, m ≠ .flagged pol g) : AtHand (pre ++ [m]) none := by
  intro c pol g hc hm
  obtain rfl : c = pre.length := by simpa using hc
  rw [List.getElem?_concat_length] at hm
  exact h pol g (Option.some.inj hm)

/-- Each column leaves a run at hand, and closes maximal runs alone. -/
theorem formStep_maximal {pre : List Mark} {cur : Option Run} (h : AtHand pre cur) (m : Mark) (ms : List Mark) :
    AtHand (pre ++ [m]) (formStep pre.length cur m).2 ∧
      ∀ r ∈ (formStep pre.length cur m).1, MaximalRun (pre ++ m :: ms) r := by
  have grown : (pre ++ [m]).length = pre.length + 1 := List.length_append
  have closes : (∀ pol g, m ≠ .flagged pol g) → ∀ r ∈ cur.toList, MaximalRun (pre ++ m :: ms) r := by
    intro ends r hr
    obtain rfl := Option.mem_toList.mp hr
    exact h.maximal fun g hg => ends _ g (Option.some.inj hg)
  cases m with
  | clear => exact ⟨by cases cur <;> exact atHand_none (by simp), by cases cur <;> exact closes (by simp)⟩
  | broken u => exact ⟨by cases cur <;> exact atHand_none (by simp), by cases cur <;> exact closes (by simp)⟩
  | flagged pol g =>
    cases cur with
    | none => exact ⟨⟨.begins g (fun c => h c pol), grown.symm⟩, fun r hr => nomatch hr⟩
    | some r =>
      rw [formStep]
      split
      · rename_i same
        subst same
        exact ⟨⟨h.extends g, grown.symm⟩, fun r hr => nomatch hr⟩
      · rename_i differs
        refine ⟨⟨.begins g (h.other differs), grown.symm⟩, fun r' hr => ?_⟩
        obtain rfl := List.mem_singleton.mp hr
        refine h.maximal fun g' hg' => differs ?_
        injection hg' with hg'
        injection hg' with same _
        exact same.symm

theorem formRuns_maximal {pre : List Mark} {cur : Option Run} (h : AtHand pre cur) (ms : List Mark) :
    ∀ r ∈ formRuns pre.length cur ms, MaximalRun (pre ++ ms) r := by
  induction ms generalizing pre cur with
  | nil =>
    intro r hr
    rw [formRuns] at hr
    obtain rfl := Option.mem_toList.mp hr
    exact h.maximal (by simp)
  | cons m ms ih =>
    obtain ⟨atHand, closed⟩ := formStep_maximal h m ms
    have later := ih atHand
    rw [List.length_append, List.length_singleton, List.append_assoc, List.singleton_append] at later
    intro r hr
    rw [formRuns_cons, List.mem_append] at hr
    exact hr.elim (closed r) (later r)

/-! ### Every flagged column lies in a run -/

/-- The run has the polarity, and the column lies in it. -/
def Run.Holds (pol : Polarity) (c : Nat) (r : Run) : Prop := r.polarity = pol ∧ r.c0 ≤ c ∧ c ≤ r.c1

/-- A column held by the run at hand, or flagged itself, is held by the run closed or by the one then at hand. -/
theorem formStep_holds {pre : List Mark} {cur : Option Run} (h : AtHand pre cur) {m : Mark} {pol : Polarity} {c : Nat}
    (held : (∃ r ∈ cur, r.Holds pol c) ∨ (c = pre.length ∧ ∃ g, m = .flagged pol g)) :
    (∃ r ∈ (formStep pre.length cur m).1, r.Holds pol c) ∨ ∃ r ∈ (formStep pre.length cur m).2, r.Holds pol c := by
  rcases held with ⟨r, rfl, hr⟩ | ⟨rfl, g, rfl⟩
  · obtain ⟨same, after, before⟩ := id hr
    cases m with
    | clear | broken u => exact .inl ⟨r, List.mem_singleton_self r, hr⟩
    | flagged pol' g =>
      rw [formStep]
      split
      · have last : r.c1 + 1 = pre.length := h.2
        exact .inr ⟨_, rfl, same, after, show c ≤ pre.length by omega⟩
      · exact .inl ⟨r, List.mem_singleton_self r, hr⟩
  · cases cur with
    | none => exact .inr ⟨_, rfl, rfl, le_rfl, le_rfl⟩
    | some r =>
      rw [formStep]
      split
      · rename_i same
        have ordered := h.1.ordered
        have last : r.c1 + 1 = pre.length := h.2
        exact .inr ⟨_, rfl, same, show r.c0 ≤ pre.length by omega, le_rfl⟩
      · exact .inr ⟨_, rfl, rfl, le_rfl, le_rfl⟩

theorem formRuns_holds {pre : List Mark} {cur : Option Run} (h : AtHand pre cur) {ms : List Mark} {pol : Polarity} {c : Nat}
    (held : (∃ r ∈ cur, r.Holds pol c) ∨ (pre.length ≤ c ∧ ∃ g, (pre ++ ms)[c]? = some (.flagged pol g))) :
    ∃ r ∈ formRuns pre.length cur ms, r.Holds pol c := by
  induction ms generalizing pre cur with
  | nil =>
    rcases held with ⟨r, hr, holds⟩ | ⟨beyond, g, hg⟩
    · exact ⟨r, Option.mem_toList.mpr hr, holds⟩
    · rw [List.append_nil, List.getElem?_eq_none beyond] at hg
      cases hg
  | cons m ms ih =>
    have later := ih (formStep_maximal h m ms).1
    rw [List.length_append, List.length_singleton, List.append_assoc, List.singleton_append] at later
    have here : ((∃ r ∈ cur, r.Holds pol c) ∨ (c = pre.length ∧ ∃ g, m = .flagged pol g)) ∨
        (pre.length + 1 ≤ c ∧ ∃ g, (pre ++ m :: ms)[c]? = some (.flagged pol g)) := by
      rcases held with held | ⟨at_least, g, hg⟩
      · exact .inl (.inl held)
      · rcases Nat.eq_or_lt_of_le at_least with rfl | beyond
        · rw [List.getElem?_append_right le_rfl, Nat.sub_self] at hg
          exact .inl (.inr ⟨rfl, g, Option.some.inj hg⟩)
        · exact .inr ⟨beyond, g, hg⟩
    simp only [formRuns_cons, List.mem_append, or_and_right, exists_or]
    rcases here with now | after
    · exact (formStep_holds h now).imp_right fun held => later (.inl held)
    · exact .inr (later (.inr after))

/-- No run is at hand before the first column. -/
theorem atHand_nil : AtHand [] none := fun _ _ _ h => nomatch h

/-! ### The runs that are kept (R58, R59) -/

/-- The pass keeps the first 256 of the runs that are long enough, and the rest overflow. -/
theorem linePass_runs (lanes : LaneMap) {line : List ColIn} {d : Detection} (h : line.length = d.columns.length) :
    let marks := (line.zip d.columns).mapIdx (fun c x => (stepColumn (profile lanes (columnProfile lanes c)) x.1 x.2).2)
    let kept := (formRuns 0 none marks).filter (keptRun lanes)
    (linePass lanes line d).runs = kept.take 256 ∧ (linePass lanes line d).overflow = kept.drop 256 := by
  have steps := stepColumns_eq_mapIdx lanes 0 h
  simp only [Nat.zero_add] at steps
  simp only [linePass, steps, List.mapIdx_eq_zipIdx_map, List.map_map]
  exact ⟨rfl, rfl⟩

end Sys2Proof.Machine
end

section
/-! SUPPORT. A run taken into the blob table (R65 to R68, R70): what becomes of each entry, and the table with one or two entries
that qualify. -/

namespace Sys2Proof.Machine

/-! ### Entries that qualify (R65) -/

theorem hullMeets_iff {h : Nat × Nat} {r : Run} : hullMeets h r = true ↔ h.1 ≤ r.c1 + 1 ∧ r.c0 ≤ h.2 + 1 := by
  simp [hullMeets]

theorem qualifies_opened {l : Nat} {r : Run} {b : Blob} : qualifies l r (.opened b) = true ↔
    ∃ h, b.prev = some h ∧ b.polarity = r.polarity ∧ l ≤ b.last + b.gap + 1 ∧ h.1 ≤ r.c1 + 1 ∧ r.c0 ≤ h.2 + 1 := by
  cases hp : b.prev with
  | none => simp [qualifies, hp]
  | some h => simp [qualifies, hp, hullMeets_iff, and_assoc]

theorem qualifies_stub {l : Nat} {r : Run} {t : Stub} : qualifies l r (.stub t) = true ↔
    t.polarity = r.polarity ∧ l ≤ t.last + t.gap + 1 ∧ t.prev.1 ≤ r.c1 + 1 ∧ r.c0 ≤ t.prev.2 + 1 := by
  simp [qualifies, hullMeets_iff, and_assoc]

theorem qualifies_iff {l : Nat} {r : Run} {e : BlobEntry} : qualifies l r e = true ↔
    (∃ b h, e = .opened b ∧ b.prev = some h ∧ b.polarity = r.polarity ∧ l ≤ b.last + b.gap + 1 ∧ h.1 ≤ r.c1 + 1 ∧
      r.c0 ≤ h.2 + 1) ∨
    ∃ t, e = .stub t ∧ t.polarity = r.polarity ∧ l ≤ t.last + t.gap + 1 ∧ t.prev.1 ≤ r.c1 + 1 ∧ r.c0 ≤ t.prev.2 + 1 := by
  cases e with
  | free => simp [qualifies]
  | opened b => simp [qualifies_opened]
  | stub t => simp [qualifies_stub]

/-! ### Tables with one or two entries that qualify -/

/-- No entry of the table qualifies. -/
def Others (l : Nat) (r : Run) (es : List BlobEntry) : Prop := ∀ e ∈ es, qualifies l r e = false

section
variable {l : Nat} {r : Run} {pre mid post : List BlobEntry} {e e1 e2 : BlobEntry}

theorem Others.append : Others l r (pre ++ post) ↔ Others l r pre ∧ Others l r post := List.forall_mem_append

theorem Others.filter (h : Others l r pre) : pre.filter (qualifies l r) = [] := by
  rw [List.filter_eq_nil_iff]
  intro e he
  rw [h e he]
  exact Bool.false_ne_true

theorem filter_one (h : Others l r (pre ++ post)) (hq : qualifies l r e = true) :
    (pre ++ e :: post).filter (qualifies l r) = [e] := by
  obtain ⟨before, after⟩ := Others.append.mp h
  rw [List.filter_append, List.filter_cons_of_pos hq, before.filter, after.filter, List.nil_append]

theorem filter_two (h : Others l r (pre ++ mid ++ post)) (h1 : qualifies l r e1 = true) (h2 : qualifies l r e2 = true) :
    (pre ++ e1 :: (mid ++ e2 :: post)).filter (qualifies l r) = [e1, e2] := by
  obtain ⟨early, after⟩ := Others.append.mp h
  obtain ⟨before, between⟩ := Others.append.mp early
  rw [List.filter_append, before.filter, List.filter_cons_of_pos h1, filter_one (Others.append.mpr ⟨between, after⟩) h2,
    List.nil_append]

/-- An update of the entries that qualify, and of no other. -/
def updated (l : Nat) (r : Run) (f : BlobEntry → BlobEntry) (e : BlobEntry) : BlobEntry := if qualifies l r e then f e else e

theorem updated_of_qualifies (f : BlobEntry → BlobEntry) (h : qualifies l r e = true) : updated l r f e = f e := if_pos h

theorem Others.map (h : Others l r pre) (f : BlobEntry → BlobEntry) : pre.map (updated l r f) = pre := by
  conv_rhs => rw [← List.map_id pre]
  refine List.map_congr_left fun e he => if_neg ?_
  rw [h e he]
  exact Bool.false_ne_true

theorem map_one (h : Others l r (pre ++ post)) (hq : qualifies l r e = true) (f : BlobEntry → BlobEntry) :
    (pre ++ e :: post).map (updated l r f) = pre ++ f e :: post := by
  obtain ⟨before, after⟩ := Others.append.mp h
  rw [List.map_append, List.map_cons, updated_of_qualifies f hq, before.map, after.map]

theorem map_two (h : Others l r (pre ++ mid ++ post)) (h1 : qualifies l r e1 = true) (h2 : qualifies l r e2 = true)
    (f : BlobEntry → BlobEntry) :
    (pre ++ e1 :: (mid ++ e2 :: post)).map (updated l r f) = pre ++ f e1 :: (mid ++ f e2 :: post) := by
  obtain ⟨early, after⟩ := Others.append.mp h
  obtain ⟨before, between⟩ := Others.append.mp early
  rw [List.map_append, List.map_cons, updated_of_qualifies f h1, before.map,
    map_one (Others.append.mpr ⟨between, after⟩) h2]

end

/-! ### What becomes of the entries -/

/-- The survivor's entry holds the merged blob, joined by the run; the other entries that qualify are freed (R66, R67). -/
def joinedEntry (r : Run) (num : Nat) (merged : Blob) : BlobEntry → BlobEntry
  | .opened o => if o.num = num then .opened (joinRun r merged) else .free
  | _ => .free

theorem joinedEntry_survivor (r : Run) (a merged : Blob) :
    joinedEntry r a.num merged (.opened a) = .opened (joinRun r merged) := if_pos rfl

theorem joinedEntry_other (r : Run) (merged : Blob) {a b : Blob} (h : a.num < b.num) :
    joinedEntry r a.num merged (.opened b) = .free := if_neg h.ne'

theorem joinedEntry_stub (r : Run) (n : Nat) (merged : Blob) (t : Stub) : joinedEntry r n merged (.stub t) = .free := rfl

/-- The stub's entry holds the blob that continues it; the other entries that qualify are freed (R70). -/
def continuedEntry (num : Nat) (b : Blob) : BlobEntry → BlobEntry
  | .stub o => if o.num = num then .opened b else .free
  | _ => .free

/-- The blob that a run opens, under the profile of its first column (R68). -/
def freshBlob (m : LaneMap) (l : Nat) (r : Run) (j : JoinState) : Blob :=
  openBlob j.nextBlob l r (columnProfile m r.c0) (profile m (columnProfile m r.c0)).gap

section
variable {l : Nat} {r : Run} {j : JoinState} (m : LaneMap)

/-- With OPEN blobs that qualify, the lowest-numbered survives, merged with the other entries that do (R66, R67). -/
theorem takeRun_of_open {hits : List BlobEntry} (hh : j.table.filter (qualifies l r) = hits) {b : Blob}
    (h : lowestOpen hits = some b) : takeRun m l r j =
      { j with table := j.table.map (updated l r (joinedEntry r b.num (hits.foldl mergeEntry b))) } := by
  subst hh
  simp only [takeRun, h]
  rfl

/-- With STUBs alone, the lowest-numbered is continued by a new blob (R70). -/
theorem takeRun_of_stub {hits : List BlobEntry} (hh : j.table.filter (qualifies l r) = hits) {t : Stub}
    (ho : lowestOpen hits = none) (h : lowestStub hits = some t) : takeRun m l r j =
      { j with
        nextBlob := j.nextBlob + 1
        table := j.table.map (updated l r (continuedEntry t.num
          { freshBlob m l r j with last := t.last, prev := some t.prev, continuation := true })) } := by
  subst hh
  simp only [takeRun, ho, h]
  rfl

/-- With no entry that qualifies, a blob is opened in the first FREE entry (R68). -/
theorem takeRun_of_free (h : Others l r j.table) {k : Nat} (free : j.table.findIdx? (· == .free) = some k) :
    takeRun m l r j = { j with nextBlob := j.nextBlob + 1, table := j.table.set k (.opened (freshBlob m l r j)) } := by
  simp only [takeRun, h.filter, lowestOpen, lowestStub, free]
  rfl

/-- With neither an entry that qualifies nor a FREE one, the run is dropped (R68). -/
theorem takeRun_of_full (h : Others l r j.table) (full : j.table.findIdx? (· == .free) = none) :
    takeRun m l r j = { j with dropped := j.dropped ++ [r] } := by
  simp only [takeRun, h.filter, lowestOpen, lowestStub, full]

end

/-! ### Merging -/

/-- A blob merged with itself is as it was. -/
theorem mergeEntry_self {a b : Blob} (h : a.num = b.num) : mergeEntry b (.opened a) = b := if_pos h

theorem mergeEntry_opened {a b : Blob} (h : a.num < b.num) : mergeEntry a (.opened b) = mergedBlob a b := if_neg h.ne'

/-- A STUB merged makes the blob a continuation (R67). -/
theorem mergeEntry_stub (b : Blob) (t : Stub) : mergeEntry b (.stub t) = { b with continuation := true } := rfl

/-! ### The clauses -/

section
variable {l : Nat} {r : Run} {pre mid post : List BlobEntry} {j : JoinState} (m : LaneMap)

theorem takeRun_opens (ht : j.table = pre ++ .free :: post) (first : .free ∉ pre) (h : Others l r (pre ++ post)) :
    takeRun m l r j = { j with nextBlob := j.nextBlob + 1, table := pre ++ .opened (freshBlob m l r j) :: post } := by
  obtain ⟨before, after⟩ := Others.append.mp h
  have others : Others l r j.table := by
    rw [ht]
    exact Others.append.mpr ⟨before, List.forall_mem_cons.mpr ⟨rfl, after⟩⟩
  have none_before : pre.findIdx? (· == .free) = none := by
    rw [List.findIdx?_eq_none_iff]
    exact fun e he => beq_false_of_ne fun free => first (free ▸ he)
  have place : j.table.findIdx? (· == .free) = some pre.length := by
    rw [ht, List.findIdx?_append, none_before, List.findIdx?_cons, if_pos (beq_self_eq_true _)]
    simp
  rw [takeRun_of_free m others place, ht, List.set_append_right _ _ le_rfl, Nat.sub_self, List.set_cons_zero]

theorem takeRun_drops (full : .free ∉ j.table) (h : Others l r j.table) :
    takeRun m l r j = { j with dropped := j.dropped ++ [r] } := by
  refine takeRun_of_full m h ?_
  rw [List.findIdx?_eq_none_iff]
  exact fun e he => beq_false_of_ne fun free => full (free ▸ he)

theorem takeRun_joins {b : Blob} (ht : j.table = pre ++ .opened b :: post) (hq : qualifies l r (.opened b) = true)
    (h : Others l r (pre ++ post)) :
    takeRun m l r j = { j with table := pre ++ .opened (joinRun r b) :: post } := by
  have hits : j.table.filter (qualifies l r) = [.opened b] := by rw [ht, filter_one h hq]
  rw [takeRun_of_open m hits rfl, ht, map_one h hq, joinedEntry_survivor, List.foldl_cons, List.foldl_nil,
    mergeEntry_self rfl]

/-- Two entries that qualify, the survivor `b` among them: it holds the merged blob, and the other is freed. -/
theorem takeRun_merges {e1 e2 : BlobEntry} {b merged : Blob} (ht : j.table = pre ++ e1 :: (mid ++ e2 :: post))
    (h1 : qualifies l r e1 = true) (h2 : qualifies l r e2 = true) (h : Others l r (pre ++ mid ++ post))
    (low : lowestOpen [e1, e2] = some b) (hm : mergeEntry (mergeEntry b e1) e2 = merged) :
    takeRun m l r j =
      { j with table := pre ++ joinedEntry r b.num merged e1 :: (mid ++ joinedEntry r b.num merged e2 :: post) } := by
  have hits : j.table.filter (qualifies l r) = [e1, e2] := by rw [ht, filter_two h h1 h2]
  rw [takeRun_of_open m hits low, List.foldl_cons, List.foldl_cons, List.foldl_nil, hm, ht, map_two h h1 h2]

theorem takeRun_continues {t : Stub} (ht : j.table = pre ++ .stub t :: post) (hq : qualifies l r (.stub t) = true)
    (h : Others l r (pre ++ post)) : takeRun m l r j = { j with
      nextBlob := j.nextBlob + 1
      table := pre ++ .opened { freshBlob m l r j with last := t.last, prev := some t.prev, continuation := true } :: post } := by
  have hits : j.table.filter (qualifies l r) = [.stub t] := by rw [ht, filter_one h hq]
  rw [takeRun_of_stub m hits rfl rfl, ht, map_one h hq, continuedEntry, if_pos rfl]

end

end Sys2Proof.Machine

open Sys2Proof Sys2Proof.Machine

/-- Settles O19: the runs of a line, those that are kept, and a run taken by each kind of table. -/
theorem runsAreMaximal : Obligations.RunsAreMaximal := by
  unfold Obligations.RunsAreMaximal
  refine ⟨fun marks => ⟨fun r hr => ?_, fun c pol g hc => ?_⟩, fun lanes line d h => linePass_runs lanes h, ?take⟩
  · obtain ⟨⟨ordered, flagged, first⟩, ends⟩ := formRuns_maximal atHand_nil marks r hr
    exact ⟨ordered, flagged, ends, first⟩
  · exact formRuns_holds atHand_nil (.inr ⟨Nat.zero_le _, g, hc⟩)
  case take =>
    intro m l r j
    refine ⟨fun e => qualifies_iff, fun pre post => takeRun_opens m, takeRun_drops m,
      fun pre post b ht hq h => ?_, fun pre mid post a b hn ha hb h => ⟨fun ht => ?_, fun ht => ?_⟩,
      fun pre mid post b t hb hs h => ⟨fun ht => ?_, fun ht => ?_⟩,
      fun pre post t => takeRun_continues m⟩
    · rw [takeRun_joins m ht hq h, joinRun]
      cases b.cur <;> rfl
    · have merged : mergeEntry (mergeEntry a (.opened a)) (.opened b) = mergedBlob a b := by
        rw [mergeEntry_self rfl, mergeEntry_opened hn]
      rw [takeRun_merges m ht ha hb h (if_neg hn.asymm) merged, joinedEntry_survivor, joinedEntry_other r _ hn]
    · have merged : mergeEntry (mergeEntry a (.opened b)) (.opened a) = mergedBlob a b := by
        rw [mergeEntry_opened hn]
        exact mergeEntry_self rfl
      rw [takeRun_merges m ht hb ha h (if_pos hn) merged, joinedEntry_survivor, joinedEntry_other r _ hn]
    · have merged : mergeEntry (mergeEntry b (.opened b)) (.stub t) = { b with continuation := true } := by
        rw [mergeEntry_self rfl, mergeEntry_stub]
      rw [takeRun_merges m ht hb hs h rfl merged, joinedEntry_survivor, joinedEntry_stub]
    · have merged : mergeEntry (mergeEntry b (.stub t)) (.opened b) = { b with continuation := true } := mergeEntry_self rfl
      rw [takeRun_merges m ht hs hb h rfl merged, joinedEntry_survivor, joinedEntry_stub]
end

section
/-! SUPPORT. The flaw list (R80 to R82) and the routing of a flaw (R77, R78), and what the operations on flaws keep: the flaw list's invariant, the blob table and the dense zone (`FlawFrame`). -/

namespace Sys2Proof.Machine

/-- The invariant speaks of the scheduler's activity, S, the flaw list and the overflow zone. -/
theorem FlawListInv.congr {s t : State} (i : FlawListInv s)
    (h : (t.sched.active, t.sched.start, t.sched.flaws, t.sched.zone) =
      (s.sched.active, s.sched.start, s.sched.flaws, s.sched.zone)) : FlawListInv t := by
  simp only [Prod.mk.injEq] at h
  obtain ⟨active, start, flaws, zone⟩ := h
  rwa [FlawListInv, active, start, flaws, zone]

theorem LogFrame.flawListInv {s t : State} (h : LogFrame s t) (i : FlawListInv s) : FlawListInv t :=
  i.congr (by rw [h.sched])

/-- A `PlateFrame` that leaves the blob table and the dense zone alone and keeps the flaw list's invariant. -/
structure FlawFrame (s t : State) : Prop where
  plate : PlateFrame s t
  table : t.blobs.table = s.blobs.table
  dense : t.blobs.dense = s.blobs.dense
  flaws : FlawListInv s → FlawListInv t

theorem FlawFrame.refl (s : State) : FlawFrame s s := ⟨.refl s, rfl, rfl, id⟩

theorem FlawFrame.trans {s t u : State} (h : FlawFrame s t) (k : FlawFrame t u) : FlawFrame s u :=
  ⟨h.plate.trans k.plate, k.table.trans h.table, k.dense.trans h.dense, k.flaws ∘ h.flaws⟩

/-- A choice between two updates in the frame. -/
theorem FlawFrame.ite {s t u : State} {p : Prop} [Decidable p] (h : FlawFrame s t) (k : FlawFrame s u) :
    FlawFrame s (if p then t else u) := by
  split
  · exact h
  · exact k

theorem FlawFrame.foldl {α : Type} {f : State → α → State} (h : ∀ s a, FlawFrame s (f s a)) (l : List α) (s : State) :
    FlawFrame s (l.foldl f s) := by
  induction l generalizing s with
  | nil => exact .refl s
  | cons a l ih => exact (h s a).trans (ih _)

/-- The flaw list, S, the activity, the blob table and the dense zone stay as they are. -/
theorem FlawFrame.same {s t : State} (plate : PlateFrame s t)
    (h : (t.sched.active, t.sched.start, t.sched.flaws, t.sched.zone) =
      (s.sched.active, s.sched.start, s.sched.flaws, s.sched.zone))
    (b : (t.blobs.table, t.blobs.dense) = (s.blobs.table, s.blobs.dense)) : FlawFrame s t := by
  obtain ⟨table, dense⟩ := Prod.mk.inj b
  exact ⟨plate, table, dense, fun i => i.congr h⟩

theorem LogFrame.flaw {s t : State} (h : LogFrame s t) : FlawFrame s t := .same h.plate (by rw [h.sched]) (by rw [h.blobs])

/-! ### The flaw list (R80 to R82) -/

/-- A flaw goes behind every entry that begins no later (R80). -/
theorem insertFlaw_append {f : ListedFlaw} {pre post : List ListedFlaw} (before : ∀ g ∈ pre, g.y0 ≤ f.y0)
    (after : ∀ g ∈ post.head?, f.y0 < g.y0) : insertFlaw f (pre ++ post) = pre ++ f :: post := by
  induction pre with
  | nil =>
    cases post with
    | nil => rfl
    | cons g gs => exact if_neg (Nat.not_le.mpr (after g rfl))
  | cons g gs ih =>
    obtain ⟨first, rest⟩ := List.forall_mem_cons.mp before
    rw [List.cons_append, insertFlaw, if_pos first, ih rest, List.cons_append]

theorem mem_insertFlaw {f g : ListedFlaw} {fs : List ListedFlaw} : g ∈ insertFlaw f fs ↔ g = f ∨ g ∈ fs := by
  induction fs with
  | nil => simp [insertFlaw]
  | cons h hs ih =>
    unfold insertFlaw
    split
    · simp [ih, or_left_comm]
    · simp

theorem insertFlaw_pairwise {f : ListedFlaw} {fs : List ListedFlaw} (h : fs.Pairwise (fun f g => f.y0 ≤ g.y0)) :
    (insertFlaw f fs).Pairwise (fun f g => f.y0 ≤ g.y0) := by
  induction fs with
  | nil => exact List.pairwise_singleton _ _
  | cons g gs ih =>
    obtain ⟨first, rest⟩ := List.pairwise_cons.mp h
    unfold insertFlaw
    split
    · rename_i le
      refine List.pairwise_cons.mpr ⟨fun x hx => ?_, ih rest⟩
      obtain rfl | old := mem_insertFlaw.mp hx
      · exact le
      · exact first x old
    · rename_i lt
      refine List.pairwise_cons.mpr ⟨fun x hx => ?_, h⟩
      obtain rfl | old := List.mem_cons.mp hx
      · omega
      · have := first x old
        omega

section
variable {s : State} {f : ListedFlaw}

theorem submitFlaw_of_room (h : s.sched.flaws.length < 128) :
    submitFlaw f s = { s with sched := { s.sched with flaws := insertFlaw f s.sched.flaws } } := if_pos h

theorem submitFlaw_of_zone (h : 128 ≤ s.sched.flaws.length) {z : Zone} (hz : s.sched.zone = some z) :
    submitFlaw f s = { s with sched := { s.sched with
      zone := some { y0 := min z.y0 f.y0, y1 := max z.y1 f.y1, c0 := min z.c0 f.c0, c1 := max z.c1 f.c1, spent := false } } } := by
  have full : ¬ s.sched.flaws.length < Config.flawPlaces := Nat.not_lt.mpr h
  rw [submitFlaw, if_neg full, hz]

theorem submitFlaw_of_full (h : 128 ≤ s.sched.flaws.length) (hz : s.sched.zone = none) :
    submitFlaw f s = issueEvent .pendingFull [f.num, f.y0, f.y1]
      { s with sched := { s.sched with zone := some { y0 := f.y0, y1 := f.y1, c0 := f.c0, c1 := f.c1, spent := false } } } := by
  have full : ¬ s.sched.flaws.length < Config.flawPlaces := Nat.not_lt.mpr h
  rw [submitFlaw, if_neg full, hz]

end

/-- The active scheduler takes a flaw that ends at or beyond S (R80, R81). -/
theorem submitFlaw_flaws {f : ListedFlaw} {s : State} (active : s.sched.active = true) (reaches : s.sched.start ≤ f.y1)
    (i : FlawListInv s) : FlawListInv (submitFlaw f s) := by
  obtain ⟨order, ends, zone, -⟩ := i
  have on {p : Prop} : s.sched.active = false → p := fun off => by rw [active] at off; cases off
  by_cases room : s.sched.flaws.length < 128
  · rw [submitFlaw_of_room room]
    refine ⟨insertFlaw_pairwise order, fun g hg => ?_, zone, on⟩
    obtain rfl | old := mem_insertFlaw.mp hg
    · exact reaches
    · exact ends g old
  · have full := Nat.le_of_not_lt room
    cases hz : s.sched.zone with
    | none =>
      rw [submitFlaw_of_full full hz]
      refine (issueEvent_logFrame _ _ _).flawListInv ⟨order, ends, fun z hz => ?_, on⟩
      obtain rfl := Option.some.inj hz
      exact reaches
    | some z =>
      rw [submitFlaw_of_zone full hz]
      refine ⟨order, ends, fun z' hz' => ?_, on⟩
      obtain rfl := Option.some.inj hz'
      exact le_max_of_le_right reaches

theorem submitFlaw_blobs (f : ListedFlaw) (s : State) : (submitFlaw f s).blobs = s.blobs := by
  unfold submitFlaw
  split
  · rfl
  · split
    · rfl
    · exact (issueEvent_logFrame _ _ _).blobs

/-! ### Routing (R78) -/

theorem startCopy_blobs (k n c0 c1 y0 : Nat) (s : State) : (startCopy k n c0 c1 y0 s).blobs = s.blobs := by
  have pins (l : List CapStream) (c : Copy) : ∀ t : State,
      (l.foldl (fun s cs => pinDirectory c cs s) t).blobs = t.blobs := by
    induction l with
    | nil => exact fun _ => rfl
    | cons cs l ih => exact fun t => (ih _).trans rfl
  exact pins _ _ _

theorem offerCapture_blobs (f : Flaw) (s : State) : (offerCapture f s).2.blobs = s.blobs := by
  unfold offerCapture
  split
  · split
    · exact startCopy_blobs ..
    · rfl
  · rfl

/-- A flaw's record and tally, with the answer of the Capture Engine (R78, steps 1 to 3). -/
def flawTold (f : Flaw) (s : State) : State :=
  tallyAdd (.flaw f.cls) 1 (handGroup [.flaw (offerCapture f s).1] (offerCapture f s).2)

theorem flawTold_plateFrame (f : Flaw) (s : State) : PlateFrame s (flawTold f s) :=
  ((offerCapture_plateFrame f s).trans (handGroup_logFrame _ _).plate).trans (tallyAdd_logFrame _ _ _).plate

theorem flawTold_sched (f : Flaw) (s : State) : (flawTold f s).sched = s.sched :=
  (handGroup_logFrame _ _).sched.trans (offerCapture_sched f s)

theorem flawTold_blobs (f : Flaw) (s : State) : (flawTold f s).blobs = s.blobs :=
  (handGroup_logFrame _ _).blobs.trans (offerCapture_blobs f s)

/-- The Capture Engine's answer is all that it changes in a flaw (R78). -/
theorem offerCapture_answer (f : Flaw) (s : State) : ∃ a n k,
    (offerCapture f s).1 = { f with assigned := a, notCaptured := n, capSlot := k } := by
  unfold offerCapture
  split
  · split
    · exact ⟨_, _, _, rfl⟩
    · exact ⟨_, _, _, rfl⟩
  · exact ⟨_, _, _, rfl⟩

/-- The flaw list's entry carries nothing of the Capture Engine's answer. -/
theorem offerCapture_listed (f : Flaw) (s : State) : (offerCapture f s).1.listed = f.listed := by
  obtain ⟨a, n, k, answer⟩ := offerCapture_answer f s
  rw [answer]
  rfl

theorem offerCapture_plates (f : Flaw) (s t : State) : offerPlates (offerCapture f s).1 t = offerPlates f t := by
  obtain ⟨a, n, k, answer⟩ := offerCapture_answer f s
  rw [answer]
  rfl

/-- The routing of a numbered flaw (R78). -/
theorem routeFlaw_eq (f : Flaw) (s : State) : routeFlaw f s =
    if outsideSale s.lanes f.c0 f.c1 then flawTold f s
    else if s.sched.active && decide (s.sched.start ≤ f.y1) then submitFlaw f.listed (offerPlates f (flawTold f s))
    else offerPlates f (flawTold f s) := by
  have lanes := (flawTold_plateFrame f s).lanes
  have sched := flawTold_sched f s
  unfold routeFlaw
  dsimp only
  rw [offerCapture_plates, offerCapture_listed]
  change (if outsideSale (flawTold f s).lanes f.c0 f.c1 then flawTold f s
    else if (flawTold f s).sched.active && decide ((flawTold f s).sched.start ≤ f.y1)
      then submitFlaw f.listed (offerPlates f (flawTold f s)) else offerPlates f (flawTold f s)) = _
  rw [lanes, sched]

theorem routeFlaw_blobs (f : Flaw) (s : State) : (routeFlaw f s).blobs = s.blobs := by
  rw [routeFlaw_eq]
  split
  · exact flawTold_blobs f s
  · split
    · exact (submitFlaw_blobs _ _).trans (flawTold_blobs f s)
    · exact flawTold_blobs f s

theorem routeFlaw_flaws (f : Flaw) (s : State) (i : FlawListInv s) : FlawListInv (routeFlaw f s) := by
  have told : FlawListInv (flawTold f s) := by rwa [FlawListInv, flawTold_sched]
  have offered : FlawListInv (offerPlates f (flawTold f s)) := told
  rw [routeFlaw_eq]
  split
  · exact told
  · split
    · rename_i taken
      simp only [Bool.and_eq_true, decide_eq_true_eq] at taken
      obtain ⟨active, reaches⟩ := taken
      rw [← flawTold_sched f s] at active reaches
      exact submitFlaw_flaws active reaches offered
    · exact offered

/-- Of the Blob Tracker a closing flaw changes the next flaw number alone (R77). -/
theorem raiseFlaw_blobs (f : Flaw) (s : State) : ∃ n, (raiseFlaw f s).blobs = { s.blobs with nextFlaw := n } :=
  ⟨_, routeFlaw_blobs _ _⟩

theorem raiseFlaw_flawFrame (f : Flaw) (s : State) : FlawFrame s (raiseFlaw f s) := by
  obtain ⟨n, blobs⟩ := raiseFlaw_blobs f s
  exact ⟨raiseFlaw_plateFrame f s, by rw [blobs], by rw [blobs], fun i => routeFlaw_flaws _ _ i⟩

theorem raiseFlaws_flawFrame (fs : List Flaw) (s : State) : FlawFrame s (raiseFlaws fs s) :=
  .foldl (fun s f => raiseFlaw_flawFrame f s) fs s

end Sys2Proof.Machine
end

section
/-! SUPPORT. The Blob Tracker's act over a line (R64): its runs, the closing of blobs, the dense zone and the gap zones, and what
they keep of the flaw list and the blobs. -/

namespace Sys2Proof.Machine

/-! ### The gap zones -/

theorem closeBlob_flawFrame (s : State) (x : Blob × Bool) : FlawFrame s (closeBlob s x) := by
  unfold closeBlob
  exact .ite (tallyAdd_logFrame _ _ s).flaw (raiseFlaw_flawFrame _ s)

theorem setGap_flawFrame (g : Nat) (z : Option GapZone) (s : State) : FlawFrame s (setGap g z s) :=
  .same (setGap_plateFrame g z s) rfl rfl

theorem takeCoverage_flawFrame (l g : Nat) (u : Bool) (s : State) : FlawFrame s (takeCoverage l g u s) := by
  unfold takeCoverage
  split
  · exact .ite (setGap_flawFrame _ _ s) (.refl s)
  · refine .ite (setGap_flawFrame _ _ s) ?_
    split
    · exact (setGap_flawFrame _ _ s).trans (raiseFlaw_flawFrame _ _)
    · exact setGap_flawFrame _ _ s

theorem takeCoverages_flawFrame (l g : Nat) (us : List Bool) (s : State) : FlawFrame s (takeCoverages l g us s) := by
  induction us generalizing g s with
  | nil => exact .refl s
  | cons u us ih => exact (takeCoverage_flawFrame l g u s).trans (ih _ _)

theorem splitGaps_flawFrame (c : Nat) (a : Bool) (s : State) : FlawFrame s (splitGaps c a s).2 := by
  refine FlawFrame.foldl (fun t g => ?_) _ s
  split
  · exact setGap_flawFrame _ _ t
  · exact .refl t

theorem takeSplits_flawFrame (l : Nat) (s : State) : FlawFrame s (takeSplits l s) := by
  have taken : FlawFrame s { s with blobs := { s.blobs with splits := s.blobs.splits.filter (fun c => c != l + 1) } } :=
    .same (.ofBlobs s _) rfl rfl
  unfold takeSplits
  exact taken.trans (.foldl (fun s c => (splitGaps_flawFrame c false s).trans (raiseFlaws_flawFrame _ _)) _ _)

/-! ### The dense zone (R72, R73) -/

theorem hullJoin_some_left (a : Nat × Nat) (b : Option (Nat × Nat)) : hullJoin (some a) b ≠ none := by
  cases b with
  | none => exact nofun
  | some b => exact nofun

theorem hullJoin_some_right (a : Option (Nat × Nat)) (b : Nat × Nat) : hullJoin a (some b) ≠ none := by
  cases a with
  | none => exact nofun
  | some a => exact nofun

theorem hullJoin_eq_none {a b : Option (Nat × Nat)} (h : hullJoin a b = none) : a = none ∧ b = none := by
  cases a with
  | none => exact ⟨rfl, h⟩
  | some a => exact absurd h (hullJoin_some_left a b)

theorem droppedHull_cons (r : Run) (rs : List Run) : droppedHull (r :: rs) ≠ none := hullJoin_some_left _ _

/-- The hull of dropped runs: their least and their greatest column. -/
theorem droppedHull_spec {rs : List Run} {h : Nat × Nat} (e : droppedHull rs = some h) :
    (∀ r ∈ rs, h.1 ≤ r.c0 ∧ r.c1 ≤ h.2) ∧ (∃ r ∈ rs, r.c0 = h.1) ∧ ∃ r ∈ rs, r.c1 = h.2 := by
  induction rs generalizing h with
  | nil => cases e
  | cons r rs ih =>
    rw [droppedHull] at e
    cases rest : droppedHull rs with
    | none =>
      rw [rest] at e
      obtain rfl := Option.some.inj e
      have last : rs = [] := by
        cases rs with
        | nil => rfl
        | cons x xs => exact absurd rest (droppedHull_cons x xs)
      subst last
      simp
    | some k =>
      rw [rest] at e
      obtain rfl := Option.some.inj e
      obtain ⟨within, ⟨a, ha, least⟩, b, hb, greatest⟩ := ih rest
      refine ⟨fun x hx => ?_, ?_, ?_⟩
      · obtain rfl | old := List.mem_cons.mp hx
        · exact ⟨min_le_left _ _, le_max_left _ _⟩
        · exact ⟨min_le_of_right_le (within x old).1, le_max_of_le_right (within x old).2⟩
      · rcases min_choice r.c0 k.1 with left | right
        · exact ⟨r, List.mem_cons_self, left.symm⟩
        · exact ⟨a, List.mem_cons_of_mem _ ha, least.trans right.symm⟩
      · rcases max_choice r.c1 k.2 with left | right
        · exact ⟨r, List.mem_cons_self, left.symm⟩
        · exact ⟨b, List.mem_cons_of_mem _ hb, greatest.trans right.symm⟩

theorem droppedHull_eq_some {rs : List Run} {c0 c1 : Nat} (within : ∀ r ∈ rs, c0 ≤ r.c0 ∧ r.c1 ≤ c1)
    (least : ∃ r ∈ rs, r.c0 = c0) (greatest : ∃ r ∈ rs, r.c1 = c1) : droppedHull rs = some (c0, c1) := by
  obtain ⟨a, ha, ea⟩ := least
  obtain ⟨b, hb, eb⟩ := greatest
  cases e : droppedHull rs with
  | none =>
    cases rs with
    | nil => cases ha
    | cons x xs => exact absurd e (droppedHull_cons x xs)
  | some h =>
    obtain ⟨covers, ⟨a', ha', ea'⟩, b', hb', eb'⟩ := droppedHull_spec e
    have hleast := covers a ha
    have hgreatest := covers b hb
    have wleast := within a' ha'
    have wgreatest := within b' hb'
    have first : h.1 = c0 := by omega
    have last : h.2 = c1 := by omega
    rw [← first, ← last]

/-- An open dense zone lies up to line `l`. -/
def DenseZone.UpTo (l : Nat) (d : DenseZone) : Prop := d.y0 ≤ d.y1 ∧ d.y1 ≤ l

/-- Dropped runs change the dense zone and the mark, and the zone comes up to the line (R72). -/
theorem feedDense_frame (l : Nat) (dropped : List Run) (overflow : Bool) (s : State) :
    ∃ d m, LogFrame { s with blobs := { s.blobs with dense := d, mark := m } } (feedDense l dropped overflow s) ∧
      ((∀ z ∈ s.blobs.dense, z.UpTo l) → ∀ z ∈ d, z.UpTo l) := by
  unfold feedDense
  cases droppedHull dropped with
  | none => exact ⟨s.blobs.dense, s.blobs.mark, .refl _, id⟩
  | some hull =>
    dsimp only
    cases zone : s.blobs.dense with
    | none =>
      refine ⟨_, none, issueEvent_logFrame _ _ _, fun _ z hz => ?_⟩
      obtain rfl := Option.some.inj hz
      exact ⟨le_rfl, le_rfl⟩
    | some d =>
      refine ⟨_, s.blobs.mark, .refl _, fun h z hz => ?_⟩
      obtain rfl := Option.some.inj hz
      obtain ⟨ordered, below⟩ := h d rfl
      exact ⟨ordered.trans below, le_rfl⟩

theorem feedDense_flaws (l : Nat) (dropped : List Run) (overflow : Bool) {s : State} (i : FlawListInv s) :
    FlawListInv (feedDense l dropped overflow s) := by
  obtain ⟨d, m, fed, -⟩ := feedDense_frame l dropped overflow s
  exact fed.flawListInv i

theorem feedDense_table (l : Nat) (dropped : List Run) (overflow : Bool) (s : State) :
    (feedDense l dropped overflow s).blobs.table = s.blobs.table := by
  obtain ⟨d, m, fed, -⟩ := feedDense_frame l dropped overflow s
  rw [fed.blobs]

theorem feedDense_upTo (l : Nat) (dropped : List Run) (overflow : Bool) {s : State} (h : ∀ z ∈ s.blobs.dense, z.UpTo l) :
    ∀ z ∈ (feedDense l dropped overflow s).blobs.dense, z.UpTo l := by
  obtain ⟨d, m, fed, upTo⟩ := feedDense_frame l dropped overflow s
  rw [fed.blobs]
  exact upTo h

/-- At the end of the line the dense zone closes, or stays shorter than 4096 lines (R73). -/
theorem testDense_frame (l : Nat) (s : State) :
    ∃ d m, FlawFrame { s with blobs := { s.blobs with dense := d, mark := m } } (testDense l s) ∧
      ∀ z ∈ d, z ∈ s.blobs.dense ∧ z.y1 + 1 < z.y0 + Config.lengthLimit := by
  unfold testDense
  cases zone : s.blobs.dense with
  | none => exact ⟨s.blobs.dense, s.blobs.mark, .refl _, fun z hz => by rw [zone] at hz; cases hz⟩
  | some d =>
    dsimp only
    split
    · exact ⟨none, _, raiseFlaw_flawFrame _ _, fun z hz => by cases hz⟩
    · rename_i short
      split
      · exact ⟨none, _, raiseFlaw_flawFrame _ _, fun z hz => by cases hz⟩
      · refine ⟨s.blobs.dense, s.blobs.mark, .refl _, fun z hz => ?_⟩
        rw [zone] at hz
        obtain rfl := Option.some.inj hz
        exact ⟨rfl, Nat.lt_of_not_le short⟩

theorem testDense_flaws (l : Nat) {s : State} (i : FlawListInv s) : FlawListInv (testDense l s) := by
  obtain ⟨d, m, tested, -⟩ := testDense_frame l s
  exact tested.flaws i

theorem testDense_table (l : Nat) (s : State) : (testDense l s).blobs.table = s.blobs.table := by
  obtain ⟨d, m, tested, -⟩ := testDense_frame l s
  exact tested.table

theorem testDense_short {l : Nat} {s : State} {z : DenseZone} (h : z ∈ (testDense l s).blobs.dense) :
    z ∈ s.blobs.dense ∧ z.y1 + 1 < z.y0 + Config.lengthLimit := by
  obtain ⟨d, m, tested, short⟩ := testDense_frame l s
  rw [tested.dense] at h
  exact short z h

/-! ### Runs and blobs (R65 to R70) -/

/-- An OPEN blob on line `l`, its runs of the line taken: it begins at or above the line, and one with none of the line's runs has
its last line there too. -/
def Blob.OnLine (l : Nat) (b : Blob) : Prop := b.y0 ≤ l ∧ (b.cur = none → b.y0 ≤ b.last ∧ b.last ≤ l)

/-- Every OPEN blob of a table is on the line. -/
def OnLine (l : Nat) (es : List BlobEntry) : Prop := ∀ b, .opened b ∈ es → b.OnLine l

theorem joinRun_onLine {l : Nat} (r : Run) {b : Blob} (h : b.OnLine l) : (joinRun r b).OnLine l :=
  ⟨h.1, fun k => absurd k (hullJoin_some_right _ _)⟩

theorem mergeEntry_onLine {l : Nat} {b : Blob} {e : BlobEntry} (h : b.OnLine l) (k : ∀ o, e = .opened o → o.OnLine l) :
    (mergeEntry b e).OnLine l := by
  cases e with
  | free => exact h
  | stub t => exact h
  | opened o =>
    obtain ⟨begins, ends⟩ := h
    obtain ⟨begins', ends'⟩ := k o rfl
    unfold mergeEntry
    dsimp only
    split
    · exact ⟨begins, ends⟩
    · refine ⟨min_le_of_left_le begins, fun none_ => ?_⟩
      obtain ⟨mine, its⟩ := hullJoin_eq_none none_
      have mine := ends mine
      have its := ends' its
      dsimp only
      omega

theorem mergeEntries_onLine {l : Nat} {es : List BlobEntry} {b : Blob} (h : b.OnLine l) (k : OnLine l es) :
    (es.foldl mergeEntry b).OnLine l := by
  induction es generalizing b with
  | nil => exact h
  | cons e es ih =>
    refine ih (mergeEntry_onLine h fun o ho => k o ?_) fun o ho => k o (List.mem_cons_of_mem _ ho)
    exact ho ▸ List.mem_cons_self

theorem lowestOpen_mem {es : List BlobEntry} {b : Blob} (h : lowestOpen es = some b) : .opened b ∈ es := by
  induction es with
  | nil => cases h
  | cons e es ih =>
    cases e with
    | free => exact List.mem_cons_of_mem _ (ih h)
    | stub t => exact List.mem_cons_of_mem _ (ih h)
    | opened o =>
      rw [lowestOpen] at h
      cases rest : lowestOpen es with
      | none =>
        rw [rest] at h
        obtain rfl := Option.some.inj h
        exact List.mem_cons_self
      | some x =>
        rw [rest] at h
        dsimp only at h
        split at h
        · exact List.mem_cons_of_mem _ (ih (rest.trans h))
        · obtain rfl := Option.some.inj h
          exact List.mem_cons_self

/-- A run is handled: the table keeps its places, and its OPEN blobs are on the line (R65 to R68, R70). -/
theorem takeRun_onLine (m : LaneMap) (l : Nat) (r : Run) {j : JoinState} (h : OnLine l j.table) :
    OnLine l (takeRun m l r j).table ∧ (takeRun m l r j).table.length = j.table.length := by
  have fresh (x : Nat) (g : Nat) : (openBlob j.nextBlob l r x g).OnLine l := ⟨le_rfl, fun k => by cases k⟩
  unfold takeRun
  dsimp only
  split
  · rename_i b lowest
    have kept : OnLine l (j.table.filter (qualifies l r)) := fun o ho => h o (List.mem_of_mem_filter ho)
    have survivor := joinRun_onLine r (mergeEntries_onLine (kept b (lowestOpen_mem lowest)) kept)
    refine ⟨fun o ho => ?_, List.length_map _⟩
    obtain ⟨e, he, result⟩ := List.mem_map.mp ho
    split at result
    · split at result
      · split at result
        · obtain rfl := BlobEntry.opened.inj result
          exact survivor
        · cases result
      · cases result
    · exact h o (result ▸ he)
  · split
    · refine ⟨fun o ho => ?_, List.length_map _⟩
      obtain ⟨e, he, result⟩ := List.mem_map.mp ho
      split at result
      · split at result
        · split at result
          · obtain rfl := BlobEntry.opened.inj result
            exact ⟨le_rfl, fun k => by cases k⟩
          · cases result
        · cases result
      · exact h o (result ▸ he)
    · split
      · refine ⟨fun o ho => ?_, List.length_set⟩
        obtain old | new := List.mem_or_eq_of_mem_set ho
        · exact h o old
        · obtain rfl := BlobEntry.opened.inj new
          exact fresh _ _
      · exact ⟨h, rfl⟩

theorem takeRuns_onLine (m : LaneMap) (l : Nat) (rs : List Run) {j : JoinState} (h : OnLine l j.table) :
    OnLine l (rs.foldl (fun j r => takeRun m l r j) j).table ∧
      (rs.foldl (fun j r => takeRun m l r j) j).table.length = j.table.length := by
  induction rs generalizing j with
  | nil => exact ⟨h, rfl⟩
  | cons r rs ih =>
    obtain ⟨kept, length⟩ := takeRun_onLine m l r h
    obtain ⟨rest, same⟩ := ih kept
    exact ⟨rest, same.trans length⟩

/-- At the end of line `l` an OPEN blob that stays open has its last line at or above it and is short (R69, R70). -/
theorem closeEntry_opened {l : Nat} {es : List BlobEntry} (h : OnLine l es) {b : Blob}
    (hb : .opened b ∈ (es.map (endLine l)).map (closeEntry l)) :
    b.y0 ≤ b.last ∧ b.last ≤ l ∧ b.last + 1 < b.y0 + Config.lengthLimit := by
  rw [List.map_map] at hb
  obtain ⟨e, he, result⟩ := List.mem_map.mp hb
  cases e with
  | free => cases result
  | stub t =>
    have out : closeEntry l (.stub t) = .opened b := result
    rw [closeEntry] at out
    split at out <;> cases out
  | opened o =>
    obtain ⟨begins, ends⟩ := h o he
    have ended : ∃ x, endLine l (.opened o) = .opened x ∧ x.y0 ≤ x.last ∧ x.last ≤ l := by
      rw [endLine]
      cases none_ : o.cur with
      | none => exact ⟨o, rfl, ends none_⟩
      | some hull => exact ⟨_, rfl, begins, le_rfl⟩
    obtain ⟨x, isOpen, ordered, below⟩ := ended
    have out : closeEntry l (.opened x) = .opened b := isOpen ▸ result
    rw [closeEntry] at out
    split at out
    · cases out
    · split at out
      · cases out
      · rename_i short
        obtain rfl := BlobEntry.opened.inj out
        have short : ¬ x.y0 + Config.lengthLimit ≤ x.last + 1 := by simpa [closesByLength] using short
        exact ⟨ordered, below, Nat.lt_of_not_le short⟩

/-! ### The act (R64) -/

/-- The table, the next blob number and the dropped runs once the buffered runs are handled. -/
def joinedRuns (l : Nat) (runs : List Run) (s : State) : JoinState :=
  runs.foldl (fun j r => takeRun s.lanes l r j) { table := s.blobs.table, nextBlob := s.blobs.nextBlob, dropped := [] }

/-- Step 1 of the act: the runs join, merge and open. -/
def runsTaken (l : Nat) (runs : List Run) (s : State) : State :=
  { s with blobs := { s.blobs with table := (joinedRuns l runs s).table, nextBlob := (joinedRuns l runs s).nextBlob } }

/-- The table at the end of line `l`. -/
def tableClosed (l : Nat) (s : State) : State :=
  { s with blobs := { s.blobs with table := (s.blobs.table.map (endLine l)).map (closeEntry l) } }

/-- Steps 3 and 4 of the act: the line is ended, and the blobs that close are told of. -/
def blobsClosed (l : Nat) (s : State) : State :=
  (closings l (s.blobs.table.map (endLine l))).foldl closeBlob (tableClosed l s)

theorem blobAct_eq (l : Nat) (runs overflow : List Run) (uncovered : List Bool) (s : State) :
    blobAct l runs overflow uncovered s = takeSplits l (takeCoverages l 0 uncovered (testDense l (blobsClosed l
      (feedDense l ((joinedRuns l runs s).dropped ++ overflow) (!overflow.isEmpty) (runsTaken l runs s))))) := rfl

theorem blobsClosed_flawFrame (l : Nat) (s : State) : FlawFrame (tableClosed l s) (blobsClosed l s) :=
  .foldl closeBlob_flawFrame _ _

/-- Steps 6 and 7 of the act leave the table and the dense zone alone. -/
theorem coverage_flawFrame (l : Nat) (uncovered : List Bool) (s : State) :
    FlawFrame s (takeSplits l (takeCoverages l 0 uncovered s)) :=
  (takeCoverages_flawFrame l 0 uncovered s).trans (takeSplits_flawFrame l _)

/-- The act over a line keeps the flaw list's invariant. -/
theorem blobAct_flaws (l : Nat) (runs overflow : List Run) (uncovered : List Bool) {s : State} (i : FlawListInv s) :
    FlawListInv (blobAct l runs overflow uncovered s) := by
  have taken : FlawListInv (runsTaken l runs s) := i
  have fed := feedDense_flaws l ((joinedRuns l runs s).dropped ++ overflow) (!overflow.isEmpty) taken
  have ended : FlawListInv (blobsClosed l _) := (blobsClosed_flawFrame l _).flaws fed
  exact (coverage_flawFrame l uncovered _).flaws (testDense_flaws l ended)

/-- The blobs and the dense zone of the line before come to those of the line (R69, R70, R73). -/
theorem blobAct_blobs (runs overflow : List Run) (uncovered : List Bool) {s : State} (i : BlobsInv s) :
    BlobsInv { blobAct (s.asm.a + 1) runs overflow uncovered s with asm := { s.asm with a := s.asm.a + 1 } } := by
  obtain ⟨length, blobs, zone⟩ := i
  have before : OnLine (s.asm.a + 1) s.blobs.table := fun b hb => by
    obtain ⟨ordered, below, -⟩ := blobs b hb
    exact ⟨by omega, fun _ => ⟨ordered, by omega⟩⟩
  have upTo : ∀ z ∈ s.blobs.dense, z.UpTo (s.asm.a + 1) := fun z hz => by
    obtain ⟨ordered, below, -⟩ := zone z hz
    exact ⟨ordered, by omega⟩
  obtain ⟨joined, places⟩ := takeRuns_onLine s.lanes (s.asm.a + 1) runs
    (j := { table := s.blobs.table, nextBlob := s.blobs.nextBlob, dropped := [] }) before
  have fed := feedDense_upTo (s.asm.a + 1) ((joinedRuns (s.asm.a + 1) runs s).dropped ++ overflow) (!overflow.isEmpty)
    (s := runsTaken (s.asm.a + 1) runs s) upTo
  have fedTable := feedDense_table (s.asm.a + 1) ((joinedRuns (s.asm.a + 1) runs s).dropped ++ overflow)
    (!overflow.isEmpty) (runsTaken (s.asm.a + 1) runs s)
  rw [blobAct_eq]
  generalize feedDense (s.asm.a + 1) ((joinedRuns (s.asm.a + 1) runs s).dropped ++ overflow) (!overflow.isEmpty)
    (runsTaken (s.asm.a + 1) runs s) = u at fed fedTable ⊢
  have closed := blobsClosed_flawFrame (s.asm.a + 1) u
  have covered := coverage_flawFrame (s.asm.a + 1) uncovered (testDense (s.asm.a + 1) (blobsClosed (s.asm.a + 1) u))
  have table : (takeSplits (s.asm.a + 1) (takeCoverages (s.asm.a + 1) 0 uncovered
      (testDense (s.asm.a + 1) (blobsClosed (s.asm.a + 1) u)))).blobs.table =
      ((joinedRuns (s.asm.a + 1) runs s).table.map (endLine (s.asm.a + 1))).map (closeEntry (s.asm.a + 1)) := by
    rw [covered.table, testDense_table, closed.table, tableClosed, fedTable, runsTaken]
  refine ⟨?_, fun b hb => closeEntry_opened joined (table ▸ hb), fun z hz => ?_⟩
  · rw [table, List.length_map, List.length_map]
    exact places.trans length
  · rw [covered.dense] at hz
    obtain ⟨old, short⟩ := testDense_short hz
    rw [closed.dense] at old
    obtain ⟨ordered, below⟩ := fed z old
    exact ⟨ordered, below, short⟩

end Sys2Proof.Machine
end

section
/-! SUPPORT. What the operations on slots, plates, tickets and captures keep of the flaws (`FlawFrame`): one lemma for each. -/

namespace Sys2Proof.Machine

/-! ### Records, slots and plates -/

theorem CopyFrame.flaw {s t : State} (h : CopyFrame s t) : FlawFrame s t := by
  rw [CopyFrame] at h
  rw [h]
  exact .same (by constructor <;> rfl) rfl rfl

/-- The scheduler's other fields. -/
theorem FlawFrame.ofSched (s : State) (x : Scheduler) (h : (x.active, x.start, x.flaws, x.zone) =
    (s.sched.active, s.sched.start, s.sched.flaws, s.sched.zone)) : FlawFrame s { s with sched := x } :=
  .same (.ofSched s x) h rfl

/-- A scheduler that keeps the flaw list's invariant. -/
theorem FlawFrame.ofFlaws (s : State) (x : Scheduler) (h : FlawListInv s → FlawListInv { s with sched := x }) :
    FlawFrame s { s with sched := x } := ⟨.ofSched s x, rfl, rfl, h⟩

/-- The Blob Tracker's other fields. -/
theorem FlawFrame.ofBlobs (s : State) (x : BlobTracker) (h : (x.table, x.dense) = (s.blobs.table, s.blobs.dense)) :
    FlawFrame s { s with blobs := x } := .same (.ofBlobs s x) rfl h

theorem modStream_flawFrame (n : Nat) (f : StreamRec → StreamRec) (s : State) : FlawFrame s (modStream n f s) :=
  .same (modStream_plateFrame ..) rfl rfl

theorem modDir_flawFrame (n k : Nat) (f : DirEntry → DirEntry) (s : State) : FlawFrame s (modDir n k f s) :=
  .same (modDir_plateFrame ..) rfl rfl

theorem modSlot_flawFrame (j : Nat) (f : SlotRec → SlotRec) (s : State) : FlawFrame s (modSlot j f s) :=
  .same (modSlot_plateFrame ..) rfl rfl

theorem modPlate_flawFrame (n : Nat) (f : Plate → Plate) (s : State) : FlawFrame s (modPlate n f s) :=
  .same (modPlate_plateFrame ..) rfl rfl

theorem unpinAll_flawFrame (s : State) : FlawFrame s (unpinAll s) :=
  .same (unpinAll_plateFrame ..) rfl rfl

theorem gradeTest_flawFrame (s : State) : FlawFrame s (gradeTest s) :=
  .same (gradeTest_plateFrame ..) rfl rfl

/-! ### Tickets -/

theorem issueNull_flawFrame (j q : Nat) (s : State) : FlawFrame s (issueNull j q s) :=
  .same (issueNull_plateFrame ..) rfl rfl

theorem trySeal_flawFrame (n : Nat) (s : State) : FlawFrame s (trySeal n s) := by
  unfold trySeal
  split
  · exact .refl s
  · dsimp only
    split
    · exact ((modSlot_flawFrame _ _ s).trans (modPlate_flawFrame _ _ _)).trans (issueOwn_logFrame _ _ _ _).flaw
    · exact .refl s

theorem pumpSeals_flawFrame (s : State) : FlawFrame s (pumpSeals s) :=
  FlawFrame.foldl (f := fun s (p : Plate) => trySeal p.num s) (fun s p => trySeal_flawFrame p.num s) _ s

theorem withdrawTicket_flawFrame (d : Bool) (p : Plate) (s : State) : FlawFrame s (withdrawTicket d p s) := by
  unfold withdrawTicket
  dsimp only
  split
  · exact (modSlot_flawFrame _ _ s).trans (modSlot_flawFrame _ _ _)
  · split
    · exact (modSlot_flawFrame _ _ s).trans (issueNull_flawFrame _ _ _)
    · exact (modSlot_flawFrame _ _ s).trans (modSlot_flawFrame _ _ _)
  · exact modSlot_flawFrame _ _ s

theorem markMissed_flawFrame (p : Plate) (s : State) : FlawFrame s (markMissed p s) :=
  (modPlate_flawFrame _ _ s).trans (issueEvent_logFrame _ _ _).flaw

/-! ### Passing (R82) -/

/-- What is left of the flaw list's invariant while S moves back: the list is ordered, and an inactive scheduler holds nothing. -/
def FlawOrder (s : State) : Prop :=
  s.sched.flaws.Pairwise (fun f g => f.y0 ≤ g.y0) ∧ (s.sched.active = false → s.sched.flaws = [] ∧ s.sched.zone = none)

theorem FlawListInv.order {s : State} (i : FlawListInv s) : FlawOrder s := by
  obtain ⟨order, -, -, off⟩ := i
  exact ⟨order, off⟩

/-- S comes to a line, and what ends before it is removed. -/
theorem FlawOrder.passed {s t : State} {x : Nat} (o : FlawOrder s)
    (h : (t.sched.active, t.sched.start, t.sched.flaws, t.sched.zone) = (s.sched.active, x,
      s.sched.flaws.filter (fun f => decide (x ≤ f.y1)), s.sched.zone.filter (fun z => decide (x ≤ z.y1)))) : FlawListInv t := by
  simp only [Prod.mk.injEq] at h
  obtain ⟨active, start, flaws, zone⟩ := h
  obtain ⟨order, off⟩ := o
  rw [FlawListInv, active, start, flaws, zone]
  refine ⟨order.filter _, fun f hf => ?_, fun z hz => ?_, fun i => ?_⟩
  · exact of_decide_eq_true (List.mem_filter.mp hf).2
  · exact of_decide_eq_true (Option.filter_eq_some_iff.mp hz).2
  · obtain ⟨none, noZone⟩ := off i
    rw [none, noZone]
    exact ⟨rfl, rfl⟩

theorem jumpUnplanned_sched (x : Nat) (s : State) : (jumpUnplanned x s).sched = { s.sched with
    start := x
    flaws := s.sched.flaws.filter (fun f => decide (x ≤ f.y1))
    zone := s.sched.zone.filter (fun z => decide (x ≤ z.y1)) } := rfl

/-- S jumps, and what ends before it is removed. -/
theorem jumpUnplanned_flaws (x : Nat) {s : State} (o : FlawOrder s) : FlawListInv (jumpUnplanned x s) := by
  refine o.passed (t := jumpUnplanned x s) (x := x) ?_
  rw [jumpUnplanned_sched]

theorem jumpUnplanned_flawFrame (x : Nat) (s : State) : FlawFrame s (jumpUnplanned x s) :=
  ⟨jumpUnplanned_plateFrame x s, rfl, rfl, fun i => jumpUnplanned_flaws x i.order⟩

/-! ### Decisions -/

theorem testRequest_flawFrame (p : Plan) (s : State) : FlawFrame s (testRequest p s) := by
  unfold testRequest
  split
  · exact .ite ((FlawFrame.ofSched s _ (by rfl)).trans (issueEvent_logFrame _ _ _).flaw) (.refl s)
  · exact .refl s

theorem splitGaps_sched (c : Nat) (a : Bool) (s : State) : (splitGaps c a s).2.sched = s.sched := by
  have gaps : ∀ (l : List Nat) (t : State), (l.foldl (fun t g => match splitGap s c a g with
      | some x => setGap g (some x.2) t
      | none => t) t).sched = t.sched := by
    intro l
    induction l with
    | nil => exact fun _ => rfl
    | cons g l ih =>
      intro t
      rw [List.foldl_cons, ih]
      split
      · rfl
      · rfl
  exact gaps _ s

theorem giveCut_sched (c : Nat) (s : State) : (giveCut c s).2.sched = s.sched := by
  unfold giveCut
  split
  · exact splitGaps_sched ..
  · rfl

theorem giveCut_flawFrame (c : Nat) (s : State) : FlawFrame s (giveCut c s).2 := by
  unfold giveCut
  split
  · exact splitGaps_flawFrame _ _ s
  · exact .ofBlobs s _ rfl

/-- A plate but for its ticket's state and its pieces' accounts. -/
def Plate.core (p : Plate) : Plate := { p with state := .decided, pieces := [] }

theorem trySeal_sched (n : Nat) (s : State) : ∃ g : Plate → Plate, (∀ p, (g p).core = p.core) ∧
    (trySeal n s).sched = { s.sched with queue := s.sched.queue.map g } := by
  have same : ∃ g : Plate → Plate, (∀ p, (g p).core = p.core) ∧ s.sched = { s.sched with queue := s.sched.queue.map g } :=
    ⟨id, fun _ => rfl, by rw [List.map_id]⟩
  unfold trySeal
  split
  · exact same
  · dsimp only
    split
    · refine ⟨_, fun p => ?_, rfl⟩
      split
      · rfl
      · rfl
    · exact same

/-- Of the scheduler sealing changes the states of the queue's plates alone. -/
theorem pumpSeals_sched (s : State) : ∃ g : Plate → Plate, (∀ p, (g p).core = p.core) ∧
    (pumpSeals s).sched = { s.sched with queue := s.sched.queue.map g } := by
  have seals : ∀ (l : List Plate) (t : State), ∃ g : Plate → Plate, (∀ p, (g p).core = p.core) ∧
      (l.foldl (fun s p => trySeal p.num s) t).sched = { t.sched with queue := t.sched.queue.map g } := by
    intro l
    induction l with
    | nil => exact fun t => ⟨id, fun _ => rfl, by rw [List.map_id]; rfl⟩
    | cons p l ih =>
      intro t
      obtain ⟨g, core, first⟩ := trySeal_sched p.num t
      obtain ⟨k, rest_core, rest⟩ := ih (trySeal p.num t)
      exact ⟨k ∘ g, fun p => (rest_core _).trans (core p), by rw [List.foldl_cons, rest, first, List.map_map]⟩
  exact seals _ s

theorem tallyDecision_logFrame (q : Plate) (s : State) : LogFrame s (tallyDecision q s) := by
  have h := ((tallyAdd_logFrame (.decided q.kind) 1 s).trans (tallyAdd_logFrame .decidedLength (q.cut - q.start) _)).trans
    (tallyAdd_logFrame .sAdvance (q.cut - q.start) _)
  unfold tallyDecision
  dsimp only
  split
  · exact h.trans (tallyAdd_logFrame _ _ _)
  · exact h

/-- The scheduler as a decision of plate `q` leaves it, but for the seals, and for the gap zones that the cut splits. -/
def schedDecided (q : Plate) (s : State) : Scheduler :=
  { s.sched with
    start := q.cut
    nextPlate := nextNumber s.sched.nextPlate
    nextSeq := nextSequence s s.sched.nextSeq
    queue := s.sched.queue ++ [plateWithFlaws s q]
    replan := if q.replanned then s.sched.replan else none
    request := if q.kind == .requested then none else s.sched.request
    flaws := s.sched.flaws.filter (fun f => decide (q.cut ≤ f.y1))
    zone := s.sched.zone.filter (fun z => decide (q.cut ≤ z.y1)) }

/-- A decision: the plate enters the queue, S comes to the cut, and what ends before it is removed; then the gap zones that the
cut splits are told of (R75, R82, R111). -/
theorem decidePlate_eq (p : Plan) (c : Nat) (k : PlateKind) (f u : Bool) (s : State) :
    ∃ flaws t, decidePlate p c k f u s = raiseFlaws flaws t ∧ PlateFrame s t ∧
      t.blobs.table = s.blobs.table ∧ t.blobs.dense = s.blobs.dense ∧
      ∃ g : Plate → Plate, (∀ p, (g p).core = p.core) ∧ t.sched = { schedDecided (newPlate p c k f u s) s with
        queue := (s.sched.queue ++ [plateWithFlaws s (newPlate p c k f u s)]).map g } := by
  have cut : (newPlate p c k f u s).cut = c := rfl
  have kind : (newPlate p c k f u s).kind = k := rfl
  unfold decidePlate
  dsimp only
  generalize newPlate p c k f u s = q at cut kind ⊢
  subst cut kind
  obtain ⟨g, core, sealed⟩ := pumpSeals_sched (giveCut q.cut (removePassed q.cut (enterPlate q s))).2
  have given := giveCut_sched q.cut (removePassed q.cut (enterPlate q s))
  have told := (tallyDecision_logFrame q (pumpSeals (giveCut q.cut (removePassed q.cut (enterPlate q s))).2)).sched
  have frame := ((giveCut_flawFrame q.cut (removePassed q.cut (enterPlate q s))).trans (pumpSeals_flawFrame _)).trans
    (tallyDecision_logFrame q _).flaw
  generalize tallyDecision q (pumpSeals (giveCut q.cut (removePassed q.cut (enterPlate q s))).2) = t at told frame ⊢
  refine ⟨_, _, rfl, ?_, frame.table, frame.dense, g, core, ?_⟩
  · exact (((enterPlate_plateFrame q s).trans (removePassed_plateFrame _ _)).trans frame.plate).trans (.ofSched t _)
  · dsimp only
    rw [told, sealed, given]
    rfl

theorem decidePlate_flawFrame (p : Plan) (c : Nat) (k : PlateKind) (f u : Bool) (s : State) :
    FlawFrame s (decidePlate p c k f u s) := by
  obtain ⟨flaws, t, decided, plate, table, dense, g, -, sched⟩ := decidePlate_eq p c k f u s
  have started : FlawFrame s t := ⟨plate, table, dense, fun i => i.order.passed (x := c) (by rw [sched]; rfl)⟩
  rw [decided]
  exact started.trans (raiseFlaws_flawFrame _ _)

theorem finishDecision_flawFrame (p : Plan) (c : Choice) (f : Bool) (s : State) :
    FlawFrame s (finishDecision p c f s) := by
  unfold finishDecision
  dsimp only
  split
  · exact decidePlate_flawFrame ..
  · split
    · split
      · exact ((FlawFrame.ofSched s _ (by rfl)).trans (issueEvent_logFrame _ _ _).flaw).trans (decidePlate_flawFrame ..)
      · exact decidePlate_flawFrame ..
    · exact (issueEvent_logFrame _ _ s).flaw.trans (jumpUnplanned_flawFrame _ _)

theorem starve_flawFrame (p : Plan) (s : State) : FlawFrame s (starve p s) :=
  (issueEvent_logFrame _ _ s).flaw.trans (jumpUnplanned_flawFrame _ _)

theorem evaluateOnce_flawFrame (p : Plan) (s : State) : FlawFrame s (evaluateOnce p s).2 := by
  unfold evaluateOnce
  dsimp only
  split
  · split
    · exact (testRequest_flawFrame p s).trans (starve_flawFrame _ _)
    · exact testRequest_flawFrame p s
  · split
    · exact (testRequest_flawFrame p s).trans (finishDecision_flawFrame ..)
    · exact testRequest_flawFrame p s

theorem evaluateLoop_flawFrame (p : Plan) (n : Nat) (s : State) : FlawFrame s (evaluateLoop p n s) := by
  induction n generalizing s with
  | zero => exact .refl s
  | succ n ih =>
    unfold evaluateLoop
    dsimp only
    split
    · exact (evaluateOnce_flawFrame p s).trans (ih _)
    · exact evaluateOnce_flawFrame p s

theorem evaluate_flawFrame (s : State) : FlawFrame s (evaluate s) := by
  unfold evaluate
  split
  · split
    · exact evaluateLoop_flawFrame ..
    · exact .refl s
  · exact .refl s

/-! ### Retirement, activation, RESTART and disable -/

theorem tallyPiece_logFrame (s : State) (q : Piece) : LogFrame s (tallyPiece s q) :=
  ((tallyAdd_logFrame _ _ s).trans (tallyAdd_logFrame _ _ _)).trans (tallyAdd_logFrame _ _ _)

theorem tallyRetirement_logFrame (p : Plate) (s : State) : LogFrame s (tallyRetirement p s) := by
  have pieces : LogFrame s (p.pieces.foldl tallyPiece (tallyAdd (.retired p.state) 1 s)) :=
    (tallyAdd_logFrame _ _ s).trans (.foldl tallyPiece_logFrame p.pieces _)
  exact pieces.trans (by constructor <;> rfl)

theorem retirePlate_flawFrame (p : Plate) (s : State) : FlawFrame s (retirePlate p s) :=
  (((handGroup_logFrame _ s).trans (tallyRetirement_logFrame p _)).flaw.trans (.ofSched _ _ (by rfl))).trans
    (modSlot_flawFrame _ _ _)

theorem retireLoop_flawFrame (n : Nat) (s : State) : FlawFrame s (retireLoop n s) := by
  induction n generalizing s with
  | zero => exact .refl s
  | succ n ih =>
    unfold retireLoop
    split
    · split
      · exact ((retirePlate_flawFrame _ s).trans (evaluate_flawFrame _)).trans (ih _)
      · exact .refl s
    · exact .refl s

theorem plateChanged_flawFrame (s : State) : FlawFrame s (plateChanged s) :=
  (gradeTest_flawFrame s).trans (retireLoop_flawFrame _ _)

theorem examineIfChanged_flawFrame {s t : State} (h : FlawFrame s t) : FlawFrame s (examineIfChanged s t) := by
  unfold examineIfChanged
  split
  · exact h
  · exact h.trans (plateChanged_flawFrame _)

theorem takeTicket_flawFrame (q : ReadPortion) (s : State) : FlawFrame s (takeTicket q s) := by
  unfold takeTicket
  split
  · split
    · exact (modPlate_flawFrame _ _ s).trans (plateChanged_flawFrame _)
    · exact .refl s
  · exact .refl s

theorem missPlate_flawFrame (s : State) (n : Nat) : FlawFrame s (missPlate s n) := by
  unfold missPlate
  split
  · split
    · exact (markMissed_flawFrame _ s).trans (plateChanged_flawFrame _)
    · exact .refl s
  · exact .refl s

theorem takeMisses_flawFrame (s : State) : FlawFrame s (takeMisses s) :=
  FlawFrame.foldl (fun s n => missPlate_flawFrame s n) _ s

/-- An inactive scheduler holds no flaws: from any S it may start (R99, R120). -/
theorem activate_flawFrame (s : State) : FlawFrame s (activate s) := by
  unfold activate
  split
  · rename_i starts
    simp only [Bool.and_eq_true, Bool.not_eq_true'] at starts
    obtain ⟨⟨⟨inactive, -⟩, -⟩, -⟩ := starts
    have started : FlawFrame s { s with sched := { s.sched with active := true, start := s.asm.a + 1 } } :=
      .ofFlaws s _ fun ⟨_, _, _, off⟩ => by
        obtain ⟨flaws, zone⟩ := off inactive
        simp [FlawListInv, flaws, zone]
    exact (started.trans (evaluate_flawFrame _)).trans (plateChanged_flawFrame _)
  · exact .refl s

theorem deactivate_flawFrame (s : State) : FlawFrame s (deactivate s) :=
  ⟨deactivate_plateFrame s, rfl, rfl, fun _ => by simp [FlawListInv, deactivate]⟩

theorem abandonPlate_flawFrame (d : Bool) (s : State) (p : Plate) : FlawFrame s (abandonPlate d s p) :=
  ((FlawFrame.ofBlobs s _ (by rfl)).trans (withdrawTicket_flawFrame d p _)).trans (tallyAdd_logFrame _ _ _).flaw

theorem disableScheduler_flawFrame (s : State) : FlawFrame s (disableScheduler s) := by
  have left : FlawFrame s (s.sched.queue.foldl (abandonPlate true) s) := .foldl (abandonPlate_flawFrame true) _ s
  have emptied : ∀ t : State, FlawFrame t { t with
      sched := { t.sched with queue := [] }, blobs := { t.blobs with splits := [] } } :=
    fun t => .same (by constructor <;> rfl) rfl rfl
  exact (left.trans (emptied _)).trans (deactivate_flawFrame _)

theorem abandonSuffix_flawFrame (s : State) : FlawFrame s (abandonSuffix s) := by
  have left : FlawFrame s ((abandonedPlates s).foldl (abandonPlate false) s) := .foldl (abandonPlate_flawFrame false) _ s
  exact left.trans (.ofSched _ _ (by rfl))

/-- The marks of RESTART leave the order (R117). -/
theorem resumeFrom_order (gone : List Plate) {s : State} (o : FlawOrder s) : FlawOrder (resumeFrom gone s) := by
  obtain ⟨order, off⟩ := o
  unfold resumeFrom
  split
  · refine ⟨List.pairwise_map.mpr order, fun i => ?_⟩
    obtain ⟨flaws, zone⟩ := off i
    simp [flaws, zone]
  · exact ⟨order, off⟩

theorem resumeFrom_blobs (gone : List Plate) (s : State) : (resumeFrom gone s).blobs = s.blobs := by
  unfold resumeFrom
  split
  · rfl
  · rfl

theorem raiseStart_flaws (p : Plan) {s : State} (o : FlawOrder s) : FlawListInv (raiseStart p s) := by
  unfold raiseStart
  split
  · exact jumpUnplanned_flaws _ o
  · exact o.passed (t := removePassed s.sched.start s) (x := s.sched.start) rfl

theorem raiseStart_blobs (p : Plan) (s : State) : (raiseStart p s).blobs = s.blobs := by
  unfold raiseStart
  split
  · rfl
  · rfl

theorem restartPlates_flawFrame (p : Plan) (s : State) : FlawFrame s (restartPlates p s) := by
  have left := abandonSuffix_flawFrame s
  have resumed : (raiseStart p (resumeFrom (abandonedPlates s) (abandonSuffix s))).blobs = (abandonSuffix s).blobs :=
    (raiseStart_blobs ..).trans (resumeFrom_blobs ..)
  refine FlawFrame.trans ⟨?_, ?_, ?_, fun i => raiseStart_flaws p (resumeFrom_order _ (left.flaws i).order)⟩
    (issueEvent_logFrame _ _ _).flaw
  · exact (left.plate.trans (resumeFrom_plateFrame _ _)).trans (raiseStart_plateFrame p _)
  · rw [resumed, left.table]
  · rw [resumed, left.dense]

/-! ### The Capture Engine -/

theorem testSegments_flawFrame (s : State) : FlawFrame s (testSegments s) := (testSegments_copyFrame s).flaw

theorem advanceCapture_flawFrame (s : State) : FlawFrame s (advanceCapture s) := (advanceCapture_copyFrame s).flaw

theorem dropCopy_flawFrame (s : State) : FlawFrame s (dropCopy s) := by
  unfold dropCopy
  split
  · exact .refl s
  · exact ((CopyFrame.ofCap s _).flaw.trans (withdrawOwn_logFrame _ _).flaw).trans (unpinAll_flawFrame _)

theorem dropCopyOf_flawFrame (n : Nat) (s : State) : FlawFrame s (dropCopyOf n s) := by
  unfold dropCopyOf
  split
  · split
    · exact dropCopy_flawFrame s
    · exact .refl s
  · exact .refl s

theorem captureLocked_flawFrame (c : Copy) (s : State) : FlawFrame s (captureLocked c s) :=
  .same (captureLocked_plateFrame ..) rfl rfl

/-! ### The Ring Tracker -/

theorem loseSlot_flawFrame (n k : Nat) (s : State) : FlawFrame s (loseSlot n k s) :=
  ((modDir_flawFrame n k _ s).trans (withdrawNotes_logFrame n k _).flaw).trans (tallyAdd_logFrame _ _ _).flaw

theorem rejectSlot_flawFrame (n k : Nat) (s : State) : FlawFrame s (rejectSlot n k s) :=
  .same (rejectSlot_plateFrame ..) rfl rfl

theorem setFill_flawFrame (n : Nat) (f : Option Fill) (s : State) : FlawFrame s (setFill n f s) :=
  .same (setFill_plateFrame ..) rfl rfl

theorem breakFill_flawFrame (n : Nat) (s : State) : FlawFrame s (breakFill n s) := by
  unfold breakFill
  split
  · exact ((setFill_flawFrame _ _ s).trans (loseSlot_flawFrame _ _ _)).trans (issueEvent_logFrame _ _ _).flaw
  · exact .refl s

theorem giveUp_flawFrame (n k : Nat) (s : State) : FlawFrame s (giveUp n k s) := by
  unfold giveUp
  dsimp only
  split
  · exact ((((withdrawNotes_logFrame n k s).trans (tallyAdd_logFrame _ _ _)).trans
      (issueEvent_logFrame _ _ _)).flaw).trans (modDir_flawFrame _ _ _ _)
  · exact modDir_flawFrame _ _ _ s

theorem pinAccepted_flawFrame (n k x : Nat) (s : State) : FlawFrame s (pinAccepted n k x s) := by
  unfold pinAccepted
  split
  · exact modDir_flawFrame _ _ _ s
  · exact .refl s

theorem beginFill_flawFrame (n k x c l : Nat) (t : Taking) : FlawFrame t.state (beginFill n k x c l t).state := by
  unfold beginFill
  dsimp only
  refine FlawFrame.trans ?_ (pinAccepted_flawFrame _ _ _ _)
  refine FlawFrame.trans (FlawFrame.trans ?_ (modStream_flawFrame _ _ _)) (modDir_flawFrame _ _ _ _)
  split
  · split
    · exact (tallyAdd_logFrame _ _ _).flaw
    · exact .refl _
  · exact .refl _

theorem takeHeader_flawFrame (n : Nat) (p : Portion) (t : Taking) : FlawFrame t.state (takeHeader n p t).state := by
  have h : FlawFrame t.state
      (breakFill n (if (dirEntry t.state n p.slot).busy then giveUp n p.slot t.state else t.state)) := by
    refine FlawFrame.trans ?_ (breakFill_flawFrame _ _)
    split
    · exact giveUp_flawFrame _ _ _
    · exact .refl _
  unfold takeHeader
  dsimp only
  generalize hu : breakFill n (if (dirEntry t.state n p.slot).busy then giveUp n p.slot t.state else t.state) = u at h ⊢
  split
  · exact (h.trans (rejectSlot_flawFrame _ _ _)).trans (issueEvent_logFrame _ _ _).flaw
  · split
    · exact (h.trans (rejectSlot_flawFrame _ _ _)).trans (issueEvent_logFrame _ _ _).flaw
    · exact h.trans (beginFill_flawFrame _ _ _ _ _ { notes := t.notes, state := u })

theorem takeContinuation_flawFrame (n : Nat) (p : Portion) (t : Taking) :
    FlawFrame t.state (takeContinuation n p t).state := by
  unfold takeContinuation
  split
  · exact .refl _
  · split
    · dsimp only
      split
      · exact (setFill_flawFrame _ _ _).trans (modDir_flawFrame _ _ _ _)
      · exact setFill_flawFrame _ _ _
    · exact breakFill_flawFrame _ _

theorem takePortion_flawFrame (n : Nat) (t : Taking) (p : Portion) : FlawFrame t.state (takePortion n t p).state := by
  unfold takePortion
  split
  · exact takeHeader_flawFrame n p t
  · exact takeContinuation_flawFrame n p t

theorem takeStreamWrite_flawFrame (n : Nat) (w : UpWrite) (s : State) : FlawFrame s (takeStreamWrite n w s).state := by
  have h : ∀ (l : List Portion) (t : Taking), FlawFrame t.state (l.foldl (takePortion n) t).state := by
    intro l
    induction l with
    | nil => exact fun t => .refl _
    | cons p l ih => exact fun t => (takePortion_flawFrame n t p).trans (ih _)
  unfold takeStreamWrite
  exact h _ { notes := [], state := s }

theorem passReady_flawFrame (n : Nat) (f : Nat → DirEntry → Bool) (s : State) : FlawFrame s (passReady n f s) :=
  .same (passReady_plateFrame ..) rfl rfl

theorem seedFailed_flawFrame (n k : Nat) (s : State) : FlawFrame s (seedFailed n k s) :=
  .same (seedFailed_plateFrame ..) rfl rfl

theorem startSeed_flawFrame (n k : Nat) (s : State) : FlawFrame s (startSeed n k s) := by
  unfold startSeed
  dsimp only
  split
  · exact seedFailed_flawFrame _ _ s
  · exact (modStream_flawFrame _ _ s).trans (issueReads_logFrame _ _ _).flaw

theorem lateTest_flawFrame (n k : Nat) (s : State) : FlawFrame s (lateTest n k s) := by
  unfold lateTest
  split
  · exact modDir_flawFrame _ _ _ s
  · exact .refl s

theorem becomeReady_flawFrame (n k : Nat) (s : State) : FlawFrame s (becomeReady n k s) := by
  have h := (modStream_flawFrame n (fun r => { r with lastReady := s.enc.e }) s).trans
    (modDir_flawFrame n k (fun e => { e with state := .ready, awaiting := false, failed := false }) _)
  unfold becomeReady
  dsimp only
  split
  · split
    · exact h.trans (startSeed_flawFrame _ _ _)
    · exact h
  · exact ((h.trans (modStream_flawFrame _ _ _)).trans (issueEvent_logFrame _ _ _).flaw).trans (lateTest_flawFrame _ _ _)
  · exact h.trans (lateTest_flawFrame _ _ _)
  · exact h
  · exact h

theorem resolveNote_flawFrame (o : Bool) (s : State) (x : FillNote) : FlawFrame s (resolveNote o s x) := by
  have h : FlawFrame s (if o then s else modDir x.stream x.slot (fun e => { e with failed := true }) s) := by
    split
    · exact .refl s
    · exact modDir_flawFrame _ _ _ s
  unfold resolveNote
  dsimp only
  generalize hu : (if o then s else modDir x.stream x.slot (fun e => { e with failed := true }) s) = u at h ⊢
  split
  · split
    · exact (h.trans (loseSlot_flawFrame _ _ _)).trans (issueEvent_logFrame _ _ _).flaw
    · exact h.trans (becomeReady_flawFrame _ _ _)
  · exact h

theorem lapseStream_flawFrame (n : Nat) (s : State) : FlawFrame s (lapseStream n s) :=
  (modStream_flawFrame _ _ s).trans (issueEvent_logFrame _ _ _).flaw

theorem queueWrite_flawFrame (n : Nat) (w : UpWrite) (s : State) : FlawFrame s (queueWrite n w s) := by
  unfold queueWrite
  split
  · split
    · exact modStream_flawFrame _ _ s
    · exact .refl s
  · exact .refl s

theorem holdWrite_flawFrame (n : Nat) (w : UpWrite) (s : State) : FlawFrame s (holdWrite n w s) := by
  unfold holdWrite
  split
  · exact queueWrite_flawFrame n w s
  · exact (modStream_flawFrame _ _ s).trans (tallyAdd_logFrame _ _ _).flaw

/-! ### Confirmations and the Ticket Unit -/

theorem testDeviation_flawFrame (p : Plate) (m : Nat) (s : State) : FlawFrame s (testDeviation p m s) := by
  unfold testDeviation
  dsimp only
  split
  · exact (modPlate_flawFrame _ _ s).trans (issueEvent_logFrame _ _ _).flaw
  · exact .refl s

theorem settlePlate_flawFrame (p : Plate) (c m : Nat) (s : State) : FlawFrame s (settlePlate p c m s) := by
  unfold settlePlate
  dsimp only
  refine FlawFrame.trans ?_ (plateChanged_flawFrame _)
  split
  · exact (modPlate_flawFrame _ _ s).trans (testDeviation_flawFrame _ _ _)
  · exact modPlate_flawFrame _ _ s

theorem confirmPlate_flawFrame (j c e m : Nat) (s : State) : FlawFrame s (confirmPlate j c e m s) := by
  have other : FlawFrame s (confirmOther j c e m s) := by
    unfold confirmOther
    split
    · exact (issueEvent_logFrame _ _ s).flaw
    · exact (issueEvent_logFrame _ _ s).flaw
  have told (k : EventKind) (fs : List Nat) : FlawFrame s (issueEvent k fs s) := (issueEvent_logFrame _ _ s).flaw
  have settled (p : Plate) : FlawFrame s (settlePlate p c m s) := settlePlate_flawFrame p c m s
  unfold confirmPlate
  split
  · exact other
  · refine .ite other ?_
    split
    · exact settled _
    · exact settled _
    · exact .ite (settled _) (told _ _)
    · exact told _ _
    · exact told _ _
    · exact told _ _
    · exact other
    · exact other

theorem takeStatus_flawFrame (w : UpWrite) (s : State) : FlawFrame s (takeStatus w s) := by
  unfold takeStatus decodeStatus
  split
  · split
    · dsimp only
      split
      · exact confirmPlate_flawFrame ..
      · exact (issueEvent_logFrame _ _ s).flaw
    · exact .refl s
  · exact .refl s

theorem followTicket_flawFrame (s : State) : FlawFrame s (followTicket s) := by
  unfold followTicket
  split
  · exact activate_flawFrame s
  · split
    · exact deactivate_flawFrame s
    · exact .refl s

theorem sealPlate_flawFrame (j : Nat) (okay : Bool) (p : Plate) (s : State) : FlawFrame s (sealPlate j okay p s) := by
  unfold sealPlate
  split
  · dsimp only
    split
    · exact (modPlate_flawFrame _ _ s).trans (markMissed_flawFrame _ _)
    · exact modPlate_flawFrame _ _ s
  · exact (modPlate_flawFrame _ _ s).trans (issueEvent_logFrame _ _ _).flaw

theorem sealAnswered_flawFrame (j p q : Nat) (okay : Bool) (s : State) : FlawFrame s (sealAnswered j p q okay s) := by
  have idle := modSlot_flawFrame j (fun r => { r with write := .none }) s
  unfold sealAnswered
  dsimp only
  refine (FlawFrame.trans ?_ (pumpSeals_flawFrame _)).trans (plateChanged_flawFrame _)
  split
  · split
    · exact idle.trans (issueNull_flawFrame _ _ _)
    · exact (idle.trans (issueNull_flawFrame _ _ _)).trans (issueEvent_logFrame _ _ _).flaw
  · split
    · split
      · exact idle.trans (sealPlate_flawFrame _ _ _ _)
      · exact idle
    · exact idle

theorem ticketAnswered_flawFrame (okay : Bool) (x : OwnTxn) (s : State) : FlawFrame s (ticketAnswered okay x s) := by
  unfold ticketAnswered
  split
  · exact sealAnswered_flawFrame _ _ _ _ s
  · rename_i slot seq _ _ _
    have idle := modSlot_flawFrame slot (fun r => { r with write := .none, noted := r.noted && r.nullPending.isSome }) s
    have told : FlawFrame s (if okay = true
        then modSlot slot (fun r => { r with write := .none, noted := r.noted && r.nullPending.isSome }) s
        else issueEvent .nullWriteFailed [slot, seq]
          (modSlot slot (fun r => { r with write := .none, noted := r.noted && r.nullPending.isSome }) s)) := by
      split
      · exact idle
      · exact idle.trans (issueEvent_logFrame _ _ _).flaw
    refine FlawFrame.trans ?_ (examineIfChanged_flawFrame (pumpSeals_flawFrame _))
    split
    · exact told.trans (issueNull_flawFrame _ _ _)
    · exact told
  · exact .refl s

end Sys2Proof.Machine
end

section
/-! SUPPORT. Every command but the encoder's own and pin reset keeps the flaw list's invariant and, with A at or below E, that of the
OPEN blobs (O58, O59): one lemma for each shared operation that is neither a `LogFrame` nor a `FlawFrame`. -/

namespace Sys2Proof.Machine

/-- The line is kept, and so are the invariants of the flaw list and of the OPEN blobs. -/
structure KeepsLists (s t : State) : Prop where
  line : KeepsLine s t
  flaws : FlawListInv s → FlawListInv t
  blobs : LineInv s → BlobsInv s → BlobsInv t

theorem KeepsLists.refl (s : State) : KeepsLists s s := ⟨.refl s, id, fun _ => id⟩

theorem KeepsLists.trans {s t u : State} (h : KeepsLists s t) (k : KeepsLists t u) : KeepsLists s u :=
  ⟨h.line.trans k.line, k.flaws ∘ h.flaws, fun l b => k.blobs (h.line.line l) (h.blobs l b)⟩

/-- A choice between two updates that keep the lists. -/
theorem KeepsLists.ite {s t u : State} {p : Prop} [Decidable p] (h : KeepsLists s t) (k : KeepsLists s u) :
    KeepsLists s (if p then t else u) := by
  split
  · exact h
  · exact k

theorem KeepsLists.foldl {α : Type} {f : State → α → State} (h : ∀ s a, KeepsLists s (f s a)) (l : List α) (s : State) :
    KeepsLists s (l.foldl f s) := by
  induction l generalizing s with
  | nil => exact .refl s
  | cons a l ih => exact (h s a).trans (ih _)

theorem KeepsLists.foldr {α : Type} {f : α → State → State} (h : ∀ s a, KeepsLists s (f a s)) (l : List α) (s : State) :
    KeepsLists s (l.foldr f s) := by
  induction l with
  | nil => exact .refl s
  | cons a l ih => exact ih.trans (h _ a)

/-- The invariant speaks of the table, the dense zone and A. -/
theorem BlobsInv.congr {s t : State} (i : BlobsInv s)
    (h : (t.blobs.table, t.blobs.dense, t.asm.a) = (s.blobs.table, s.blobs.dense, s.asm.a)) : BlobsInv t := by
  simp only [Prod.mk.injEq] at h
  obtain ⟨table, dense, a⟩ := h
  rwa [BlobsInv, table, dense, a]

/-- A, the flaw list, S, the activity, the table and the dense zone stay as they are. -/
theorem KeepsLists.same {s t : State} (line : KeepsLine s t)
    (h : (t.sched.active, t.sched.start, t.sched.flaws, t.sched.zone) =
      (s.sched.active, s.sched.start, s.sched.flaws, s.sched.zone))
    (b : (t.blobs.table, t.blobs.dense, t.asm.a) = (s.blobs.table, s.blobs.dense, s.asm.a)) : KeepsLists s t :=
  ⟨line, fun i => i.congr h, fun _ i => i.congr b⟩

/-- Neither the encoder, nor the Line Assembler, nor the scheduler, nor the Blob Tracker changes. -/
theorem KeepsLists.ofRest {s t : State} (h : (t.enc, t.asm, t.sched, t.blobs) = (s.enc, s.asm, s.sched, s.blobs)) :
    KeepsLists s t := by
  simp only [Prod.mk.injEq] at h
  obtain ⟨enc, asm, sched, blobs⟩ := h
  exact .same (.ofRest enc asm) (by rw [sched]) (by rw [blobs, asm])

theorem FlawFrame.lists {s t : State} (h : FlawFrame s t) : KeepsLists s t :=
  ⟨h.plate.keepsLine, h.flaws, fun _ i => i.congr (by rw [h.table, h.dense, h.plate.asm])⟩

theorem LogFrame.lists {s t : State} (h : LogFrame s t) : KeepsLists s t := h.flaw.lists

theorem complete_lists (c : Completion) (s : State) : KeepsLists s (complete c s) := .ofRest rfl

theorem completeMasked_lists (c : Completion) (m : Nat) (s : State) : KeepsLists s (completeMasked c m s) := .ofRest rfl

theorem setPhase_lists (p : OrderPhase) (s : State) : KeepsLists s (setPhase p s) := .ofRest rfl

theorem plan_lists (s : State) : KeepsLists s (plateChanged (evaluate s)) :=
  ((evaluate_flawFrame s).trans (plateChanged_flawFrame _)).lists

theorem answerOwn_lists {p : Purpose → Bool} {s s1 : State} {x : OwnTxn} (h : answerOwn p s = some (x, s1)) :
    KeepsLists s s1 := by
  unfold answerOwn at h
  split at h
  · obtain ⟨-, rfl⟩ := Prod.mk.inj (Option.some.inj h)
    exact .ofRest rfl
  · cases h

/-! ### The Ring Tracker -/

theorem endHold_lists (n : Nat) (a b : TakeMode) (s : State) : KeepsLists s (endHold n a b s) := by
  unfold endHold
  split
  · exact .ofRest rfl
  · exact .refl s

theorem abandonHold_lists (n : Nat) (s : State) : KeepsLists s (abandonHold n s) := by
  unfold abandonHold
  exact (endHold_lists n .untracked .untracked s).trans (.ofRest rfl)

theorem faultStream_lists (n : Nat) (s : State) : KeepsLists s (faultStream n s) := by
  have marked : FlawFrame s (unpinStream n ((slotsWhere s n (fun e => e.state == .filling && e.awaiting)).foldl
      (fun s k => loseSlot n k s) (passReady n (fun _ _ => true) s))) :=
    ((passReady_flawFrame _ _ s).trans (.foldl (fun s k => loseSlot_flawFrame n k s) _ _)).trans (modStream_flawFrame _ _ _)
  unfold faultStream
  exact (((marked.trans (disown_logFrame _ _).flaw).trans (modStream_flawFrame _ _ _)).trans
    (issueEvent_logFrame _ _ _).flaw).lists.trans (abandonHold_lists _ _)

/-- A stream stopped marks its entry of the line in assembly, and the line stays in assembly (R38). -/
theorem stopStream_lists (n : Nat) (s : State) : KeepsLists s (stopStream n s) := by
  unfold stopStream
  refine .ite (.refl s) ((((dropCopyOf_flawFrame n s).lists.trans (abandonHold_lists n _)).trans ?_))
  exact .same (.ofRecord rfl rfl (by simp)) rfl rfl

theorem seedDone_lists (n : Nat) (f : SeedFetch) (bs : List ReadResult) (s : State) : KeepsLists s (seedDone n f bs s) := by
  have loaded := seedDone_logFrame n f bs s
  exact .ofRest (by rw [loaded.enc, loaded.asm, loaded.sched, loaded.blobs]; rfl)

theorem endSeed_lists (n : Nat) (f : SeedFetch) (bs : List ReadResult) (s : State) : KeepsLists s (endSeed n f bs s) := by
  unfold endSeed
  exact .ite (seedDone_lists _ _ _ s) (seedFailed_flawFrame _ _ s).lists

theorem timeOutFill_lists (n : Nat) (s : State) : KeepsLists s (timeOutFill n s) := by
  unfold timeOutFill
  split
  · exact .refl s
  · rename_i f _
    have lost := (((setFill_flawFrame n none s).trans (loseSlot_flawFrame n f.slot _)).trans
      (issueEvent_logFrame .lineTimeout [n, f.slot, stampOf s n f.slot] _).flaw).lists
    exact .ite lost (lost.trans (faultStream_lists _ _))

/-! ### The Line Assembler -/

theorem stepEpisode_flawFrame (l : Nat) (s : State) (e : CovEntry) : FlawFrame s (stepEpisode l s e) := by
  unfold stepEpisode
  split
  · exact .ite (.refl s) ((modStream_flawFrame _ _ s).trans (issueEvent_logFrame _ _ _).flaw)
  · exact modStream_flawFrame _ _ s

/-- A line at or below E comes into assembly (R31, R32). -/
theorem assembleLine_lists {s : State} (h : s.asm.a + 1 ≤ s.enc.e) : KeepsLists s (assembleLine s) := by
  have formed : KeepsLists s { s with asm := { s.asm with record := some (coverageRecord s (assembling s)) } } :=
    .same ⟨rfl, fun ⟨behind, _⟩ => ⟨behind, fun _ => h⟩⟩ rfl rfl
  have stepped : FlawFrame { s with asm := { s.asm with record := some (coverageRecord s (assembling s)) } } (assembleLine s) :=
    (FlawFrame.foldl (stepEpisode_flawFrame _) _ _).trans (.foldl (fun s e => (issueFetch_logFrame s e).flaw) _ _)
  exact formed.trans stepped.lists

theorem testNotBefore_lists (s : State) : KeepsLists s (testNotBefore s) := by
  rw [testNotBefore_eq_with]
  exact .ofRest rfl

theorem takeLaneOrder_lists (o : List Byte) (s : State) : KeepsLists s (takeLaneOrder o s) := by
  unfold takeLaneOrder
  exact .ite (.ofRest rfl) (.ite (.ofRest rfl) (.ite (complete_lists _ s) (.ite (.ofRest rfl)
    ((KeepsLists.trans (by exact .ofRest rfl) (issueEvent_logFrame _ _ _).lists).trans (complete_lists _ _)))))

theorem takeWaitingLaneOrder_lists (s : State) : KeepsLists s (takeWaitingLaneOrder s) := by
  unfold takeWaitingLaneOrder
  split
  · exact takeLaneOrder_lists _ s
  · exact .refl s

theorem slotsPassed_flawFrame (l : Nat) (r : List CovEntry) (s : State) : FlawFrame s (slotsPassed l r s) := by
  have used (s : State) (e : CovEntry) : FlawFrame s (passEntry s e) := .ite (passReady_flawFrame _ _ s) (.refl s)
  have behind (s : State) (n : Nat) : FlawFrame s (passBehind l s n) := .ite (passReady_flawFrame _ _ s) (.refl s)
  exact (FlawFrame.foldl used r s).trans (.foldl behind _ _)

/-- Once A is the line, its completion keeps the lists (R41). -/
theorem completeLine_lists (l : Nat) (r : List CovEntry) (s : State) : KeepsLists (lineTaken l s) (completeLine l r s) := by
  have passed := slotsPassed_flawFrame l r s
  change KeepsLists _ (plateChanged (evaluate (testNotBefore (takeWaitingLaneOrder (lineTaken l (slotsPassed l r s))))))
  generalize slotsPassed l r s = u at passed ⊢
  have taken : KeepsLists (lineTaken l s) (lineTaken l u) :=
    ⟨.ofRest passed.plate.enc rfl, fun i => (passed.flaws (i.congr rfl)).congr rfl,
      fun _ i => i.congr (by simp only [lineTaken, passed.table, passed.dense])⟩
  exact ((taken.trans (takeWaitingLaneOrder_lists _)).trans (testNotBefore_lists _)).trans (plan_lists _)

/-- The line in assembly is analysed, and A is that line, still at or below E (R41, R64). -/
theorem lineAnalysed_lists (pass : LinePass) {s : State} (h : s.asm.record.isSome = true) :
    KeepsLists s (lineTaken (s.asm.a + 1) (lineAnalysed (s.asm.a + 1) pass s)) := by
  have log := streakEvents_logFrame (s.asm.a + 1) 0 s.det.streakCounts pass.counts
    { s with det := { columns := pass.columns, streakCounts := pass.counts, runs := pass.runs } }
  obtain ⟨analysed, -⟩ := lineAnalysed_frames (s.asm.a + 1) pass s
  change LogFrame _ (takePass (s.asm.a + 1) pass s) at log
  refine ⟨.ofPlaced analysed.enc (fun k => k.2 h) rfl, fun i => ?_, fun _ i => ?_⟩
  · exact blobAct_flaws (s.asm.a + 1) pass.runs pass.overflow pass.uncovered (log.flawListInv i)
  · have acted := blobAct_blobs pass.runs pass.overflow pass.uncovered (s := takePass (s.asm.a + 1) pass s)
      (i.congr (by rw [log.blobs, log.asm]))
    rw [log.asm] at acted
    exact acted.congr rfl

theorem analyseLine_lists (early : List (Fin 8)) (r : List CovEntry) (ts : List OwnTxn) (rs : List ReadResult) {s : State}
    (h : s.asm.record.isSome = true) : KeepsLists s (analyseLine early r ts rs s) := by
  have reported := fetchReports_logFrame (s.asm.a + 1) early ts rs r { s with asm := { s.asm with analysing := true } }
  rw [analyseLine_eq]
  generalize fetchReports (s.asm.a + 1) early ts rs r { s with asm := { s.asm with analysing := true } } = u at reported ⊢
  have began : KeepsLists s { s with asm := { s.asm with analysing := true } } := .same (.ofRecord rfl rfl id) rfl rfl
  have a : s.asm.a = u.asm.a := by rw [reported.asm]
  rw [a]
  exact ((began.trans reported.lists).trans (lineAnalysed_lists _ (by rw [reported.asm]; exact h))).trans
    (completeLine_lists _ r _)

/-! ### Reports, REFRESH and orders -/

theorem takeShiftClose_lists (next : Nat) (s : State) : KeepsLists s (takeShiftClose next s) := by
  unfold takeShiftClose closeShift
  have bursts : ∀ (l : List (Nat × List Byte)) (s : State),
      LogFrame s (l.foldl (fun s b => issueOwn .report b.1 (.write b.2) s) s) :=
    fun l s => .foldl (fun s b => issueOwn_logFrame _ _ _ s) l s
  exact .ite ((KeepsLists.trans (by exact .ofRest rfl) (bursts _ _).lists).trans (complete_lists _ _)) (complete_lists _ s)

theorem endReport_lists (s : State) : KeepsLists s (endReport s) := by
  unfold endReport
  dsimp only
  split
  · exact .trans (by exact .ofRest rfl) (takeShiftClose_lists _ _)
  · exact .ofRest rfl

theorem restartLog_lists (s : State) : KeepsLists s (restartLog s) := by
  unfold restartLog
  exact .ite (.trans (by exact .ofRest rfl) (formLogLost_logFrame _).lists)
    (.trans (by exact .ofRest rfl) (pumpLog_logFrame _).lists)

theorem replaceParts_lists (k : Nat) (table : List Byte) (s : State) : KeepsLists s (replaceParts k table s) := by
  have cached : KeepsLists s { s with window := refreshedWindow s k table } := .ofRest rfl
  have log := cached.trans (.ite (p := (replacedParts s k).contains 9 = true) (restartLog_lists _) (.refl _))
  have tickets := log.trans (.ite (p := (replacedParts s k).contains 8 = true) (t := resetTickets _) (.ofRest rfl) (.refl _))
  exact (tickets.trans (windowEvents_logFrame (replacedParts s k) _).lists).trans
    (.ite (followTicket_flawFrame _).lists (.refl _))

theorem takeRefresh_lists (k : Nat) (table : List Byte) (s : State) : KeepsLists s (takeRefresh k table s) := by
  unfold takeRefresh
  exact .ite ((replaceParts_lists _ _ s).trans (completeMasked_lists _ _ _)) (.ite (complete_lists _ s)
    ((replaceParts_lists _ _ s).trans (complete_lists _ _)))

theorem abandonOrder_lists (s : State) : KeepsLists s (abandonOrder s) := by
  unfold abandonOrder
  split
  case h_1 => exact .refl s
  case h_2 | h_3 | h_4 | h_5 => exact .ofRest rfl
  all_goals exact setPhase_lists _ s

/-- The scheduler's fields but S, its activity and what it lists. -/
theorem KeepsLists.ofSched {s t : State} (h : (t.enc, t.asm, t.blobs) = (s.enc, s.asm, s.blobs))
    (k : (t.sched.active, t.sched.start, t.sched.flaws, t.sched.zone) =
      (s.sched.active, s.sched.start, s.sched.flaws, s.sched.zone)) : KeepsLists s t := by
  simp only [Prod.mk.injEq] at h
  obtain ⟨enc, asm, blobs⟩ := h
  exact .same (.ofRest enc asm) k (by rw [blobs, asm])

theorem takePlanSet_lists (o : List Byte) (s : State) : KeepsLists s (takePlanSet o s) := by
  unfold takePlanSet
  split
  · exact complete_lists _ s
  · rename_i p _
    have set : KeepsLists s (complete .done { s with sched := { s.sched with plan := some p } }) := .ofSched rfl rfl
    exact .ite (set.trans (plan_lists _)) (set.trans (activate_flawFrame _).lists)

theorem takeCutRequest_lists (o : List Byte) (s : State) : KeepsLists s (takeCutRequest o s) := by
  unfold takeCutRequest
  split
  · exact complete_lists _ s
  · have set : KeepsLists s (complete .done { s with sched := { s.sched with request := some (fieldAt o 0x10 6) } }) :=
      .ofSched rfl rfl
    exact set.trans (plan_lists _)

theorem takeRestart_lists (s : State) : KeepsLists s (takeRestart s) := by
  unfold takeRestart
  split
  · exact (restartPlates_flawFrame _ s).lists.trans (complete_lists _ _)
  · exact .ofSched rfl rfl

theorem decideAfterRestart_lists (s : State) : KeepsLists s (decideAfterRestart s) := by
  unfold decideAfterRestart
  exact .ite ((plan_lists s).trans (refreshStatus_logFrame _ _).lists) (.refl s)

theorem takeStreamStart_lists (o : List Byte) (s : State) : KeepsLists s (takeStreamStart o s) := by
  unfold takeStreamStart startStream
  dsimp only
  split <;> exact .ofRest rfl

theorem takeStreamStop_lists (o : List Byte) (s : State) : KeepsLists s (takeStreamStop o s) := by
  unfold takeStreamStop
  exact .ite (complete_lists _ s) ((stopStream_lists _ s).trans (complete_lists _ _))

theorem takeTableLoad_lists (o : List Byte) (s : State) : KeepsLists s (takeTableLoad o s) := by
  unfold takeTableLoad
  split <;> exact .ofRest rfl

theorem loadTables_lists (block : List Byte) (s : State) : KeepsLists s (loadTables block s) := by
  unfold loadTables
  exact .ite (.same (.ofRest rfl rfl) rfl rfl) (complete_lists _ s)

theorem takeRefreshOrder_lists (o : List Byte) (s : State) : KeepsLists s (takeRefreshOrder o s) := by
  unfold takeRefreshOrder
  exact .ite (complete_lists _ s) (.ofRest rfl)

theorem takeFence_lists (o : List Byte) (s : State) : KeepsLists s (takeFence o s) := by
  unfold takeFence
  split
  · exact .ite (.ofSched rfl rfl) (complete_lists _ s)
  · exact complete_lists _ s

theorem endFence_lists (a : Nat) (m o : Bool) (s : State) : KeepsLists s (endFence a m o s) := by
  unfold endFence
  exact .ite (.trans (.ite (setNotices_logFrame _ s).lists (.refl s)) (complete_lists _ _))
    ((issueEvent_logFrame _ _ s).lists.trans (complete_lists _ _))

theorem handLaneOrder_lists (o : List Byte) (s : State) : KeepsLists s (handLaneOrder o s) := by
  unfold handLaneOrder
  exact .ite (setPhase_lists _ s) (takeLaneOrder_lists o s)

theorem takeShiftOrder_lists (o : List Byte) (s : State) : KeepsLists s (takeShiftOrder o s) := by
  unfold takeShiftOrder
  exact .ite (takeShiftClose_lists _ s) (setPhase_lists _ s)

theorem headAdvance_lists (okay : Bool) (code : Nat) (s : State) : KeepsLists s (headAdvance okay code s) := by
  unfold headAdvance
  exact (KeepsLists.ite (.refl s) (issueEvent_logFrame _ _ s).lists).trans (.ofRest rfl)

/-! ### Enable, disable and the anchor page -/

/-- ENABLE sets A to E, below which every OPEN blob stands (R28). -/
theorem enablePart_lists (s : State) : KeepsLists s (enablePart s) := by
  have placed : KeepsLists s (enabledLine s) := by
    refine ⟨.ofPlaced rfl (fun _ => le_rfl) rfl, fun i => i.congr rfl, fun ⟨behind, _⟩ ⟨length, blobs, zone⟩ => ?_⟩
    refine ⟨length, fun b hb => ?_, fun d hd => ?_⟩
    · obtain ⟨ordered, below, short⟩ := blobs b hb
      exact ⟨ordered, below.trans behind, short⟩
    · obtain ⟨ordered, below, short⟩ := zone d hd
      exact ⟨ordered, below.trans behind, short⟩
  rw [enablePart_eq]
  exact placed.trans (activate_flawFrame _).lists

/-- The line in assembly is abandoned, and A stays (R28). -/
theorem abandonLine_lists (s : State) : KeepsLists s (abandonLine s) := .same (.ofRecord rfl rfl (fun k => by cases k)) rfl rfl

/-- With every entry FREE nothing is OPEN (R28). -/
theorem clearBlobs_lists (s : State) : KeepsLists s { s with blobs := clearBlobs s.blobs } := by
  refine ⟨.ofRest rfl rfl, fun i => i.congr rfl, fun _ ⟨length, _⟩ => ⟨?_, fun b hb => ?_, fun d hd => ?_⟩⟩
  · exact List.length_map _ |>.trans length
  · simp [clearBlobs] at hb
  · cases hd

theorem disablePart_lists (s : State) : KeepsLists s (disablePart s) := by
  unfold disablePart
  exact ((((dropCopy_flawFrame s).lists.trans (.foldr (fun s n => stopStream_lists n s) _ _)).trans
    (abandonLine_lists _)).trans (clearBlobs_lists _)).trans
    ((disableScheduler_flawFrame _).lists.trans (abandonOrder_lists _))

theorem writeControl_lists (v : Nat) (s : State) : KeepsLists s (writeControl v s) := by
  unfold writeControl
  refine KeepsLists.trans ?_ (.ite (formLogLost_logFrame _).lists (.refl _))
  exact .ite (.trans (by exact .ofRest rfl) (enablePart_lists _))
    (.ite (.trans (by exact .ofRest rfl) (disablePart_lists _)) (.ofRest rfl))

theorem ringSet_lists (s : State) : KeepsLists s (ringSet s) := by
  unfold ringSet
  exact .trans (by exact .ofRest rfl) (abandonOrder_lists _)

theorem writeOrderSize_lists (v : Nat) (s : State) : KeepsLists s (writeOrderSize v s) := by
  unfold writeOrderSize
  exact .ite (issueEvent_logFrame _ _ s).lists (.trans (by exact .ofRest rfl) (ringSet_lists _))

theorem writeOrderTail_lists (v : Nat) (s : State) : KeepsLists s (writeOrderTail v s) := by
  unfold writeOrderTail
  exact .ite (issueEvent_logFrame _ _ s).lists (.ite (.ofRest rfl) (.ofRest rfl))

theorem writeLogRead_lists (v : Nat) (s : State) : KeepsLists s (writeLogRead v s) := by
  unfold writeLogRead
  exact .ite (.ofRest rfl) (issueEvent_logFrame _ _ s).lists

theorem actOn_lists {f : Nat → State → State} (h : ∀ v s, KeepsLists s (f v s)) (v : Option Nat) (s : State) :
    KeepsLists s (actOn v f s) := by
  unfold actOn
  split
  · exact h _ s
  · exact .refl s

/-- The actions of the control fields, in ascending offset (R174). -/
theorem latchAnchor_lists (w : UpWrite) (s : State) : KeepsLists s (latchAnchor w s) := by
  have base : ∀ v s, KeepsLists s (writeOrderBase v s) := fun v s => .trans (by exact .ofRest rfl) (ringSet_lists _)
  unfold latchAnchor
  refine KeepsLists.trans ?_ (actOn_lists (fun _ _ => .ofRest (by rfl)) _ _)
  refine KeepsLists.trans ?_ (actOn_lists (fun _ _ => .ofRest (by rfl)) _ _)
  refine KeepsLists.trans ?_ (actOn_lists (fun _ _ => .ofRest (by rfl)) _ _)
  refine KeepsLists.trans ?_ (actOn_lists (fun _ _ => .ofRest (by rfl)) _ _)
  refine KeepsLists.trans ?_ (actOn_lists writeLogRead_lists _ _)
  refine KeepsLists.trans ?_ (actOn_lists (fun _ _ => .ofRest (by rfl)) _ _)
  refine KeepsLists.trans ?_ (actOn_lists writeOrderTail_lists _ _)
  refine KeepsLists.trans ?_ (actOn_lists writeOrderSize_lists _ _)
  exact (actOn_lists writeControl_lists _ s).trans (actOn_lists base _ _)

/-! ### The Traffic Classifier -/

theorem refuseWrite_lists (w : UpWrite) (s : State) : KeepsLists s (refuseWrite w s) := by
  unfold refuseWrite
  exact ((KeepsLists.ite (issueEvent_logFrame _ _ s).lists (.refl s)).trans
    (.ite (issueEvent_logFrame _ _ _).lists (.refl _))).trans (.ofRest rfl)

theorem passWrite_lists (w : UpWrite) (b : Bool) (s : State) : KeepsLists s (passWrite w b s) := by
  unfold passWrite
  refine KeepsLists.trans ?_ (latchAnchor_lists _ _)
  refine KeepsLists.trans ?_ (takeStatus_flawFrame _ _).lists
  refine KeepsLists.trans ?_ (forwardPass_logFrame _ _).lists
  split
  · exact (takeStreamWrite_flawFrame _ _ _).lists
  · exact .refl s

theorem judgeWrite_lists (w : UpWrite) (m : TakeMode) (s : State) : KeepsLists s (judgeWrite w m s) := by
  unfold judgeWrite
  refine .ite (refuseWrite_lists w s) ?_
  split
  · exact passWrite_lists _ _ s
  · exact passWrite_lists _ _ s
  · split
    · exact (holdWrite_flawFrame _ _ s).lists
    · exact passWrite_lists _ _ s

theorem takeWrite_lists (w : UpWrite) (m : TakeMode) (s : State) : KeepsLists s (takeWrite w m s) := by
  unfold takeWrite
  split
  · exact (queueWrite_flawFrame _ _ s).lists
  · exact judgeWrite_lists _ _ s

theorem takeLetGo_lists (x : LetGo) (s : State) : KeepsLists s (takeLetGo x s) := by
  unfold takeLetGo
  exact .ite (queueWrite_flawFrame _ _ s).lists (takeWrite_lists _ _ s)

theorem arriveWrite_lists (w : UpWrite) (s : State) : KeepsLists s (arriveWrite w s) := by
  unfold arriveWrite
  exact .ite (.refl s) (takeWrite_lists w .arrive s)

theorem takeRead_lists (r : UpRead) (s : State) : KeepsLists s (takeRead r s) := by
  unfold takeRead
  have served : KeepsLists s (if (r.tag == s.window.ticket.tag) && (readPortions s r).any (fun q => !q.fromMemory)
    then tallyAdd .nullServed 1 s else s) := .ite (tallyAdd_logFrame _ _ s).lists (.refl s)
  have taken := served.trans (.ite (p := (r.tag == s.window.ticket.tag) = true)
    (.foldl (fun s q => (takeTicket_flawFrame q s).lists) (readPortions s r) _) (.refl _))
  exact .ite (taken.trans (.ofRest rfl)) (taken.trans (forwardPass_logFrame _ _).lists)

theorem writeAnswered_lists (tag : Nat) (o : Bool) (s : State) : KeepsLists s (writeAnswered tag o s) := by
  unfold writeAnswered
  split
  · exact .trans (by exact .ofRest rfl) (.foldl (fun s x => (resolveNote_flawFrame o s x).lists) _ _)
  · exact .refl s

theorem readAnswered_lists (tag : Nat) (b : ReadResult) (s : State) : KeepsLists s (readAnswered tag b s) := by
  unfold readAnswered
  split
  · exact .ite (.refl s) (.ofRest rfl)
  · exact .refl s

theorem takePassEvent_lists (e : PassEvent) (s : State) : KeepsLists s (takePassEvent e s) := by
  cases e with
  | write w => exact arriveWrite_lists w s
  | read r => exact takeRead_lists r s
  | writeResponse tag okay => exact writeAnswered_lists tag okay s
  | readResponse tag b => exact readAnswered_lists tag b s

theorem expireHold_lists (n : Nat) (s : State) : KeepsLists s (expireHold n s) := by
  unfold expireHold
  split
  · exact .refl s
  · rename_i h _
    have taken : KeepsLists s (takeWrite h.held .forced (modStream n (fun r => { r with hold := none }) s)) :=
      (modStream_flawFrame _ _ s).lists.trans (takeWrite_lists _ _ _)
    have told := taken.trans (issueEvent_logFrame .holdExpired [n, headerSlot s n h.held] _).lists
    exact told.trans (.ofRest rfl)

theorem drain_lists (f : Nat) (s : State) : KeepsLists s (drain f s) := by
  induction f generalizing s with
  | zero => exact .refl s
  | succ f ih =>
    unfold drain
    split
    · exact .refl s
    · exact ((KeepsLists.trans (by exact .ofRest rfl) (takeLetGo_lists _ _)).trans
        (refreshStatus_logFrame _ _).lists).trans (ih _)

theorem settleHolds_lists (f : Nat) (s : State) : KeepsLists s (settleHolds f s) := by
  induction f generalizing s with
  | zero => exact .refl s
  | succ f ih =>
    have settled := ((testSegments_flawFrame s).lists.trans (drain_lists 1024 _)).trans
      (advanceCapture_flawFrame _).lists
    unfold settleHolds
    dsimp only
    split
    · exact (settled.trans (endHold_lists _ _ _ _)).trans (ih _)
    · exact settled

/-- What a command leaves to be done keeps the line (R11). -/
theorem finish_lists {b s t : State} (h : KeepsLists s t) : KeepsLists s (finish b t) :=
  (h.trans (refreshStatus_logFrame b t).lists).trans (settleHolds_lists 256 _)

/-! ### Responses to own transactions -/

theorem ownAnswered_lists {p : Purpose → Bool} {fits : OwnTxn → Bool} {act : OwnTxn → State → State}
    (h : ∀ x s, KeepsLists s (act x s)) (s : State) : KeepsLists s (ownAnswered p fits act s) := by
  unfold ownAnswered
  split
  · exact .refl s
  · rename_i x s1 hx
    exact .ite (.ite ((answerOwn_lists hx).trans (h x s1)) (.refl s)) (answerOwn_lists hx)

theorem burstsAnswered_lists {p : Purpose → Bool} {act : List OwnTxn → State → State} {s : State} (rs : List ReadResult)
    (h : ∀ ts, KeepsLists (clearOut p s) (act ts (clearOut p s))) : KeepsLists s (burstsAnswered p rs act s) := by
  unfold burstsAnswered
  split
  · exact .refl s
  · exact .ite ((clearOut_logFrame p s).lists.trans (h _)) (.refl s)

theorem withOrder_lists {k : Nat} {act : List Byte → State → State} (h : ∀ o s, KeepsLists s (act o s)) (s : State) :
    KeepsLists s (withOrder k act s) := by
  unfold withOrder
  split
  · exact h _ s
  · exact .refl s

theorem grant_lists (s : State) : KeepsLists s (grant s) := by
  unfold grant
  split
  case h_4 => exact .ite (.ofRest rfl) (.ofRest rfl)
  all_goals exact .ofRest rfl

theorem orderAnswered_lists (r : ReadResult) (s : State) : KeepsLists s (orderAnswered r s) := by
  unfold orderAnswered
  split
  · exact .ite ((setPhase_lists _ s).trans (testNotBefore_lists _)) ((setPhase_lists _ s).trans (issueEvent_logFrame _ _ _).lists)
  · exact .refl s

theorem takeFenceWrite_lists (s : State) : KeepsLists s (takeFenceWrite s) := by
  unfold takeFenceWrite
  split
  · exact .ite (.ofRest rfl) (.refl s)
  · exact .refl s

theorem fenceAnswered_lists (okay : Bool) (s : State) : KeepsLists s (fenceAnswered okay s) := by
  unfold fenceAnswered
  split
  · exact endFence_lists _ _ _ s
  · exact .refl s

theorem refreshAnswered_lists (r : ReadResult) (s : State) : KeepsLists s (refreshAnswered r s) := by
  unfold refreshAnswered startRefresh failRefresh
  split
  · exact .ite (.ite (.ofRest rfl) (takeRefresh_lists _ _ s)) (.ite (complete_lists _ s) (complete_lists _ s))
  · exact .refl s

theorem tableAnswered_lists (r : ReadResult) (s : State) : KeepsLists s (tableAnswered r s) := by
  unfold tableAnswered
  split
  · exact .ite (loadTables_lists _ s) (complete_lists _ s)
  · exact .refl s

theorem completionAnswered_lists (okay : Bool) (s : State) : KeepsLists s (completionAnswered okay s) := by
  unfold completionAnswered
  split
  · exact headAdvance_lists _ _ s
  · exact .refl s

theorem reportEnded_lists (s : State) : KeepsLists s (reportEnded s) := by
  unfold reportEnded
  refine .ite (.refl s) ?_
  split
  · exact .refl s
  · exact ((clearOut_logFrame _ s).trans (setNotices_logFrame _ _)).lists.trans (endReport_lists _)
  · exact ((clearOut_logFrame _ s).trans (issueEvent_logFrame _ _ _)).lists.trans (endReport_lists _)

theorem failReport_lists (a : Nat) (s : State) : KeepsLists s (failReport a s) := by
  unfold failReport
  split
  · exact .ofRest rfl
  · exact .refl s
  · exact .refl s

theorem reportBurst_lists (s : State) (okay : Bool) : KeepsLists s (reportBurst s okay) := by
  unfold reportBurst
  split
  · exact .refl s
  · exact .trans (.ite (by exact .ofRest rfl) (.trans (by exact .ofRest rfl) (failReport_lists _ _)))
      (reportEnded_lists _)

theorem segmentAnswered_lists (c : Copy) (cs : CapStream) (n : Nat) (bs : List ReadResult) (s : State) :
    KeepsLists s (segmentAnswered c cs n bs s) := by
  unfold segmentAnswered
  exact .ite (.ofRest rfl) ((modStream_flawFrame _ _ s).trans (missSegment_copyFrame _ _).flaw).lists

theorem failCapture_lists (a : Nat) (s : State) : KeepsLists s (failCapture a s) := by
  unfold failCapture
  split
  · exact ((dropCopy_flawFrame s).trans (issueEvent_logFrame _ _ _).flaw).lists
  · exact .refl s

theorem rowAnswered_lists (okay : Bool) (x : OwnTxn) (s : State) : KeepsLists s (rowAnswered okay x s) := by
  unfold rowAnswered
  exact .ite (.ofRest rfl) (failCapture_lists _ s)

theorem headerAnswered_lists (okay : Bool) (x : OwnTxn) (s : State) : KeepsLists s (headerAnswered okay x s) := by
  have ended : ∀ c, KeepsLists s (endCapture c s) := fun c => by
    rw [endCapture_eq]
    exact .ite (.trans (captureLocked_flawFrame c s).lists (issueEvent_logFrame _ _ _).lists)
      (captureLocked_flawFrame c s).lists
  unfold headerAnswered
  split
  · exact .ite (ended _) (failCapture_lists _ s)
  · exact .refl s

theorem logAnswered_lists (okays : List Bool) (s : State) : KeepsLists s (logAnswered okays s) := by
  have waiting : ∀ s, KeepsLists s (takeWaitingRefresh s) := fun s => by
    unfold takeWaitingRefresh
    split
    · exact takeRefresh_lists _ _ s
    · exact .refl s
  unfold logAnswered
  split
  · exact (clearOut_logFrame _ s).lists
  · refine .ite (.refl s) ?_
    unfold groupAnswered
    have taken : KeepsLists s (clearOut (· == .log) { s with writer := { s.writer with inFlight := none } }) := .ofRest rfl
    exact (((taken.trans (.ite (groupWritten_logFrame _ _).lists (loseRecords_logFrame _ _).lists))).trans
      (waiting _)).trans (pumpLog_logFrame _).lists

theorem statusAnswered_lists (s : State) : KeepsLists s (statusAnswered s) := by
  have counted : KeepsLists s (countStatus { s with writer := { s.writer with statusOut := false } }) := by
    unfold countStatus
    split <;> exact .ofRest rfl
  unfold statusAnswered
  exact .ite (counted.trans (.ofRest rfl)) counted

/-! ### The Ticket Unit -/

theorem ownTicketAnswered_lists (p : Purpose → Bool) (okay : Bool) (s : State) :
    KeepsLists s (ownTicketAnswered p okay s) := by
  unfold ownTicketAnswered
  split
  · rename_i x s1 hx
    exact .ite ((answerOwn_lists hx).trans (ticketAnswered_flawFrame okay x s1).lists) (answerOwn_lists hx)
  · exact .refl s

/-! ### The commands -/

/-- A command's act, with the status block refreshed. -/
theorem refreshed_lists {b s t : State} (h : KeepsLists s t) : KeepsLists s (refreshStatus b t) :=
  h.trans (refreshStatus_logFrame b t).lists

/-- Every command that moves no count answers with a next state that keeps the line. -/
theorem exec_lists (c : Instr) (s : State) (hc : movesEncoder c = false) : ∃ t, exec c s = .next t ∧ KeepsLists s t := by
  cases c with
  | pinReset | forwardCount | reverseCount | invalidTransition => cases hc
  | headerWrite w | continuationWrite w | guardWrite w | statusWrite w | statusBlockGuard w | enable w | disable w
  | logClear w | orderRingSet w | orderTail w | logRead w | noticeEnable w | noticeAck w | captureRelease w
  | anchorWrite w => exact ⟨_, rfl, finish_lists (arriveWrite_lists w s)⟩
  | completingWriteResponse tag okay => exact ⟨_, rfl, finish_lists (writeAnswered_lists tag okay s)⟩
  | holdExpired n => exact ⟨_, rfl, .ite (finish_lists (expireHold_lists n s)) (.refl s)⟩
  | lineTimeout n => exact ⟨_, rfl, .ite (finish_lists (timeOutFill_lists n s)) (.refl s)⟩
  | streamLapsed n => exact ⟨_, rfl, .ite (finish_lists (lapseStream_flawFrame n s).lists) (.refl s)⟩
  | seedFetchDone n bs =>
    refine ⟨_, rfl, finish_lists ?_⟩
    split
    · exact burstsAnswered_lists bs fun _ => endSeed_lists _ _ _ _
    · exact (clearOut_logFrame _ s).lists
  | lineAssembly =>
    refine ⟨_, rfl, ?_⟩
    split
    · exact refreshed_lists (assembleLine_lists (arrivalDue_line ‹_›))
    · exact .refl s
  | assemblyTimeout =>
    refine ⟨_, rfl, ?_⟩
    split
    · exact refreshed_lists (assembleLine_lists (timeoutDue_line ‹_›))
    · exact .refl s
  | pixelFetchDone r =>
    refine ⟨_, rfl, finish_lists ?_⟩
    split
    · rename_i record hr
      exact burstsAnswered_lists r.bursts fun ts => analyseLine_lists r.early record ts r.bursts
        (s := clearOut Purpose.isPixel s) (by rw [clearOut_asm, hr]; rfl)
    · exact (clearOut_logFrame _ s).lists
  | forcingReached =>
    exact ⟨_, rfl, .ite (refreshed_lists (examineIfChanged_flawFrame (evaluate_flawFrame s)).lists) (.refl s)⟩
  | starved => exact ⟨_, rfl, .ite (refreshed_lists (evaluate_flawFrame s).lists) (.refl s)⟩
  | sealFailedCutPoint => exact ⟨_, rfl, .ite (refreshed_lists (plateChanged_flawFrame s).lists) (.refl s)⟩
  | sealWriteResponse slot okay | nullWriteResponse slot okay =>
    exact ⟨_, rfl, refreshed_lists (ownTicketAnswered_lists _ okay s)⟩
  | ticketRead r => exact ⟨_, rfl, refreshed_lists (takeRead_lists r s)⟩
  | cutMissed n => exact ⟨_, rfl, refreshed_lists (missPlate_flawFrame s n).lists⟩
  | passThrough e => exact ⟨_, rfl, finish_lists (takePassEvent_lists e s)⟩
  | arbiterGrant => exact ⟨_, rfl, grant_lists s⟩
  | orderFetch => exact ⟨_, rfl, .ite (refreshed_lists (.ofRest rfl)) (.refl s)⟩
  | orderFetchDone r => exact ⟨_, rfl, refreshed_lists (ownAnswered_lists (fun _ => orderAnswered_lists r) s)⟩
  | nop => exact ⟨_, rfl, refreshed_lists (withOrder_lists (fun _ => complete_lists _) s)⟩
  | badOrder => exact ⟨_, rfl, refreshed_lists (.ite (complete_lists _ s) (.refl s))⟩
  | fence => exact ⟨_, rfl, refreshed_lists (withOrder_lists takeFence_lists s)⟩
  | fenceWrite => exact ⟨_, rfl, refreshed_lists (takeFenceWrite_lists s)⟩
  | fenceWriteResponse okay => exact ⟨_, rfl, refreshed_lists (ownAnswered_lists (fun _ => fenceAnswered_lists okay) s)⟩
  | refresh => exact ⟨_, rfl, refreshed_lists (withOrder_lists takeRefreshOrder_lists s)⟩
  | refreshFetchDone r => exact ⟨_, rfl, refreshed_lists (ownAnswered_lists (fun _ => refreshAnswered_lists r) s)⟩
  | streamStart => exact ⟨_, rfl, refreshed_lists (withOrder_lists takeStreamStart_lists s)⟩
  | streamStop => exact ⟨_, rfl, finish_lists (withOrder_lists takeStreamStop_lists s)⟩
  | profileLoad | laneAssign | laneRelease => exact ⟨_, rfl, refreshed_lists (withOrder_lists handLaneOrder_lists s)⟩
  | tableLoad => exact ⟨_, rfl, refreshed_lists (withOrder_lists takeTableLoad_lists s)⟩
  | tableLoadFetchDone r => exact ⟨_, rfl, refreshed_lists (ownAnswered_lists (fun _ => tableAnswered_lists r) s)⟩
  | planSet => exact ⟨_, rfl, refreshed_lists (withOrder_lists takePlanSet_lists s)⟩
  | cutRequest => exact ⟨_, rfl, refreshed_lists (withOrder_lists takeCutRequest_lists s)⟩
  | restart =>
    exact ⟨_, rfl, withOrder_lists (fun _ s => (refreshed_lists (takeRestart_lists s)).trans (decideAfterRestart_lists _)) s⟩
  | shiftClose => exact ⟨_, rfl, refreshed_lists (withOrder_lists takeShiftOrder_lists s)⟩
  | completionWriteResponse okay =>
    exact ⟨_, rfl, refreshed_lists (ownAnswered_lists (fun _ => completionAnswered_lists okay) s)⟩
  | reportWriteResponse okays =>
    exact ⟨_, rfl, refreshed_lists (.ite (clearOut_logFrame _ s).lists (.foldl reportBurst_lists okays s))⟩
  | captureSegmentReadDone n bs =>
    refine ⟨_, rfl, finish_lists ?_⟩
    split
    · exact burstsAnswered_lists bs fun _ => segmentAnswered_lists _ _ _ bs _
    · exact (clearOut_logFrame _ s).lists
  | captureRowWriteDone okay => exact ⟨_, rfl, finish_lists (ownAnswered_lists (rowAnswered_lists okay) s)⟩
  | captureHeaderWriteDone okay => exact ⟨_, rfl, finish_lists (ownAnswered_lists (headerAnswered_lists okay) s)⟩
  | logWriteResponse okays => exact ⟨_, rfl, refreshed_lists (logAnswered_lists okays s)⟩
  | statusBlockWriteResponse okay => exact ⟨_, rfl, refreshed_lists (ownAnswered_lists (fun _ => statusAnswered_lists) s)⟩

end Sys2Proof.Machine
end

section
/-! SUPPORT. The step lemmas of the flaw list's and the OPEN blobs' invariants, and the parts of a flaw's routing (R77, R78, R80,
R81). -/

namespace Sys2Proof.Machine

/-! ### The commands -/

/-- The encoder's commands move the count, and decisions and misses follow. -/
theorem exec_encoder_lists {c : Instr} (s : State) (hc : movesEncoder c = true) (reset : c ≠ .pinReset) :
    ∃ e t, exec c s = .next t ∧ FlawFrame { s with enc := e } t := by
  cases c with
  | forwardCount =>
    refine ⟨s.enc.forward, _, exec_forwardCount s, FlawFrame.trans ?_ (refreshStatus_logFrame _ _).flaw⟩
    exact .ite ((examineIfChanged_flawFrame (evaluate_flawFrame _)).trans (takeMisses_flawFrame _)) (.refl _)
  | reverseCount =>
    obtain ⟨t, ht, f⟩ := exec_reverseCount_logFrame s
    exact ⟨_, t, ht, f.flaw⟩
  | invalidTransition =>
    obtain ⟨t, ht, f⟩ := exec_invalidTransition_logFrame s
    exact ⟨_, t, ht, f.flaw⟩
  | pinReset => exact absurd rfl reset
  | _ => cases hc

/-- Every command keeps the flaw list's invariant, and with A at or below E that of the OPEN blobs. -/
theorem exec_listInvs (c : Instr) (s : State) :
    ∃ t, exec c s = .next t ∧ (FlawListInv s → FlawListInv t) ∧ (LineInv s → BlobsInv s → BlobsInv t) := by
  cases hc : movesEncoder c with
  | false =>
    obtain ⟨t, ht, kept⟩ := exec_lists c s hc
    exact ⟨t, ht, kept.flaws, kept.blobs⟩
  | true =>
    by_cases reset : c = .pinReset
    · subst reset
      exact ⟨_, exec_pinReset s, fun _ => flawListInv_reset.congr rfl, fun _ _ => blobsInv_reset.congr rfl⟩
    · obtain ⟨e, t, ht, f⟩ := exec_encoder_lists s hc reset
      exact ⟨t, ht, fun i => f.flaws (i.congr rfl), fun _ i => i.congr (by rw [f.table, f.dense, f.plate.asm])⟩

theorem step_flaws {s t : State} (inv : FlawListInv s) (h : step s = .next t) : FlawListInv t := by
  unfold step at h
  split at h
  · obtain rfl := Host.Outcome.next.inj h
    exact inv
  · rename_i c rest _
    obtain ⟨u, hu, flaws, -⟩ := exec_listInvs c { s with pending := rest }
    obtain rfl := Host.Outcome.next.inj (h.symm.trans hu)
    exact flaws inv

theorem step_blobs {s t : State} (positions : PositionsInv s) (inv : BlobsInv s) (h : step s = .next t) : BlobsInv t := by
  obtain ⟨-, -, behind, below⟩ := positions
  unfold step at h
  split at h
  · obtain rfl := Host.Outcome.next.inj h
    exact inv
  · rename_i c rest _
    obtain ⟨u, hu, -, blobs⟩ := exec_listInvs c { s with pending := rest }
    obtain rfl := Host.Outcome.next.inj (h.symm.trans hu)
    exact blobs ⟨behind, below⟩ inv

/-! ### Numbers and offers -/

/-- A flaw takes the next flaw number (R77). -/
theorem raiseFlaw_of_lt {s : State} (h : s.blobs.nextFlaw < 2 ^ 32 - 1) (f : Flaw) :
    raiseFlaw f s = routeFlaw { f with num := s.blobs.nextFlaw }
      { s with blobs := { s.blobs with nextFlaw := s.blobs.nextFlaw + 1 } } := by
  have room : s.blobs.nextFlaw < Config.wordTop := h
  simp only [raiseFlaw, if_pos room]

/-- The number after the last is 1 (R77). -/
theorem raiseFlaw_of_top {s : State} (h : s.blobs.nextFlaw = 2 ^ 32 - 1) (f : Flaw) :
    raiseFlaw f s = routeFlaw { f with num := 2 ^ 32 - 1 } { s with blobs := { s.blobs with nextFlaw := 1 } } := by
  have top : ¬ 2 ^ 32 - 1 < Config.wordTop := by decide
  simp only [raiseFlaw, h, if_neg top]

/-- The Capture Engine is offered the blobs of a capture class (R78, R156). -/
theorem offered_iff (f : Flaw) (s : State) : (f.source == .blob && (classGrade s.grades f.cls).capture) = true ↔
    f.source = .blob ∧ (classGrade s.grades f.cls).capture = true := by
  rw [Bool.and_eq_true, beq_iff_eq]

/-- The Capture Engine's answer and what it starts, case by case (R78, R156). -/
theorem offerCapture_eq {s s0 : State} {f f0 : Flaw}
    (h : (¬ (f.source = .blob ∧ (classGrade s.grades f.cls).capture = true) ∧ f0 = f ∧ s0 = s) ∨
      ((f.source = .blob ∧ (classGrade s.grades f.cls).capture = true) ∧ ∃ k, captureSlotFor s = some k ∧
        f0 = { f with assigned := true, capSlot := k } ∧ s0 = startCopy k f.num f.c0 f.c1 f.y0 s) ∨
      ((f.source = .blob ∧ (classGrade s.grades f.cls).capture = true) ∧ captureSlotFor s = none ∧
        f0 = { f with notCaptured := true } ∧ s0 = tallyAdd .captureRejected 1 s)) :
    offerCapture f s = (f0, s0) := by
  rcases h with ⟨unwanted, rfl, rfl⟩ | ⟨wanted, k, slot, rfl, rfl⟩ | ⟨wanted, full, rfl, rfl⟩
  · exact if_neg (mt (offered_iff _ _).mp unwanted)
  · rw [offerCapture, if_pos ((offered_iff f s).mpr wanted), slot]
  · rw [offerCapture, if_pos ((offered_iff f s).mpr wanted), full]

end Sys2Proof.Machine

open Sys2Proof Sys2Proof.Machine

/-- Settles O58: every command keeps the order and the bounds; then the number, the route and the list, each by its rule. -/
theorem flawListKept : Obligations.FlawListKept := by
  unfold Obligations.FlawListKept
  refine ⟨fun s t => step_flaws, fun s f => ⟨fun room => raiseFlaw_of_lt room f, fun top => raiseFlaw_of_top top f⟩, ?_,
    fun s f => ⟨fun pre post split room before after => ?_, fun full closed => submitFlaw_of_full full closed,
      fun z full opened => submitFlaw_of_zone full opened⟩⟩
  · intro s s0 f f0 wanted answer
    have told : tallyAdd (.flaw f.cls) 1 (handGroup [.flaw f0] s0) = flawTold f s := by
      rw [flawTold, offerCapture_eq answer]
    dsimp only
    rw [told, routeFlaw_eq]
    refine ⟨fun outside => if_pos outside, fun inside idle => ?_, fun inside active reaches => ?_⟩
    · have passes : ¬ (s.sched.active && decide (s.sched.start ≤ f.y1)) = true := by
        rw [Bool.and_eq_true, decide_eq_true_eq]
        rintro ⟨active, reaches⟩
        rcases idle with inactive | passed
        · rw [inactive] at active
          cases active
        · omega
      rw [if_neg (by rw [inside]; exact Bool.false_ne_true), if_neg passes]
      rfl
    · rw [if_neg (by rw [inside]; exact Bool.false_ne_true), if_pos (by simp [active, reaches])]
      rfl
  · rw [submitFlaw_of_room room, split, insertFlaw_append before after]
end

section
/-! SUPPORT. The act over a line without runs (R64): how blobs and the dense zone close, and how a blob is classified (R69 to R76). -/

namespace Sys2Proof.Machine

/-! ### The end of a line (R69, R70) -/

/-- A blob at the end of line `l`: a run of the line is its previous hull, and the line its last (R69). -/
def Blob.ended (l : Nat) (b : Blob) : Blob :=
  match b.cur with
  | some h => { b with prev := some h, last := l, cur := none }
  | none => b

theorem endLine_opened (l : Nat) (b : Blob) : endLine l (.opened b) = .opened (b.ended l) := by
  cases run : b.cur with
  | some h => simp only [endLine, Blob.ended, run]
  | none => simp only [endLine, Blob.ended, run]

theorem endLine_stub (l : Nat) (t : Stub) : endLine l (.stub t) = .stub t := rfl

section
variable {l : Nat} {b : Blob}

theorem closeEntry_of_gap (h : b.last + b.gap < l) : closeEntry l (.opened b) = .free := if_pos (decide_eq_true h)

theorem closeEntry_of_length (h : l ≤ b.last + b.gap) (k : b.y0 + 4096 ≤ b.last + 1) : closeEntry l (.opened b) =
    .stub { num := b.num, polarity := b.polarity, last := b.last, prev := b.prev.getD (b.c0, b.c1), gap := b.gap } := by
  have near : ¬ closesByGap l b = true := by simpa [closesByGap] using h
  have long : closesByLength b = true := decide_eq_true k
  rw [closeEntry, if_neg near, if_pos long]

theorem closeEntry_of_open (h : l ≤ b.last + b.gap) (k : b.last + 1 < b.y0 + 4096) :
    closeEntry l (.opened b) = .opened b := by
  have near : ¬ closesByGap l b = true := by simpa [closesByGap] using h
  have short : ¬ closesByLength b = true := by simpa [closesByLength, Config.lengthLimit] using k
  rw [closeEntry, if_neg near, if_neg short]

theorem closings_of_gap (h : b.last + b.gap < l) : closings l [.opened b] = [(b, false)] := if_pos (decide_eq_true h)

theorem closings_of_length (h : l ≤ b.last + b.gap) (k : b.y0 + 4096 ≤ b.last + 1) :
    closings l [.opened b] = [(b, true)] := by
  have near : ¬ closesByGap l b = true := by simpa [closesByGap] using h
  have long : closesByLength b = true := decide_eq_true k
  rw [closings, if_neg near, if_pos long]
  rfl

theorem closings_of_open (h : l ≤ b.last + b.gap) (k : b.last + 1 < b.y0 + 4096) : closings l [.opened b] = [] := by
  have near : ¬ closesByGap l b = true := by simpa [closesByGap] using h
  have short : ¬ closesByLength b = true := by simpa [closesByLength, Config.lengthLimit] using k
  rw [closings, if_neg near, if_neg short]
  rfl

theorem closeEntry_stub_of_gap {t : Stub} (h : t.last + t.gap < l) : closeEntry l (.stub t) = .free := if_pos h

theorem closeEntry_stub_of_open {t : Stub} (h : l ≤ t.last + t.gap) : closeEntry l (.stub t) = .stub t :=
  if_neg (Nat.not_lt.mpr h)

end

/-! ### A table of FREE entries but one -/

/-- FREE entries stay so at the end of a line. -/
theorem endLine_free {es : List BlobEntry} (h : ∀ e ∈ es, e = .free) (l : Nat) : es.map (fun e => closeEntry l (endLine l e)) = es :=
  (List.map_congr_left fun e he => by rw [h e he]; rfl).trans (List.map_id es)

theorem closings_free_append {es : List BlobEntry} (h : ∀ e ∈ es, e = .free) (l : Nat) (fs : List BlobEntry) :
    closings l (es.map (endLine l) ++ fs) = closings l fs := by
  induction es with
  | nil => rfl
  | cons e es ih =>
    obtain ⟨rfl, rest⟩ := List.forall_mem_cons.mp h
    exact ih rest

/-- No entry but one closes. -/
theorem closings_alone {pre post : List BlobEntry} (h : ∀ e ∈ pre ++ post, e = .free) (l : Nat) (e : BlobEntry) :
    closings l ((pre ++ e :: post).map (endLine l)) = closings l [endLine l e] := by
  obtain ⟨before, after⟩ := List.forall_mem_append.mp h
  have rest : closings l (post.map (endLine l)) = [] := by
    simpa [closings] using closings_free_append after l []
  rw [List.map_append, closings_free_append before, List.map_cons]
  cases endLine l e with
  | free => exact rest
  | stub t => exact rest
  | opened b => rw [closings, closings, rest]; rfl

/-- No split is due on the next line. -/
theorem takeSplits_of_none {l : Nat} {s : State} (h : l + 1 ∉ s.blobs.splits) : takeSplits l s = s := by
  have kept : s.blobs.splits.filter (fun c => c != l + 1) = s.blobs.splits :=
    List.filter_eq_self.mpr fun c hc => by simpa using fun (e : c = l + 1) => h (e ▸ hc)
  have none : s.blobs.splits.filter (fun c => c == l + 1) = [] :=
    List.filter_eq_nil_iff.mpr fun c hc => by simpa using fun (e : c = l + 1) => h (e ▸ hc)
  rw [takeSplits, none, kept]
  rfl

theorem testDense_of_none {s : State} (h : s.blobs.dense = none) (l : Nat) : testDense l s = s := by
  rw [testDense, h]

theorem closeBlob_splits (s : State) (x : Blob × Bool) : (closeBlob s x).blobs.splits = s.blobs.splits := by
  unfold closeBlob
  split
  · rfl
  · obtain ⟨n, blobs⟩ := raiseFlaw_blobs (blobFlaw s x.1 x.2) s
    rw [blobs]

theorem blobsClosed_splits (l : Nat) (s : State) : (blobsClosed l s).blobs.splits = s.blobs.splits := by
  have kept : ∀ (xs : List (Blob × Bool)) (t : State), (xs.foldl closeBlob t).blobs.splits = t.blobs.splits := by
    intro xs
    induction xs with
    | nil => exact fun _ => rfl
    | cons x xs ih => exact fun t => (ih _).trans (closeBlob_splits t x)
  exact kept _ _

/-- The act over a line without runs, a dense zone or a split (R64). -/
theorem blobAct_of_quiet {s : State} {l : Nat} (dense : s.blobs.dense = none) (splits : l + 1 ∉ s.blobs.splits) :
    blobAct l [] [] [] s = blobsClosed l s := by
  have closed : (blobsClosed l s).blobs.dense = none := (blobsClosed_flawFrame l s).dense.trans dense
  calc blobAct l [] [] [] s = takeSplits l (testDense l (blobsClosed l s)) := rfl
    _ = takeSplits l (blobsClosed l s) := by rw [testDense_of_none closed]
    _ = blobsClosed l s := takeSplits_of_none (by rw [blobsClosed_splits]; exact splits)

/-- What becomes of the table's only entry, and what is told of it. -/
theorem blobAct_of_alone {s : State} {l : Nat} {e : BlobEntry} {pre post : List BlobEntry}
    (table : s.blobs.table = pre ++ e :: post) (free : ∀ e ∈ pre ++ post, e = .free) (dense : s.blobs.dense = none)
    (splits : l + 1 ∉ s.blobs.splits) : blobAct l [] [] [] s = (closings l [endLine l e]).foldl closeBlob
      { s with blobs := { s.blobs with table := pre ++ closeEntry l (endLine l e) :: post } } := by
  obtain ⟨before, after⟩ := List.forall_mem_append.mp free
  have closed : (s.blobs.table.map (endLine l)).map (closeEntry l) = pre ++ closeEntry l (endLine l e) :: post := by
    rw [table, List.map_map, List.map_append, List.map_cons]
    exact congrArg₂ (· ++ ·) (endLine_free before l) (congrArg (_ :: ·) (endLine_free after l))
  rw [blobAct_of_quiet dense splits, blobsClosed, tableClosed, closed, table, closings_alone free]

/-! ### Classes (R76) -/

theorem accepts_iff (r : RulePolarity) (p : Polarity) :
    r.accepts p = true ↔ r = .any ∨ (r = .dark ∧ p = .dark) ∨ (r = .bright ∧ p = .bright) := by
  cases r <;> cases p <;> decide

theorem ruleMatches_iff (r : ClassRule) (p : Polarity) (area elong peak : Nat) : ruleMatches r p area elong peak = true ↔
    (r.polarity = .any ∨ (r.polarity = .dark ∧ p = .dark) ∨ (r.polarity = .bright ∧ p = .bright)) ∧
      r.areaMin ≤ area ∧ area ≤ r.areaMax ∧ r.elongMin ≤ elong ∧ elong ≤ r.elongMax ∧ r.minPeak ≤ peak := by
  simp only [ruleMatches, Bool.and_eq_true, decide_eq_true_eq, accepts_iff, and_assoc]

/-- The first rule that matches gives the class. -/
theorem classify_of_first {p : Polarity} {area elong peak : Nat} {pre post : List ClassRule} {r : ClassRule}
    (h : ruleMatches r p area elong peak = true) (none : ∀ q ∈ pre, ruleMatches q p area elong peak = false) :
    classify (pre ++ r :: post) p area elong peak = pre.length := by
  have found : (pre ++ r :: post).findIdx? (fun r => ruleMatches r p area elong peak) = some pre.length := by
    rw [List.findIdx?_append, List.findIdx?_eq_none_iff.mpr none, List.findIdx?_cons, if_pos h]
    simp
  rw [classify, found]

theorem classify_of_none {p : Polarity} {area elong peak : Nat} {rules : List ClassRule}
    (h : ∀ r ∈ rules, ruleMatches r p area elong peak = false) : classify rules p area elong peak = 7 := by
  rw [classify, List.findIdx?_eq_none_iff.mpr h]

/-! ### The dense zone (R72, R73) -/

section
variable {s : State} {d : DenseZone}

theorem testDense_of_length (h : s.blobs.dense = some d) (l : Nat) (long : d.y0 + 4096 ≤ d.y1 + 1) : testDense l s =
    raiseFlaw (denseFlaw d true) { s with blobs := { s.blobs with dense := none, mark := some d.y1 } } := by
  rw [testDense, h]
  exact if_pos long

theorem testDense_of_gap (h : s.blobs.dense = some d) {l : Nat} (short : d.y1 + 1 < d.y0 + 4096) (ended : d.y1 + 8 ≤ l) :
    testDense l s = raiseFlaw (denseFlaw d false) { s with blobs := { s.blobs with dense := none } } := by
  have notLong : ¬ d.y0 + Config.lengthLimit ≤ d.y1 + 1 := Nat.not_le.mpr short
  rw [testDense, h]
  exact (if_neg notLong).trans (if_pos (by omega))

theorem testDense_of_open (h : s.blobs.dense = some d) {l : Nat} (short : d.y1 + 1 < d.y0 + 4096) (near : l < d.y1 + 8) :
    testDense l s = s := by
  have notLong : ¬ d.y0 + Config.lengthLimit ≤ d.y1 + 1 := Nat.not_le.mpr short
  rw [testDense, h]
  exact (if_neg notLong).trans (if_neg (by omega))

end

end Sys2Proof.Machine

open Sys2Proof Sys2Proof.Machine

/-- Settles O59: every command keeps the bounds; then each way to close, each by its rule. -/
theorem blobsKept : Obligations.BlobsKept := by
  unfold Obligations.BlobsKept
  refine ⟨fun s t => step_blobs, ?_, ?_, ?_, ?_, ?_, ?_⟩
  · intro s l b pre post table free dense splits put x cls flaw stub speck
    have ended : endLine l (.opened b) = .opened x := endLine_opened l b
    have act := blobAct_of_alone table free dense splits
    rw [ended] at act
    refine ⟨fun gap => ?_, fun near long => ?_, fun near short => ?_⟩
    · rw [act, closings_of_gap gap, closeEntry_of_gap gap]
      rfl
    · rw [act, closings_of_length near long, closeEntry_of_length near long]
      rfl
    · rw [act, closings_of_open near short, closeEntry_of_open near short]
      rfl
  · intro s l t pre post table free dense splits
    have act := blobAct_of_alone table free dense splits
    refine ⟨fun gap => act.trans ?_, fun near => act.trans ?_⟩
    · rw [endLine_stub, closeEntry_stub_of_gap gap]
      rfl
    · rw [endLine_stub, closeEntry_stub_of_open near, ← table]
      rfl
  · intro rules p area elong peak
    refine ⟨fun r => ruleMatches_iff r p area elong peak, ?_, classify_of_none, fun _ _ => rfl⟩
    rintro pre r post rfl first none
    exact classify_of_first first none
  · intro s l c0 c1 dropped overflow within least greatest
    have hull := droppedHull_eq_some within least greatest
    refine ⟨fun closed => ?_, fun d opened => ?_⟩
    · simp only [feedDense, hull, closed]
      rfl
    · simp only [feedDense, hull, opened]
      rfl
  · intro s l d dense
    exact ⟨rfl, fun long => testDense_of_length dense l long, fun short ended => testDense_of_gap dense short ended,
      fun short near => testDense_of_open dense short near⟩
  · intro s l g
    refine ⟨fun closed => ?_, fun z opened => ?_⟩
    · simp only [takeCoverage, closed]
      exact ⟨rfl, rfl⟩
    · simp only [takeCoverage, opened]
      refine ⟨rfl, fun covered => ?_, fun y last => ?_⟩
      · rw [covered]
        rfl
      · rw [last]
        rfl
end

section
/-! SUPPORT. What a decision puts in the queue and what it leaves of the scheduler (R111, R112, R118), and how a cut splits the gap
zones (R75). -/

namespace Sys2Proof.Machine

/-! ### What offers and seals leave of a plate -/

theorem Plate.eq_of_core {p q : Plate} (h : p.core = q.core) : p = { q with state := p.state, pieces := p.pieces } := by
  cases p
  cases q
  simp only [Plate.core, Plate.mk.injEq] at h ⊢
  tauto

theorem applyToPlate_core (g : GradeTable) (f : Offer) (p : Plate) : (applyToPlate g f p).core = p.core := by
  unfold applyToPlate
  split
  · rfl
  · rfl

theorem plateWithFlaws_core (s : State) (p : Plate) : (plateWithFlaws s p).core = p.core := by
  have offers : ∀ (fs : List Offer) (p : Plate), (fs.foldl (fun p f => applyToPlate s.grades f p) p).core = p.core := by
    intro fs
    induction fs with
    | nil => exact fun _ => rfl
    | cons f fs ih => exact fun p => (ih _).trans (applyToPlate_core _ _ p)
  exact offers _ p

/-- The scheduler is as before but for the plates' states and accounts, the flaw list and the overflow zone. -/
def SchedKept (x y : Scheduler) : Prop := ∃ (g : Plate → Plate) (flaws : List ListedFlaw) (zone : Option Zone),
  (∀ p, (g p).core = p.core) ∧ y = { x with queue := x.queue.map g, flaws := flaws, zone := zone }

theorem SchedKept.ofLists (x : Scheduler) (flaws : List ListedFlaw) (zone : Option Zone) :
    SchedKept x { x with flaws := flaws, zone := zone } := ⟨id, flaws, zone, fun _ => rfl, by rw [List.map_id]⟩

theorem SchedKept.refl (x : Scheduler) : SchedKept x x := .ofLists x _ _

theorem SchedKept.ofQueue (x : Scheduler) (g : Plate → Plate) (h : ∀ p, (g p).core = p.core) :
    SchedKept x { x with queue := x.queue.map g } := ⟨g, x.flaws, x.zone, h, rfl⟩

theorem SchedKept.trans {x y z : Scheduler} (h : SchedKept x y) (k : SchedKept y z) : SchedKept x z := by
  obtain ⟨g, _, _, hg, rfl⟩ := h
  obtain ⟨g', flaws, zone, hg', rfl⟩ := k
  exact ⟨g' ∘ g, flaws, zone, fun p => (hg' _).trans (hg p), by rw [← List.map_map]⟩

theorem submitFlaw_kept (f : ListedFlaw) (s : State) : SchedKept s.sched (submitFlaw f s).sched := by
  unfold submitFlaw
  split
  · exact .ofLists ..
  · split
    · exact .ofLists ..
    · rw [(issueEvent_logFrame _ _ _).sched]
      exact .ofLists ..

theorem offerPlates_kept (f : Flaw) (s : State) : SchedKept s.sched (offerPlates f s).sched := by
  refine .ofQueue _ _ fun p => ?_
  split
  · exact applyToPlate_core ..
  · rfl

theorem routeFlaw_kept (f : Flaw) (s : State) : SchedKept s.sched (routeFlaw f s).sched := by
  have offered : SchedKept s.sched (offerPlates f (flawTold f s)).sched := by
    rw [← flawTold_sched f s]
    exact offerPlates_kept f _
  rw [routeFlaw_eq]
  split
  · rw [flawTold_sched]
    exact .refl _
  · split
    · exact offered.trans (submitFlaw_kept _ _)
    · exact offered

/-- A flaw with its number, and the state in which it is routed (R77). -/
theorem raiseFlaw_routed (f : Flaw) (s : State) : ∃ n m, raiseFlaw f s =
    routeFlaw { f with num := n } { s with blobs := { s.blobs with nextFlaw := m } } := ⟨_, _, rfl⟩

theorem raiseFlaw_kept (f : Flaw) (s : State) : SchedKept s.sched (raiseFlaw f s).sched := by
  obtain ⟨n, m, routed⟩ := raiseFlaw_routed f s
  rw [routed]
  exact routeFlaw_kept { f with num := n } { s with blobs := { s.blobs with nextFlaw := m } }

theorem raiseFlaws_kept (fs : List Flaw) (s : State) : SchedKept s.sched (raiseFlaws fs s).sched := by
  induction fs generalizing s with
  | nil => exact .refl _
  | cons f fs ih => exact (raiseFlaw_kept f s).trans (ih _)

/-! ### The flaws that a decision leaves listed (R82) -/

theorem mem_submitFlaw {f g : ListedFlaw} {s : State} (h : g ∈ (submitFlaw f s).sched.flaws) :
    g = f ∨ g ∈ s.sched.flaws := by
  unfold submitFlaw at h
  split at h
  · exact mem_insertFlaw.mp h
  · split at h
    · exact .inr h
    · rw [(issueEvent_logFrame _ _ _).sched] at h
      exact .inr h

/-- What a flaw's route puts in the list ends at or beyond S. -/
theorem mem_routeFlaw {f : Flaw} {g : ListedFlaw} {s : State} (h : g ∈ (routeFlaw f s).sched.flaws) :
    s.sched.start ≤ g.y1 ∨ g ∈ s.sched.flaws := by
  have offered : (offerPlates f (flawTold f s)).sched.flaws = s.sched.flaws := by
    rw [← flawTold_sched f s]
    rfl
  rw [routeFlaw_eq] at h
  split at h
  · rw [flawTold_sched] at h
    exact .inr h
  · split at h
    · rename_i taken
      rw [Bool.and_eq_true, decide_eq_true_eq] at taken
      rcases mem_submitFlaw h with rfl | old
      · exact .inl taken.2
      · exact .inr (offered ▸ old)
    · exact .inr (offered ▸ h)

theorem mem_raiseFlaw {f : Flaw} {g : ListedFlaw} {s : State} (h : g ∈ (raiseFlaw f s).sched.flaws) :
    s.sched.start ≤ g.y1 ∨ g ∈ s.sched.flaws := by
  obtain ⟨n, m, routed⟩ := raiseFlaw_routed f s
  rw [routed] at h
  exact mem_routeFlaw (s := { s with blobs := { s.blobs with nextFlaw := m } }) h

theorem mem_raiseFlaws {fs : List Flaw} {g : ListedFlaw} {s : State} (h : g ∈ (raiseFlaws fs s).sched.flaws) :
    s.sched.start ≤ g.y1 ∨ g ∈ s.sched.flaws := by
  induction fs generalizing s with
  | nil => exact .inr h
  | cons f fs ih =>
    obtain ⟨_, _, _, -, kept⟩ := raiseFlaw_kept f s
    rcases ih (s := raiseFlaw f s) h with beyond | old
    · rw [kept] at beyond
      exact .inl beyond
    · exact mem_raiseFlaw old

/-! ### The decision (R111) -/

theorem decidePlate_kept (p : Plan) (cut : Nat) (kind : PlateKind) (isForced unverified : Bool) (s : State) :
    SchedKept (schedDecided (newPlate p cut kind isForced unverified s) s)
      (decidePlate p cut kind isForced unverified s).sched := by
  obtain ⟨flaws, t, decided, -, -, -, g, core, sched⟩ := decidePlate_eq p cut kind isForced unverified s
  rw [decided]
  refine SchedKept.trans ?_ (raiseFlaws_kept flaws t)
  rw [sched]
  exact .ofQueue (schedDecided (newPlate p cut kind isForced unverified s) s) g core

/-- No listed flaw ends before the cut (R82). -/
theorem decidePlate_listed {p : Plan} {cut : Nat} {kind : PlateKind} {isForced unverified : Bool} {s : State} {f : ListedFlaw}
    (h : f ∈ (decidePlate p cut kind isForced unverified s).sched.flaws) : cut ≤ f.y1 := by
  obtain ⟨flaws, t, decided, -, -, -, g, -, sched⟩ := decidePlate_eq p cut kind isForced unverified s
  rw [decided] at h
  rcases mem_raiseFlaws h with beyond | old
  · rw [sched] at beyond
    exact beyond
  · rw [sched] at old
    exact of_decide_eq_true (List.mem_filter.mp old).2

/-- The new plate is the queue's last (R111). -/
theorem decidePlate_last (p : Plan) (cut : Nat) (kind : PlateKind) (isForced unverified : Bool) (s : State) :
    ∃ state pieces, (decidePlate p cut kind isForced unverified s).sched.queue.getLast? =
      some { newPlate p cut kind isForced unverified s with state := state, pieces := pieces } := by
  obtain ⟨g, flaws, zone, core, kept⟩ := decidePlate_kept p cut kind isForced unverified s
  have last := Plate.eq_of_core ((core _).trans (plateWithFlaws_core s (newPlate p cut kind isForced unverified s)))
  have entered : (decidePlate p cut kind isForced unverified s).sched.queue.getLast? =
      some (g (plateWithFlaws s (newPlate p cut kind isForced unverified s))) := by
    rw [kept]
    simp [schedDecided]
  exact ⟨_, _, entered.trans (congrArg some last)⟩

/-! ### The gap zones that a cut splits (R75) -/

theorem splitGap_eq_some_iff {s : State} {c g : Nat} {analysed : Bool} {x : Flaw × GapZone} :
    splitGap s c analysed g = some x ↔ ∃ z, s.blobs.gaps.getD g none = some z ∧ z.y0 < c ∧ z.last ≠ none ∧
      x = (gapFlaw s g z (c - 1) true, { y0 := c, last := if analysed then z.last else none, continuation := true }) := by
  unfold splitGap
  cases s.blobs.gaps.getD g none with
  | none => exact ⟨nofun, fun ⟨z, h, _⟩ => nomatch h⟩
  | some z =>
    have test : (decide (z.y0 < c) && z.last.isSome) = true ↔ z.y0 < c ∧ z.last ≠ none := by
      rw [Bool.and_eq_true, decide_eq_true_eq, Option.isSome_iff_ne_none]
    dsimp only
    split
    · rename_i split
      obtain ⟨above, last⟩ := test.mp split
      refine ⟨fun h => ⟨z, rfl, above, last, (Option.some.inj h).symm⟩, ?_⟩
      rintro ⟨z', same, -, -, rfl⟩
      rw [Option.some.inj same]
    · rename_i whole
      refine ⟨nofun, ?_⟩
      rintro ⟨z', same, above, last, -⟩
      obtain rfl := Option.some.inj same
      exact absurd (test.mpr ⟨above, last⟩) whole

/-- One group's part of a split. -/
def splitInto (s : State) (c : Nat) (analysed : Bool) (t : State) (g : Nat) : State :=
  match splitGap s c analysed g with
  | some x => setGap g (some x.2) t
  | none => t

theorem splitGaps_foldl (c : Nat) (analysed : Bool) (s : State) :
    (splitGaps c analysed s).2 = (List.range Config.groupCount).foldl (splitInto s c analysed) s := by
  unfold splitGaps splitInto
  rfl

section
variable {s : State} {c : Nat} {analysed : Bool}

theorem splitInto_eq (s : State) (c : Nat) (analysed : Bool) (t : State) (g : Nat) : splitInto s c analysed t g =
    { t with blobs := { t.blobs with gaps := (splitInto s c analysed t g).blobs.gaps } } := by
  unfold splitInto
  cases splitGap s c analysed g with
  | none => rfl
  | some x => rfl

theorem splitInto_length (t : State) (g : Nat) :
    (splitInto s c analysed t g).blobs.gaps.length = t.blobs.gaps.length := by
  unfold splitInto
  cases splitGap s c analysed g with
  | none => rfl
  | some x => exact List.length_set

theorem splitInto_of_none {g : Nat} (h : splitGap s c analysed g = none) (t : State) (k : Nat) :
    (splitInto s c analysed t k).blobs.gaps.getD g none = t.blobs.gaps.getD g none := by
  unfold splitInto
  cases e : splitGap s c analysed k with
  | none => rfl
  | some x =>
    have other : k ≠ g := fun same => by rw [same, h] at e; cases e
    exact congrArg (Option.getD · none) (List.getElem?_set_ne other)

theorem splitInto_of_some {g : Nat} {x : Flaw × GapZone} (h : splitGap s c analysed g = some x) {t : State}
    (inside : g < t.blobs.gaps.length) {k : Nat} (done : k = g ∨ t.blobs.gaps.getD g none = some x.2) :
    (splitInto s c analysed t k).blobs.gaps.getD g none = some x.2 := by
  by_cases same : k = g
  · subst same
    rw [splitInto, h]
    exact congrArg (Option.getD · none) (List.getElem?_set_self inside)
  · have before := done.resolve_left same
    unfold splitInto
    cases splitGap s c analysed k with
    | none => exact before
    | some y => exact (congrArg (Option.getD · none) (List.getElem?_set_ne same)).trans before

end

/-- A split changes gap zones alone. -/
theorem splitGaps_eq (s : State) (c : Nat) (analysed : Bool) : (splitGaps c analysed s).2 =
    { s with blobs := { s.blobs with gaps := (splitGaps c analysed s).2.blobs.gaps } } := by
  have fold : ∀ (l : List Nat) (t : State), l.foldl (splitInto s c analysed) t =
      { t with blobs := { t.blobs with gaps := (l.foldl (splitInto s c analysed) t).blobs.gaps } } := by
    intro l
    induction l with
    | nil => exact fun _ => rfl
    | cons k l ih =>
      intro t
      rw [List.foldl_cons, ih, splitInto_eq]
  rw [splitGaps_foldl]
  exact fold _ s

/-- A group that the cut does not split keeps its zone. -/
theorem splitGaps_of_none {s : State} {c g : Nat} {analysed : Bool} (h : splitGap s c analysed g = none) :
    (splitGaps c analysed s).2.blobs.gaps.getD g none = s.blobs.gaps.getD g none := by
  have fold : ∀ (l : List Nat) (t : State),
      (l.foldl (splitInto s c analysed) t).blobs.gaps.getD g none = t.blobs.gaps.getD g none := by
    intro l
    induction l with
    | nil => exact fun _ => rfl
    | cons k l ih => exact fun t => (ih _).trans (splitInto_of_none h t k)
  rw [splitGaps_foldl]
  exact fold _ s

/-- A group that the cut splits has its zone reopened at the cut. -/
theorem splitGaps_of_some {s : State} {c g : Nat} {analysed : Bool} {x : Flaw × GapZone}
    (h : splitGap s c analysed g = some x) (below : g < 64) (inside : g < s.blobs.gaps.length) :
    (splitGaps c analysed s).2.blobs.gaps.getD g none = some x.2 := by
  have fold : ∀ (l : List Nat) (t : State), g < t.blobs.gaps.length → g ∈ l ∨ t.blobs.gaps.getD g none = some x.2 →
      (l.foldl (splitInto s c analysed) t).blobs.gaps.getD g none = some x.2 := by
    intro l
    induction l with
    | nil => exact fun t _ done => done.resolve_left List.not_mem_nil
    | cons k l ih =>
      intro t inside done
      refine ih _ (by rw [splitInto_length]; exact inside) ?_
      by_cases later : g ∈ l
      · exact .inl later
      · refine .inr (splitInto_of_some h inside ?_)
        exact done.imp_left fun here => ((List.mem_cons.mp here).resolve_right later).symm
  rw [splitGaps_foldl]
  exact fold _ s inside (.inl (List.mem_range.mpr below))

/-- The gap zones that a cut closes. -/
theorem mem_splitGaps {s : State} {c : Nat} {analysed : Bool} {f : Flaw} : f ∈ (splitGaps c analysed s).1 ↔
    ∃ g < 64, ∃ z, s.blobs.gaps.getD g none = some z ∧ z.y0 < c ∧ z.last ≠ none ∧ f = gapFlaw s g z (c - 1) true := by
  have closed : f ∈ (splitGaps c analysed s).1 ↔
      ∃ g ∈ List.range Config.groupCount, (splitGap s c analysed g).map Prod.fst = some f := List.mem_filterMap
  rw [closed]
  refine exists_congr fun g => and_congr List.mem_range ?_
  rw [Option.map_eq_some_iff]
  constructor
  · rintro ⟨x, part, rfl⟩
    obtain ⟨z, zone, above, last, rfl⟩ := splitGap_eq_some_iff.mp part
    exact ⟨z, zone, above, last, rfl⟩
  · rintro ⟨z, zone, above, last, rfl⟩
    exact ⟨_, splitGap_eq_some_iff.mpr ⟨z, zone, above, last, rfl⟩, rfl⟩

end Sys2Proof.Machine

open Sys2Proof Sys2Proof.Machine

/-- Settles O23: the decision's scheduler, the plate's offers, the cut handed to the Blob Tracker, and its split. -/
theorem decisionTaken : Obligations.DecisionTaken := by
  unfold Obligations.DecisionTaken
  refine ⟨fun p cut kind isForced unverified s => ?_, fun s q => ?_, fun s cut => ⟨fun later => ?_, fun now => ?_⟩,
    fun s cut analysed length => ⟨splitGaps_eq s cut analysed, fun g below => ?_, fun f => ?_⟩⟩
  · obtain ⟨state, pieces, last⟩ := decidePlate_last p cut kind isForced unverified s
    have listed := fun f => decidePlate_listed (p := p) (cut := cut) (kind := kind) (isForced := isForced)
      (unverified := unverified) (s := s) (f := f)
    obtain ⟨g, flaws, zone, -, kept⟩ := decidePlate_kept p cut kind isForced unverified s
    refine ⟨by rw [kept]; rfl, by rw [kept]; rfl, by rw [kept]; rfl, ?_, ⟨_, last, rfl, rfl, rfl, rfl, rfl, rfl, rfl, rfl, rfl,
      rfl, rfl, rfl, rfl, rfl⟩, listed, ?_, (decidePlate_plateFrame p cut kind isForced unverified s).eq_with⟩
    · rw [kept]
      simp [schedDecided]
    · rw [kept]
      exact if_congr beq_iff_eq rfl rfl
  · have same : ∀ y0 y1, decide (y0 < q.cut ∧ q.start ≤ y1) = q.overlaps y0 y1 := fun y0 y1 => Bool.decide_and _ _
    simp only [same]
    exact ⟨rfl, rfl⟩
  · exact if_neg (by omega)
  · exact if_pos now
  · have inside : g < s.blobs.gaps.length := by rw [length]; exact below
    cases part : splitGap s cut analysed g with
    | none =>
      rw [splitGaps_of_none part]
      cases zone : s.blobs.gaps.getD g none with
      | none => rfl
      | some z =>
        have whole : ¬ (z.y0 < cut ∧ z.last ≠ none) := fun ⟨above, last⟩ => by
          rw [splitGap_eq_some_iff.mpr ⟨z, zone, above, last, rfl⟩] at part
          cases part
        exact (if_neg whole).symm
    | some x =>
      rw [splitGaps_of_some part below inside]
      obtain ⟨z, zone, above, last, rfl⟩ := splitGap_eq_some_iff.mp part
      rw [zone]
      exact (if_pos ⟨above, last⟩).symm
  · exact mem_splitGaps
end

section
/-! SUPPORT. One evaluation of the decision at S, case by case (R101, R102, R107 to R110); that S moves by a line at least, to rest at
most beyond what A and E reach; and a full queue (R109). -/

namespace Sys2Proof.Machine

/-! ### The request and the forcing position -/

/-- A request nearer than the cutter pitch is refused (R102). -/
theorem testRequest_of_late {p : Plan} {s : State} {x : Nat} (h : s.sched.request = some x) (late : x < s.sched.start + p.pitch) :
    testRequest p s = issueEvent .requestLate [x, s.sched.start] { s with sched := { s.sched with request := none } } := by
  rw [testRequest, h]
  exact if_pos late

theorem testRequest_of_stands {p : Plan} {s : State} (h : ∀ x, s.sched.request = some x → s.sched.start + p.pitch ≤ x) :
    testRequest p s = s := by
  unfold testRequest
  split
  · rename_i x request
    exact if_neg (Nat.not_lt.mpr (h x request))
  · rfl

/-- Of the scheduler the test of the request changes the request alone. -/
theorem testRequest_sched (p : Plan) (s : State) : ∃ r, (testRequest p s).sched = { s.sched with request := r } := by
  unfold testRequest
  split
  · split
    · exact ⟨none, (issueEvent_logFrame _ _ _).sched⟩
    · exact ⟨s.sched.request, rfl⟩
  · exact ⟨s.sched.request, rfl⟩

theorem testRequest_start (p : Plan) (s : State) : (testRequest p s).sched.start = s.sched.start := by
  obtain ⟨r, sched⟩ := testRequest_sched p s
  rw [sched]

theorem testRequest_queue (p : Plan) (s : State) : (testRequest p s).sched.queue = s.sched.queue := by
  obtain ⟨r, sched⟩ := testRequest_sched p s
  rw [sched]

theorem forced_iff (s : State) (p : Plan) :
    forced s p = true ↔ s.sched.start + p.nominal + p.distance - p.margin - p.slack ≤ s.enc.e := decide_eq_true_iff

/-- S and E tell whether the plate is forced (R108). -/
theorem forced_congr {s t : State} (p : Plan) (start : t.sched.start = s.sched.start) (enc : t.enc = s.enc) :
    forced t p = forced s p := by
  rw [forced, forced, forcingPosition, forcingPosition, start, enc]

theorem testRequest_forced (p : Plan) (s : State) : forced (testRequest p s) p = forced s p :=
  forced_congr p (testRequest_start p s) (testRequest_plateFrame p s).enc

/-- What R97's relations give: S moves on by a pitch at least, and is not forced before E. -/
theorem Plan.fits_spec {p : Plan} (h : p.fits = true) : 1024 ≤ p.pitch ∧ p.pitch ≤ p.minPlate ∧ p.minPlate ≤ p.nominal ∧
    p.pitch ≤ p.strip ∧ p.margin + p.nominal + p.slack < p.distance := by
  simp only [Plan.fits, Bool.and_eq_true, decide_eq_true_eq] at h
  tauto

/-! ### An evaluation, case by case -/

section
variable {p : Plan} {s : State}

theorem evaluateOnce_of_late {x : Nat} (h : s.sched.request = some x) (late : x < s.sched.start + p.pitch) :
    evaluateOnce p s = evaluateOnce p
      (issueEvent .requestLate [x, s.sched.start] { s with sched := { s.sched with request := none } }) := by
  have again : testRequest p (testRequest p s) = testRequest p s :=
    testRequest_of_stands fun y hy => testRequest_pitch hy
  rw [← testRequest_of_late h late, evaluateOnce, evaluateOnce, again]

theorem evaluateOnce_full (full : 32 ≤ s.sched.queue.length) : evaluateOnce p s =
    if forced s p then (true, starve p (testRequest p s)) else (false, testRequest p s) := by
  have places : Config.queuePlaces ≤ (testRequest p s).sched.queue.length := by rw [testRequest_queue]; exact full
  rw [evaluateOnce, testRequest_forced]
  exact if_pos places

theorem evaluateOnce_room (room : s.sched.queue.length < 32) : evaluateOnce p s =
    if forced s p || mayDecide (evaluationChoice p (testRequest p s)) (testRequest p s)
      then (true, finishDecision p (evaluationChoice p (testRequest p s)) (forced s p) (testRequest p s))
      else (false, testRequest p s) := by
  have places : ¬ Config.queuePlaces ≤ (testRequest p s).sched.queue.length := by
    rw [testRequest_queue]
    exact Nat.not_le.mpr room
  rw [evaluateOnce, testRequest_forced]
  exact if_neg places

/-- A forced decision is taken, or starved. -/
theorem evaluateOnce_forced (isForced : forced s p = true) : (evaluateOnce p s).1 = true := by
  by_cases room : s.sched.queue.length < 32
  · rw [evaluateOnce_room room, isForced]
    rfl
  · rw [evaluateOnce_full (Nat.le_of_not_lt room), if_pos isForced]

/-- An evaluation that leaves S has tested the request, and no more. -/
theorem evaluateOnce_rest {t : State} (h : evaluateOnce p s = (false, t)) : t = testRequest p s := by
  by_cases room : s.sched.queue.length < 32
  · rw [evaluateOnce_room room] at h
    split at h
    · cases h
    · exact (Prod.mk.inj h).2.symm
  · rw [evaluateOnce_full (Nat.le_of_not_lt room)] at h
    split at h
    · cases h
    · exact (Prod.mk.inj h).2.symm

end

theorem mem_openBlobStarts {b : BlobTracker} {y : Nat} : y ∈ openBlobStarts b ↔ ∃ o, .opened o ∈ b.table ∧ o.y0 = y := by
  unfold openBlobStarts
  rw [List.mem_filterMap]
  constructor
  · rintro ⟨e, mem, start⟩
    cases e with
    | opened o => exact ⟨o, mem, Option.some.inj start⟩
    | free => cases start
    | stub t => cases start
  · rintro ⟨o, mem, rfl⟩
    exact ⟨_, mem, rfl⟩

/-- A decision that is not forced waits for A, and for what is OPEN below the needed line (R107). -/
theorem mayDecide_iff (c : Choice) (s : State) : mayDecide c s = true ↔ c.needed ≤ s.asm.a ∧
    (∀ b, .opened b ∈ s.blobs.table → c.needed ≤ b.y0) ∧ ∀ d, s.blobs.dense = some d → c.needed ≤ d.y0 := by
  have blobs : ((openBlobStarts s.blobs).all (fun y => decide (c.needed ≤ y))) = true ↔
      ∀ b, .opened b ∈ s.blobs.table → c.needed ≤ b.y0 := by
    simp only [List.all_eq_true, decide_eq_true_eq, mem_openBlobStarts]
    exact ⟨fun h b hb => h _ ⟨b, hb, rfl⟩, fun h _ ⟨b, hb, e⟩ => e ▸ h b hb⟩
  unfold mayDecide noneOpenBelow
  rw [Bool.and_eq_true, Bool.and_eq_true, decide_eq_true_eq, blobs]
  cases s.blobs.dense with
  | none => simp
  | some d => simp

/-! ### S moves on -/

/-- A choice lies beyond S, and so does the line that it needs (R104 to R106). -/
theorem chooseCut_beyond {p : Plan} (fits : p.fits = true) {start w : Nat} (kind : PlateKind) (cs : List AvoidSpan)
    (h : start + p.pitch ≤ w) : start < (chooseCut p start w kind cs).cut ∧ start < (chooseCut p start w kind cs).needed := by
  obtain ⟨pitch, least, most, strip, -⟩ := Plan.fits_spec fits
  unfold chooseCut
  split
  · dsimp only
    omega
  · dsimp only
    split
    · dsimp only
      omega
    · dsimp only
      split <;> omega

theorem evaluationChoice_beyond {p : Plan} (fits : p.fits = true) (s : State) :
    s.sched.start < (evaluationChoice p (testRequest p s)).cut ∧ s.sched.start < (evaluationChoice p (testRequest p s)).needed := by
  obtain ⟨pitch, least, most, -, -⟩ := Plan.fits_spec fits
  rw [← testRequest_start p s]
  refine chooseCut_beyond fits _ _ ?_
  unfold windowEnd
  split
  · rename_i x hx
    have stands := testRequest_pitch hx
    omega
  · omega

theorem decidePlate_start (p : Plan) (c : Nat) (k : PlateKind) (f u : Bool) (s : State) :
    (decidePlate p c k f u s).sched.start = c := by
  obtain ⟨_, _, _, -, kept⟩ := decidePlate_kept p c k f u s
  rw [kept]
  rfl

theorem finishDecision_beyond {p : Plan} (fits : p.fits = true) {c : Choice} (f : Bool) {s : State} (h : s.sched.start < c.cut) :
    s.sched.start < (finishDecision p c f s).sched.start := by
  obtain ⟨pitch, least, most, -, -⟩ := Plan.fits_spec fits
  unfold finishDecision
  dsimp only
  split
  · rw [decidePlate_start]
    exact h
  · split
    · rw [decidePlate_start]
      omega
    · change s.sched.start < earliestCut s p
      omega

/-- An evaluation that moves S moves it beyond, from below what A and E reach. -/
theorem evaluateOnce_moves {p : Plan} (fits : p.fits = true) {s t : State} (h : evaluateOnce p s = (true, t)) :
    s.sched.start < t.sched.start ∧ s.sched.start < max s.enc.e s.asm.a := by
  obtain ⟨pitch, least, most, -, relation⟩ := Plan.fits_spec fits
  have reached : forced s p = true → s.sched.start < max s.enc.e s.asm.a := fun h => by
    rw [forced_iff] at h
    omega
  obtain ⟨cut, needed⟩ := evaluationChoice_beyond fits s
  by_cases room : s.sched.queue.length < 32
  · rw [evaluateOnce_room room] at h
    split at h
    · rename_i taken
      obtain ⟨-, rfl⟩ := Prod.mk.inj h
      have moved := finishDecision_beyond fits (forced s p) (s := testRequest p s) (by rw [testRequest_start]; exact cut)
      rw [testRequest_start] at moved
      refine ⟨moved, ?_⟩
      rcases Bool.or_eq_true_iff.mp taken with isForced | ripe
      · exact reached isForced
      · obtain ⟨analysed, -⟩ := (mayDecide_iff _ _).mp ripe
        rw [(testRequest_plateFrame p s).asm] at analysed
        omega
    · cases h
  · rw [evaluateOnce_full (Nat.le_of_not_lt room)] at h
    split at h
    · rename_i isForced
      obtain ⟨-, rfl⟩ := Prod.mk.inj h
      refine ⟨?_, reached isForced⟩
      change s.sched.start < (testRequest p s).sched.start + p.nominal
      rw [testRequest_start]
      omega
    · cases h

/-! ### The plan stays -/

theorem testRequest_plan (p : Plan) (s : State) : (testRequest p s).sched.plan = s.sched.plan := by
  obtain ⟨r, sched⟩ := testRequest_sched p s
  rw [sched]

theorem decidePlate_plan (p : Plan) (c : Nat) (k : PlateKind) (f u : Bool) (s : State) :
    (decidePlate p c k f u s).sched.plan = s.sched.plan := by
  obtain ⟨_, _, _, -, kept⟩ := decidePlate_kept p c k f u s
  rw [kept]
  rfl

/-- What S leaves behind unplanned changes S and what is listed (R82). -/
theorem jumpUnplanned_event (x : Nat) (k : EventKind) (fs : List Nat) (s : State) :
    (jumpUnplanned x (issueEvent k fs s)).sched = { s.sched with
      start := x
      flaws := s.sched.flaws.filter (fun f => decide (x ≤ f.y1))
      zone := s.sched.zone.filter (fun z => decide (x ≤ z.y1)) } := by
  rw [jumpUnplanned_sched, (issueEvent_logFrame _ _ _).sched]

theorem finishDecision_plan (p : Plan) (c : Choice) (f : Bool) (s : State) :
    (finishDecision p c f s).sched.plan = s.sched.plan := by
  unfold finishDecision
  dsimp only
  split
  · exact decidePlate_plan ..
  · split
    · rw [decidePlate_plan]
      split
      · rw [(issueEvent_logFrame _ _ _).sched]
      · rfl
    · rw [jumpUnplanned_event]

theorem evaluateOnce_plan (p : Plan) (s : State) : (evaluateOnce p s).2.sched.plan = s.sched.plan := by
  by_cases room : s.sched.queue.length < 32
  · rw [evaluateOnce_room room]
    split
    · exact (finishDecision_plan ..).trans (testRequest_plan p s)
    · exact testRequest_plan p s
  · rw [evaluateOnce_full (Nat.le_of_not_lt room)]
    split
    · dsimp only [starve]
      rw [jumpUnplanned_event]
      exact testRequest_plan p s
    · exact testRequest_plan p s

theorem evaluateLoop_plan (p : Plan) (n : Nat) (s : State) : (evaluateLoop p n s).sched.plan = s.sched.plan := by
  induction n generalizing s with
  | zero => rfl
  | succ n ih =>
    unfold evaluateLoop
    dsimp only
    split
    · exact (ih _).trans (evaluateOnce_plan p s)
    · exact evaluateOnce_plan p s

theorem evaluate_plan (s : State) : (evaluate s).sched.plan = s.sched.plan := by
  unfold evaluate
  split
  · split
    · exact evaluateLoop_plan ..
    · rfl
  · rfl

theorem retirePlate_plan (p : Plate) (s : State) : (retirePlate p s).sched.plan = s.sched.plan := by
  have told := ((handGroup_logFrame (.plate p :: pieceRecords p) s).trans (tallyRetirement_logFrame p _)).sched
  change (tallyRetirement p (handGroup (.plate p :: pieceRecords p) s)).sched.plan = s.sched.plan
  rw [told]

theorem plateChanged_plan (s : State) : (plateChanged s).sched.plan = s.sched.plan := by
  have loop : ∀ (n : Nat) (s : State), (retireLoop n s).sched.plan = s.sched.plan := by
    intro n
    induction n with
    | zero => exact fun _ => rfl
    | succ n ih =>
      intro s
      unfold retireLoop
      split
      · split
        · exact ((ih _).trans (evaluate_plan _)).trans (retirePlate_plan _ s)
        · rfl
      · rfl
  exact (loop _ _).trans rfl

/-! ### The evaluation comes to rest (R101) -/

theorem evaluate_of_active {s : State} {p : Plan} (plan : s.sched.plan = some p) (active : s.sched.active = true) :
    evaluate s = evaluateLoop p (s.enc.e + s.asm.a + 64) s := by
  rw [evaluate, plan]
  exact if_pos active

theorem evaluateLoop_of_rest {p : Plan} {s t : State} (h : evaluateOnce p s = (false, t)) (n : Nat) :
    evaluateLoop p (n + 1) s = t := by
  rw [evaluateLoop, h]
  rfl

theorem evaluateLoop_of_move {p : Plan} {s t : State} (h : evaluateOnce p s = (true, t)) (n : Nat) :
    evaluateLoop p (n + 1) s = evaluateLoop p n t := by
  rw [evaluateLoop, h]
  rfl

theorem evaluateOnce_plateFrame_of {p : Plan} {s t : State} {b : Bool} (h : evaluateOnce p s = (b, t)) : PlateFrame s t := by
  have frame := evaluateOnce_plateFrame p s
  rwa [h] at frame

/-- With fuel for what lies between S and what A and E reach, more of it changes nothing. -/
theorem evaluateLoop_fuel {p : Plan} (fits : p.fits = true) (n : Nat) {s : State} (h : max s.enc.e s.asm.a ≤ s.sched.start + n) :
    evaluateLoop p (n + 2) s = evaluateLoop p (n + 1) s := by
  induction n generalizing s with
  | zero =>
    cases e : evaluateOnce p s with
    | mk b t =>
      cases b with
      | false => rw [evaluateLoop_of_rest e, evaluateLoop_of_rest e]
      | true =>
        obtain ⟨-, below⟩ := evaluateOnce_moves fits e
        omega
  | succ n ih =>
    cases e : evaluateOnce p s with
    | mk b t =>
      cases b with
      | false => rw [evaluateLoop_of_rest e, evaluateLoop_of_rest e]
      | true =>
        obtain ⟨moved, -⟩ := evaluateOnce_moves fits e
        have frame := evaluateOnce_plateFrame_of e
        rw [evaluateLoop_of_move e, evaluateLoop_of_move e]
        exact ih (by rw [frame.enc, frame.asm]; omega)

section
variable {p : Plan} {s t : State} (plan : s.sched.plan = some p) (active : s.sched.active = true)
include plan active

theorem evaluate_of_rest (h : evaluateOnce p s = (false, t)) : evaluate s = t := by
  rw [evaluate_of_active plan active]
  exact evaluateLoop_of_rest h _

/-- While S moves the decision is evaluated again (R101). -/
theorem evaluate_of_move (fits : p.fits = true) (h : evaluateOnce p s = (true, t)) : evaluate s = evaluate t := by
  have frame := evaluateOnce_plateFrame_of h
  have plan' : t.sched.plan = some p := by
    have kept := evaluateOnce_plan p s
    rw [h] at kept
    exact kept.trans plan
  have active' : t.sched.active = true := by
    have kept := (evaluateOnce_advances p s).active
    rw [h] at kept
    exact kept.trans active
  rw [evaluate_of_active plan active, evaluate_of_active plan' active', evaluateLoop_of_move h, frame.enc, frame.asm]
  exact (evaluateLoop_fuel fits (s.enc.e + s.asm.a + 62) (by rw [frame.enc, frame.asm]; omega)).symm

/-- A forced decision moves S. -/
theorem evaluate_beyond (fits : p.fits = true) (isForced : forced s p = true) : s.sched.start < (evaluate s).sched.start := by
  cases e : evaluateOnce p s with
  | mk b t =>
    cases b with
    | false =>
      have taken := evaluateOnce_forced isForced
      rw [e] at taken
      cases taken
    | true =>
      obtain ⟨moved, -⟩ := evaluateOnce_moves fits e
      rw [evaluate_of_move plan active fits e]
      exact moved.trans_le (evaluate_advances t).start

end

/-! ### A full queue (R110) -/

/-- What starving changes: S, by whole nominal lengths, the request, and what is listed; with tallies and events. -/
structure Starves (p : Plan) (s t : State) : Prop where
  queue : t.sched.queue = s.sched.queue
  nextPlate : t.sched.nextPlate = s.sched.nextPlate
  nextSeq : t.sched.nextSeq = s.sched.nextSeq
  start : ∃ m, t.sched.start = s.sched.start + m * p.nominal
  rest : t = { s with sched := t.sched, tally := t.tally, writer := t.writer, arb := t.arb }

theorem Starves.trans {p : Plan} {s t u : State} (h : Starves p s t) (k : Starves p t u) : Starves p s u := by
  obtain ⟨m, hm⟩ := h.start
  obtain ⟨n, hn⟩ := k.start
  refine ⟨k.queue.trans h.queue, k.nextPlate.trans h.nextPlate, k.nextSeq.trans h.nextSeq, ⟨m + n, ?_⟩, ?_⟩
  · rw [hn, hm, Nat.add_mul, Nat.add_assoc]
  · rw [k.rest, h.rest]

theorem LogFrame.starves {s t : State} (h : LogFrame s t) (p : Plan) : Starves p s t :=
  ⟨by rw [h.sched], by rw [h.sched], by rw [h.sched], ⟨0, by rw [h.sched, Nat.zero_mul, Nat.add_zero]⟩, by
    rw [h.eq_with]⟩

theorem testRequest_starves (p : Plan) (s : State) : Starves p s (testRequest p s) := by
  have same (r : Option Nat) : Starves p s { s with sched := { s.sched with request := r } } :=
    ⟨rfl, rfl, rfl, ⟨0, by rw [Nat.zero_mul]; rfl⟩, rfl⟩
  unfold testRequest
  split
  · split
    · exact (same none).trans ((issueEvent_logFrame _ _ _).starves p)
    · exact (LogFrame.refl s).starves p
  · exact (LogFrame.refl s).starves p

theorem jumpUnplanned_starves {p : Plan} {s : State} {x m : Nat} (h : x = s.sched.start + m * p.nominal) :
    Starves p s (jumpUnplanned x s) := ⟨rfl, rfl, rfl, ⟨m, h⟩, rfl⟩

theorem starve_starves (p : Plan) (s : State) : Starves p s (starve p s) := by
  refine ((issueEvent_logFrame _ _ s).starves p).trans (jumpUnplanned_starves (m := 1) ?_)
  rw [(issueEvent_logFrame _ _ _).sched, Nat.one_mul]

section
variable {p : Plan} {s : State} (full : 32 ≤ s.sched.queue.length)
include full

theorem evaluateOnce_starves : Starves p s (evaluateOnce p s).2 := by
  rw [evaluateOnce_full full]
  split
  · exact (testRequest_starves p s).trans (starve_starves p _)
  · exact testRequest_starves p s

theorem evaluateLoop_starves (n : Nat) : Starves p s (evaluateLoop p n s) := by
  induction n generalizing s with
  | zero => exact (LogFrame.refl s).starves p
  | succ n ih =>
    have once := evaluateOnce_starves (p := p) full
    unfold evaluateLoop
    dsimp only
    split
    · exact once.trans (ih (by rw [once.queue]; exact full))
    · exact once

/-- S comes to where the plate is no longer forced. -/
theorem evaluateLoop_unforced (fits : p.fits = true) {n : Nat} (fuel : s.enc.e < s.sched.start + n) :
    forced (evaluateLoop p n s) p = false := by
  obtain ⟨-, -, -, -, relation⟩ := Plan.fits_spec fits
  induction n generalizing s with
  | zero =>
    rw [Bool.eq_false_iff]
    intro isForced
    have reached : s.sched.start + p.nominal + p.distance - p.margin - p.slack ≤ s.enc.e := (forced_iff s p).mp isForced
    omega
  | succ n ih =>
    cases e : evaluateOnce p s with
    | mk b t =>
      cases b with
      | false =>
        have rested := e
        rw [evaluateOnce_full full] at rested
        rw [evaluateLoop_of_rest e, evaluateOnce_rest e, testRequest_forced]
        split at rested
        · cases rested
        · exact Bool.eq_false_iff.mpr ‹_›
      | true =>
        obtain ⟨moved, -⟩ := evaluateOnce_moves fits e
        have once := evaluateOnce_starves (p := p) full
        rw [e] at once
        rw [evaluateLoop_of_move e]
        exact ih (by rw [once.queue]; exact full) (by rw [(evaluateOnce_plateFrame_of e).enc]; omega)

/-- STARVED: S moves by whole nominal lengths until it is no longer forced (R110). -/
theorem evaluate_starved (plan : s.sched.plan = some p) (active : s.sched.active = true) (fits : p.fits = true)
    (isForced : forced s p = true) : Starves p s (evaluate s) ∧ forced (evaluate s) p = false ∧
      ∃ m, 0 < m ∧ (evaluate s).sched.start = s.sched.start + m * p.nominal := by
  have starves : Starves p s (evaluate s) := by
    rw [evaluate_of_active plan active]
    exact evaluateLoop_starves full _
  obtain ⟨m, start⟩ := starves.start
  refine ⟨starves, ?_, m, Nat.pos_of_ne_zero ?_, start⟩
  · rw [evaluate_of_active plan active]
    exact evaluateLoop_unforced full fits (by omega)
  · rintro rfl
    have beyond := evaluate_beyond plan active fits isForced
    omega

end

/-! ### The commands (R108, R110) -/

section
variable {p : Plan} {s : State} (plan : s.sched.plan = some p) (active : s.sched.active = true)
include plan active

theorem forcingDue_eq : forcingDue s = forced s p := by
  simp only [forcingDue, plan, active, Bool.true_and]

theorem exec_forcingReached_of_forced (isForced : forced s p = true) :
    exec .forcingReached s = .next (refreshStatus s (examineIfChanged s (evaluate s))) :=
  congrArg Host.Outcome.next (if_pos ((forcingDue_eq plan active).trans isForced))

theorem exec_starved_of_forced (isForced : forced s p = true) (full : 32 ≤ s.sched.queue.length) :
    exec .starved s = .next (refreshStatus s (evaluate s)) := by
  have due : starvedDue s = true := by
    rw [starvedDue, forcingDue_eq plan active, isForced]
    exact decide_eq_true full
  exact congrArg Host.Outcome.next (if_pos due)

theorem exec_of_unforced (h : forced s p = false) : exec .forcingReached s = .next s ∧ exec .starved s = .next s := by
  have idle : forcingDue s = false := (forcingDue_eq plan active).trans h
  have unstarved : starvedDue s = false := by rw [starvedDue, idle, Bool.false_and]
  exact ⟨congrArg Host.Outcome.next (if_neg (Bool.eq_false_iff.mp idle)),
    congrArg Host.Outcome.next (if_neg (Bool.eq_false_iff.mp unstarved))⟩

end

theorem examineIfChanged_plan {s t : State} : (examineIfChanged s t).sched.plan = t.sched.plan := by
  unfold examineIfChanged
  split
  · rfl
  · exact plateChanged_plan t

theorem examineIfChanged_start (s t : State) : t.sched.start ≤ (examineIfChanged s t).sched.start := by
  unfold examineIfChanged
  split
  · exact le_rfl
  · exact (plateChanged_advances t).start

/-- S leaves a stretch unplanned (R82, R109, R110). -/
theorem jumpUnplanned_of_event (x : Nat) (k : EventKind) (fs : List Nat) (s : State) :
    jumpUnplanned x (issueEvent k fs s) =
      { tallyAdd .sAdvance (x - s.sched.start) (tallyAdd .unplannedLength (x - s.sched.start) (issueEvent k fs s)) with
        sched := { (issueEvent k fs s).sched with
          start := x
          flaws := (issueEvent k fs s).sched.flaws.filter (fun f => decide (x ≤ f.y1))
          zone := (issueEvent k fs s).sched.zone.filter (fun z => decide (x ≤ z.y1)) } } := by
  have start : (issueEvent k fs s).sched.start = s.sched.start := by rw [(issueEvent_logFrame _ _ _).sched]
  rw [← start]
  rfl

/-! ### A choice that the cutter can no longer make (R109) -/

section
variable (p : Plan) {c : Choice} (f : Bool) {s : State}

theorem finishDecision_of_reachable (h : earliestCut s p ≤ c.cut) :
    finishDecision p c f s = decidePlate p c.cut c.kind f (f && decide (s.asm.a < c.needed)) s := if_pos h

theorem finishDecision_of_late (h : c.cut < earliestCut s p)
    (near : max (earliestCut s p) (s.sched.start + p.pitch) ≤ s.sched.start + p.nominal) :
    finishDecision p c f s = decidePlate p (max (earliestCut s p) (s.sched.start + p.pitch)) .late f
      (f && decide (s.asm.a < c.needed)) (if c.kind == .requested
        then issueEvent .requestLate [s.sched.request.getD 0, s.sched.start]
          { s with sched := { s.sched with request := none } }
        else s) := by
  rw [finishDecision]
  exact (if_neg (Nat.not_le.mpr h)).trans (if_pos near)

theorem finishDecision_of_unplanned (h : c.cut < earliestCut s p)
    (far : s.sched.start + p.nominal < max (earliestCut s p) (s.sched.start + p.pitch)) :
    finishDecision p c f s = jumpUnplanned (earliestCut s p)
      (issueEvent .unplanned [s.sched.start, earliestCut s p] s) := by
  rw [finishDecision]
  exact (if_neg (Nat.not_le.mpr h)).trans (if_neg (Nat.not_le.mpr far))

end

end Sys2Proof.Machine

open Sys2Proof Sys2Proof.Machine

/-- Settles O24: the two commands; then one evaluation case by case, what becomes of its choice, and the evaluation again. -/
theorem forcedAndStarved : Obligations.ForcedAndStarved := by
  unfold Obligations.ForcedAndStarved
  refine ⟨fun s p plan fits active => ⟨fun isForced _ => ?_, fun isForced full => ?_, exec_of_unforced plan active,
    forced_iff s p⟩, fun p s => ⟨fun x request late => evaluateOnce_of_late request late, fun stands => ?_, fun c isForced => ?_,
    fun active plan => ⟨fun t => evaluate_of_rest plan active, fun t fits => evaluate_of_move plan active fits⟩⟩, fun s idle => ?_⟩
  · have log := refreshStatus_logFrame s (examineIfChanged s (evaluate s))
    refine ⟨_, exec_forcingReached_of_forced plan active isForced, ?_, ?_, ?_⟩
    · rw [log.sched]
      exact (evaluate_beyond plan active fits isForced).trans_le (examineIfChanged_start s _)
    · rw [log.sched, examineIfChanged_plan, evaluate_plan, plan]
    · exact ((examineIfChanged_plateFrame (evaluate_plateFrame s)).trans log.plate).eq_with
  · have log := refreshStatus_logFrame s (evaluate s)
    obtain ⟨starves, unforced, m, moved, start⟩ := evaluate_starved full plan active fits isForced
    have whole := starves.trans (log.starves p)
    refine ⟨_, exec_starved_of_forced plan active isForced full, whole.queue, whole.nextPlate, whole.nextSeq,
      ⟨m, moved, by rw [log.sched, start]⟩, ?_, whole.rest⟩
    rw [forced_congr p (by rw [log.sched]) log.enc, unforced]
  · have tested := testRequest_of_stands stands
    intro w kind c ripe
    have choice : evaluationChoice p s = c := rfl
    have may : mayDecide c s = true ↔ ripe := mayDecide_iff c s
    refine ⟨fun room taken => ?_, fun room unforced unripe => ?_, fun full unforced => ?_, fun full isForced => ?_⟩
    · rw [evaluateOnce_room room, tested, choice]
      exact if_pos (Bool.or_eq_true_iff.mpr (taken.imp_right may.mpr))
    · rw [evaluateOnce_room room, tested, choice, unforced, Bool.false_or]
      exact if_neg (mt may.mp unripe)
    · rw [evaluateOnce_full full, tested, if_neg (Bool.eq_false_iff.mp unforced)]
    · rw [evaluateOnce_full full, tested, if_pos isForced, starve, jumpUnplanned_of_event]
  · refine ⟨fun reachable => finishDecision_of_reachable p isForced reachable, fun passed near other => ?_,
      fun x passed near requested request => ?_, fun passed far => ?_⟩
    · refine (finishDecision_of_late p isForced passed near).trans ?_
      rw [if_neg (mt beq_iff_eq.mp other)]
      rfl
    · refine (finishDecision_of_late p isForced passed near).trans ?_
      rw [if_pos (beq_iff_eq.mpr requested), request]
      rfl
    · exact (finishDecision_of_unplanned p isForced passed far).trans (jumpUnplanned_of_event ..)
  · rcases idle with inactive | unset
    · exact evaluate_of_inactive inactive
    · rw [evaluate, unset]
end

section
/-! SUPPORT. The Lane Map: the run of a label's groups (R87), and what a lane order or a PROFILE LOAD makes of the map (R86 to
R89, R93). -/

namespace Sys2Proof.Machine

/-! ### Groups and their labels (R84) -/

theorem groupLabel_eq_some_iff {m : LaneMap} {g l : Nat} : groupLabel m g = some l ↔ m.groups[g]? = some (some l) := by
  rw [groupLabel, List.getD_eq_getElem?_getD, Option.getD_eq_iff]
  simp

theorem mem_groups_iff {m : LaneMap} {l : Nat} : some l ∈ m.groups ↔ ∃ g, groupLabel m g = some l := by
  simp only [groupLabel_eq_some_iff, List.mem_iff_getElem?]

/-- The groups of the list that hold the label form one run: every group between two that hold it holds it (R87). -/
def OneRun (groups : List (Option Nat)) (label : Nat) : Prop :=
  ∀ i j k, i < j → j < k → groups.getD i none = some label → groups.getD k none = some label →
    groups.getD j none = some label

/-- The groups of the list that hold the label come first. -/
def LeadingRun (groups : List (Option Nat)) (label : Nat) : Prop :=
  ∀ j k, j < k → groups.getD k none = some label → groups.getD j none = some label

/-- What is left behind the leading groups that hold the label does not hold it. -/
theorem leadingRun_iff {groups : List (Option Nat)} {label : Nat} :
    LeadingRun groups label ↔ some label ∉ groups.dropWhile (fun g => g == some label) := by
  induction groups with
  | nil => simp [LeadingRun]
  | cons g gs ih =>
    by_cases hg : g = some label
    · rw [List.dropWhile_cons_of_pos (by simpa using hg), ← ih]
      refine ⟨fun h j k hjk => h (j + 1) (k + 1) (by omega), fun h j k hjk hk => ?_⟩
      obtain ⟨k, rfl⟩ := Nat.exists_eq_add_one_of_ne_zero (Nat.ne_zero_of_lt hjk)
      cases j with
      | zero => exact hg
      | succ j => exact h j k (by omega) hk
    · rw [List.dropWhile_cons_of_neg (by simpa using hg)]
      refine ⟨fun h mem => ?_, fun absent j k _ hk => ?_⟩
      · obtain ⟨k, hk⟩ := List.mem_iff_getElem?.mp ((List.mem_cons.mp mem).resolve_left (Ne.symm hg))
        exact hg (h 0 (k + 1) (by omega) (by rw [List.getD_cons_succ, List.getD_eq_getElem?_getD, hk]; rfl))
      · rw [List.getD_eq_getElem?_getD, Option.getD_eq_iff] at hk
        exact absurd (List.mem_of_getElem? (hk.resolve_right (by simp))) absent

/-- The test of R87 finds the run. -/
theorem contiguous_iff {groups : List (Option Nat)} {label : Nat} : contiguous groups label = true ↔ OneRun groups label := by
  induction groups with
  | nil => simp [contiguous, OneRun]
  | cons g gs ih =>
    by_cases hg : g = some label
    · have leading : contiguous (g :: gs) label = true ↔ LeadingRun (g :: gs) label := by
        rw [leadingRun_iff, contiguous, List.dropWhile_cons_of_neg (by simpa using hg)]
        simp
      rw [leading]
      refine ⟨fun h i j k _ hjk _ => h j k hjk, fun h j k hjk hk => ?_⟩
      cases j with
      | zero => exact hg
      | succ j => exact h 0 (j + 1) k (by omega) hjk hg hk
    · have rest : contiguous (g :: gs) label = contiguous gs label := by
        rw [contiguous, List.dropWhile_cons_of_pos (by simpa using hg), contiguous]
      rw [rest, ih]
      refine ⟨fun h i j k hij hjk hi hk => ?_, fun h i j k hij hjk => h (i + 1) (j + 1) (k + 1) (by omega) (by omega)⟩
      obtain ⟨k, rfl⟩ := Nat.exists_eq_add_one_of_ne_zero (Nat.ne_zero_of_lt hjk)
      obtain ⟨j, rfl⟩ := Nat.exists_eq_add_one_of_ne_zero (Nat.ne_zero_of_lt hij)
      cases i with
      | zero => exact absurd hi hg
      | succ i => exact h i j k (by omega) (by omega) hi hk

/-! ### LANE ASSIGN (R87, R88) -/

@[simp] theorem labelGroups_length (groups : List (Option Nat)) (label : Nat) (listed : List Nat) :
    (labelGroups groups label listed).length = groups.length := by
  induction listed generalizing groups with
  | nil => rfl
  | cons g gs ih => exact (ih _).trans List.length_set

theorem labelGroups_getD {groups : List (Option Nat)} (label : Nat) {listed : List Nat}
    (inside : ∀ g ∈ listed, g < groups.length) (g : Nat) : (labelGroups groups label listed).getD g none = if g ∈ listed then some label else groups.getD g none := by
  induction listed generalizing groups with
  | nil => rfl
  | cons x xs ih =>
    obtain ⟨hx, hxs⟩ := List.forall_mem_cons.mp inside
    have rest : (labelGroups groups label (x :: xs)).getD g none = _ :=
      ih (groups := groups.set x (some label)) (by simpa using hxs)
    rw [rest]
    by_cases h : x = g
    · subst h
      simp [List.getD_eq_getElem?_getD, hx]
    · simp [List.getD_eq_getElem?_getD, List.getElem?_set_ne h, Ne.symm h]

/-- The groups that a LANE ASSIGN lists (R191). -/
def assignGroups (o : List Byte) : List Nat := (List.range (fieldAt o 0x13 1)).map (fun i => fieldAt o (0x14 + i) 1)

/-- The first check of R87. -/
def AssignInRange (o : List Byte) : Prop :=
  1 ≤ fieldAt o 0x10 1 ∧ fieldAt o 0x10 1 ≤ 15 ∧ laneKindOf (fieldAt o 0x11 1) ≠ none ∧ fieldAt o 0x12 1 ≤ 7 ∧
    1 ≤ fieldAt o 0x13 1 ∧ fieldAt o 0x13 1 ≤ 8 ∧ ∀ g ∈ assignGroups o, g ≤ 63

/-- The kind that a LANE ASSIGN in range names. -/
theorem AssignInRange.kind {o : List Byte} (h : AssignInRange o) : ∃ kind, laneKindOf (fieldAt o 0x11 1) = some kind := by
  obtain ⟨-, -, named, -⟩ := h
  exact Option.ne_none_iff_exists'.mp named

/-- The groups that a LANE ASSIGN in range lists lie within the map (R84). -/
theorem AssignInRange.inside {o : List Byte} (h : AssignInRange o) {m : LaneMap} (groups : m.groups.length = 64) :
    ∀ g ∈ assignGroups o, g < m.groups.length := by
  obtain ⟨-, -, -, -, -, -, inside⟩ := h
  exact fun g listed => groups ▸ Nat.lt_succ_of_le (inside g listed)

/-- The map with the listed groups labelled and the descriptor written (R88). -/
def assigned (o : List Byte) (kind : LaneKind) (m : LaneMap) : LaneMap :=
  { m with groups := labelGroups m.groups (fieldAt o 0x10 1) (assignGroups o)
           lanes := m.lanes.set (fieldAt o 0x10 1 - 1) { kind := kind, profile := fieldAt o 0x12 1 } }

theorem assigned_groupLabel {o : List Byte} {m : LaneMap} (inside : ∀ g ∈ assignGroups o, g < m.groups.length) (kind : LaneKind)
    (g : Nat) : groupLabel (assigned o kind m) g = if g ∈ assignGroups o then some (fieldAt o 0x10 1) else groupLabel m g :=
  labelGroups_getD _ inside g

section
variable {o : List Byte} {m : LaneMap}

theorem laneAssign_of_out_of_range (h : ¬ AssignInRange o) (m : LaneMap) : laneAssign o m = (.range, m) := by
  unfold laneAssign
  dsimp only
  split
  · rfl
  · rename_i label
    simp only [Bool.or_eq_true, decide_eq_true_eq, not_or, not_lt] at label
    obtain ⟨least, most⟩ := label
    split
    · rfl
    · rename_i kind hk
      split
      · rfl
      · rename_i prof
        split
        · rfl
        · rename_i groups
          simp only [Bool.or_eq_true, decide_eq_true_eq, List.any_eq_true, not_or, not_exists, not_and, not_lt] at groups
          obtain ⟨⟨some1, few⟩, inside⟩ := groups
          exact absurd ⟨least, most, Option.ne_none_iff_exists'.mpr ⟨kind, hk⟩, not_lt.mp prof, some1, few, inside⟩ h

/-- A LANE ASSIGN in range: the later checks of R87, and the effect of R88. -/
theorem laneAssign_of_in_range {kind : LaneKind} (h : AssignInRange o) (hk : laneKindOf (fieldAt o 0x11 1) = some kind)
    (m : LaneMap) : laneAssign o m =
      if ∃ g ∈ assignGroups o, groupLabel m g ≠ none then (.conflict, m)
      else if contiguous (assigned o kind m).groups (fieldAt o 0x10 1) then (.done, assigned o kind m)
      else (.noncontiguous, m) := by
  obtain ⟨least, most, -, prof, some1, few, inside⟩ := h
  have label : ¬ (fieldAt o 0x10 1 < 1 || 15 < fieldAt o 0x10 1) = true := by
    simp only [Bool.or_eq_true, decide_eq_true_eq]; omega
  have groups : ¬ (fieldAt o 0x13 1 < 1 || 8 < fieldAt o 0x13 1 ||
      (assignGroups o).any (fun g => decide (63 < g))) = true := by
    simp only [Bool.or_eq_true, decide_eq_true_eq, List.any_eq_true, not_or, not_exists, not_and, not_lt]
    exact ⟨⟨some1, few⟩, inside⟩
  have taken : (assignGroups o).any (fun g => (groupLabel m g).isSome) = true ↔
      ∃ g ∈ assignGroups o, groupLabel m g ≠ none := by
    simp only [List.any_eq_true, Option.isSome_iff_ne_none]
  unfold laneAssign
  simp only [hk]
  rw [if_neg label, if_neg (Nat.not_lt.mpr prof)]
  refine (if_neg groups).trans ?_
  refine if_congr taken rfl ?_
  refine (if_congr ?_ rfl rfl).trans (ite_not (contiguous (assigned o kind m).groups (fieldAt o 0x10 1) = true) _ _)
  rw [Bool.not_eq_true', Bool.not_eq_true]
  rfl

/-- A done LANE ASSIGN is in range, its groups were FREE, and the label's groups form one run after it (R87, R88). -/
theorem laneAssign_cases (o : List Byte) (m : LaneMap) : (laneAssign o m).2 = m ∨ ∃ kind, AssignInRange o ∧
    (∀ g ∈ assignGroups o, groupLabel m g = none) ∧ OneRun (assigned o kind m).groups (fieldAt o 0x10 1) ∧
    (laneAssign o m).2 = assigned o kind m := by
  by_cases h : AssignInRange o
  · obtain ⟨kind, hk⟩ := h.kind
    rw [laneAssign_of_in_range h hk]
    split
    · exact .inl rfl
    · rename_i free
      split
      · rename_i run
        exact .inr ⟨kind, h, by simpa using free, contiguous_iff.mp run, rfl⟩
      · exact .inl rfl
  · rw [laneAssign_of_out_of_range h]
    exact .inl rfl

end

/-! ### LANE RELEASE (R89) -/

/-- The map with the label's groups FREE (R89). -/
def released (label : Nat) (m : LaneMap) : LaneMap :=
  { m with groups := m.groups.map (fun g => if g = some label then none else g) }

theorem released_groupLabel (label : Nat) (m : LaneMap) (g : Nat) : groupLabel (released label m) g =
    if groupLabel m g = some label then none else groupLabel m g := by
  unfold groupLabel released
  simp only [List.getD_eq_getElem?_getD, List.getElem?_map]
  cases m.groups[g]? <;> simp

theorem laneRelease_eq (o : List Byte) (m : LaneMap) : laneRelease o m =
    if ¬ (1 ≤ fieldAt o 0x10 1 ∧ fieldAt o 0x10 1 ≤ 15) then (.range, m)
    else if some (fieldAt o 0x10 1) ∉ m.groups then (.unknownLabel, m)
    else (.done, released (fieldAt o 0x10 1) m) := by
  unfold laneRelease
  refine if_congr ?_ rfl (if_congr ?_ rfl rfl)
  · simp only [Bool.or_eq_true, decide_eq_true_eq]; omega
  · simp

/-! ### PROFILE LOAD (R92, R93) -/

/-- The ranges of R92. -/
def ProfileInRange (p : Profile) : Prop :=
  1 ≤ p.dark ∧ p.dark ≤ 255 ∧ 1 ≤ p.bright ∧ p.bright ≤ 255 ∧ 1 ≤ p.minRun ∧ p.minRun ≤ 16 ∧
    4 ≤ p.shift ∧ p.shift ≤ 10 ∧ 64 ≤ p.streakLimit ∧ p.streakLimit ≤ 4095 ∧ p.gap ≤ 7 ∧
    1 ≤ p.minArea ∧ p.minArea ≤ 4095

theorem clamped_range {low high : Nat} (h : low ≤ high) (v : Nat) : low ≤ clamped low high v ∧ clamped low high v ≤ high :=
  ⟨le_min (le_max_right _ _) h, min_le_right _ _⟩

theorem clampProfile_inRange (o : List Byte) : ProfileInRange (clampProfile o).1 := by
  have within {low high : Nat} (h : low ≤ high) (v : Nat) := clamped_range h v
  obtain ⟨d0, d1⟩ := within (low := 1) (high := 255) (by decide) (fieldAt o 0x11 1)
  obtain ⟨b0, b1⟩ := within (low := 1) (high := 255) (by decide) (fieldAt o 0x12 1)
  obtain ⟨r0, r1⟩ := within (low := 1) (high := 16) (by decide) (fieldAt o 0x13 1)
  obtain ⟨s0, s1⟩ := within (low := 4) (high := 10) (by decide) (fieldAt o 0x14 1)
  obtain ⟨l0, l1⟩ := within (low := 64) (high := 4095) (by decide) (fieldAt o 0x16 2)
  obtain ⟨-, g1⟩ := within (low := 0) (high := 7) (by decide) (fieldAt o 0x15 1)
  obtain ⟨a0, a1⟩ := within (low := 1) (high := 4095) (by decide) (fieldAt o 0x18 2)
  exact ⟨d0, d1, b0, b1, r0, r1, s0, s1, l0, l1, g1, a0, a1⟩

/-- A sum of seven marks, bit by bit. -/
theorem flags_testBit (b0 b1 b2 b3 b4 b5 b6 : Bool) :
    let m := flagAt b0 0 + flagAt b1 1 + flagAt b2 2 + flagAt b3 3 + flagAt b4 4 + flagAt b5 5 + flagAt b6 6
    m < 128 ∧ m.testBit 0 = b0 ∧ m.testBit 1 = b1 ∧ m.testBit 2 = b2 ∧ m.testBit 3 = b3 ∧ m.testBit 4 = b4 ∧
      m.testBit 5 = b5 ∧ m.testBit 6 = b6 := by
  revert b0 b1 b2 b3 b4 b5 b6
  decide

theorem flagAt_eq_zero {b : Bool} {i : Nat} : flagAt b i = 0 ↔ b = false := by
  cases b <;> simp [flagAt]

/-! ### The order taken (R86) -/

theorem takeLaneOrder_assign {o : List Byte} (h : orderKind o = kindLaneAssign) (s : State) :
    takeLaneOrder o s = complete (laneAssign o s.lanes).1 { s with lanes := (laneAssign o s.lanes).2 } := if_pos h

theorem takeLaneOrder_release {o : List Byte} (h : orderKind o = kindLaneRelease) (s : State) :
    takeLaneOrder o s = complete (laneRelease o s.lanes).1 { s with lanes := (laneRelease o s.lanes).2 } := by
  rw [takeLaneOrder, h]
  rfl

/-- The state with a profile replaced (R93). -/
def withProfile (index : Nat) (p : Profile) (s : State) : State :=
  { s with lanes := { s.lanes with profiles := s.lanes.profiles.set index p } }

theorem takeLaneOrder_load {o : List Byte} (notAssign : orderKind o ≠ kindLaneAssign)
    (notRelease : orderKind o ≠ kindLaneRelease) (s : State) : takeLaneOrder o s =
      let index := fieldAt o 0x10 1
      let moved := (clampProfile o).2
      let loaded := withProfile index (clampProfile o).1 s
      if 7 < index then complete .range s
      else if moved = 0 then complete .done loaded
      else complete .clamped (issueEvent .profileClamped [index, moved] loaded) :=
  (if_neg notAssign).trans (if_neg notRelease)

/-- What a lane order or a PROFILE LOAD makes of the map. -/
theorem takeLaneOrder_lanes (o : List Byte) (s : State) :
    (takeLaneOrder o s).lanes = s.lanes ∨ (takeLaneOrder o s).lanes = (laneAssign o s.lanes).2 ∨
    (takeLaneOrder o s).lanes = released (fieldAt o 0x10 1) s.lanes ∨
    (takeLaneOrder o s).lanes = (withProfile (fieldAt o 0x10 1) (clampProfile o).1 s).lanes := by
  by_cases assign : orderKind o = kindLaneAssign
  · rw [takeLaneOrder_assign assign]
    exact .inr (.inl rfl)
  by_cases release : orderKind o = kindLaneRelease
  · rw [takeLaneOrder_release release, laneRelease_eq]
    split
    · exact .inl rfl
    · split
      · exact .inl rfl
      · exact .inr (.inr (.inl rfl))
  rw [takeLaneOrder_load assign release]
  dsimp only
  split
  · exact .inl rfl
  · split
    · exact .inr (.inr (.inr rfl))
    · exact .inr (.inr (.inr (issueEvent_logFrame ..).lanes))

/-! ### The invariant (R84, R87, R92) -/

/-- The invariant speaks of the Lane Map alone. -/
theorem LaneMapInv.of_lanes {s t : State} (h : LaneMapInv s) (hl : t.lanes = s.lanes) : LaneMapInv t := by
  rwa [LaneMapInv, hl]

/-- Only FREE groups are labelled, so the other labels keep their runs. -/
theorem assigned_laneMap {o : List Byte} {kind : LaneKind} {s : State} (h : LaneMapInv s) (inRange : AssignInRange o)
    (free : ∀ g ∈ assignGroups o, groupLabel s.lanes g = none)
    (run : OneRun (assigned o kind s.lanes).groups (fieldAt o 0x10 1)) :
    LaneMapInv { s with lanes := assigned o kind s.lanes } := by
  obtain ⟨groups, runs, labels, profiles⟩ := h
  have after := assigned_groupLabel (inRange.inside groups) kind
  obtain ⟨least, most, -⟩ := inRange
  refine ⟨(labelGroups_length ..).trans groups, fun i j k l hij hjk hi hk => ?_, fun l hl => ?_, profiles⟩
  · by_cases hl : fieldAt o 0x10 1 = l
    · exact hl ▸ run i j k hij hjk (hl ▸ hi) (hl ▸ hk)
    · have before (g : Nat) (hg : groupLabel (assigned o kind s.lanes) g = some l) : groupLabel s.lanes g = some l := by
        rw [after] at hg
        split at hg
        · exact absurd (Option.some.inj hg) hl
        · exact hg
      have held := runs i j k l hij hjk (before i hi) (before k hk)
      have unlisted : j ∉ assignGroups o := fun listed => by simp [free j listed] at held
      exact (after j).trans ((if_neg unlisted).trans held)
  · obtain ⟨g, hg⟩ := mem_groups_iff.mp hl
    rw [after] at hg
    split at hg
    · obtain rfl := Option.some.inj hg
      exact ⟨least, most⟩
    · exact labels l (mem_groups_iff.mpr ⟨g, hg⟩)

theorem released_laneMap (label : Nat) {s : State} (h : LaneMapInv s) :
    LaneMapInv { s with lanes := released label s.lanes } := by
  obtain ⟨groups, runs, labels, profiles⟩ := h
  have held {g l : Nat} : groupLabel (released label s.lanes) g = some l ↔ groupLabel s.lanes g = some l ∧ l ≠ label := by
    rw [released_groupLabel]
    split <;> grind
  refine ⟨List.length_map _ |>.trans groups, fun i j k l hij hjk hi hk => ?_, fun l hl => ?_, profiles⟩
  · obtain ⟨hi, other⟩ := held.mp hi
    exact held.mpr ⟨runs i j k l hij hjk hi (held.mp hk).1, other⟩
  · obtain ⟨g, hg⟩ := mem_groups_iff.mp hl
    exact labels l (mem_groups_iff.mpr ⟨g, (held.mp hg).1⟩)

theorem withProfile_laneMap (index : Nat) {p : Profile} (inRange : ProfileInRange p) {s : State} (h : LaneMapInv s) :
    LaneMapInv (withProfile index p s) := by
  obtain ⟨groups, runs, labels, profiles⟩ := h
  refine ⟨groups, runs, labels, fun q hq => ?_⟩
  rcases List.mem_or_eq_of_mem_set hq with old | rfl
  · exact profiles q old
  · exact inRange

theorem takeLaneOrder_laneMap (o : List Byte) {s : State} (h : LaneMapInv s) : LaneMapInv (takeLaneOrder o s) := by
  rcases takeLaneOrder_lanes o s with same | assign | release | load
  · exact h.of_lanes same
  · rcases laneAssign_cases o s.lanes with same | ⟨kind, inRange, free, run, done⟩
    · exact h.of_lanes (assign.trans same)
    · exact (assigned_laneMap h inRange free run).of_lanes (assign.trans done)
  · exact (released_laneMap _ h).of_lanes release
  · exact (withProfile_laneMap _ (clampProfile_inRange o) h).of_lanes load

theorem InspectSteps.laneMap {s t : State} (k : InspectSteps s t) : LaneMapInv s → LaneMapInv t := by
  induction k with
  | same _ hl => exact fun h => h.of_lanes hl
  | trans _ _ ih ih' => exact ih' ∘ ih
  | abandonLine s => exact id
  | seedLoad first pixels s => exact fun h => h.of_lanes (seedLoad_logFrame first pixels s).lanes
  | takePass bytes l s => exact fun h => h.of_lanes (streakEvents_logFrame l 0 _ _ _).lanes
  | takeLaneOrder o s => exact takeLaneOrder_laneMap o

theorem exec_laneMap (c : Instr) {s : State} (h : LaneMapInv s) : ∃ t, exec c s = .next t ∧ LaneMapInv t := by
  obtain ⟨t, ht, rfl | steps⟩ := exec_inspects c s
  · exact ⟨_, ht, laneMapInv_reset.of_lanes rfl⟩
  · exact ⟨t, ht, steps.laneMap h⟩

/-- A step is the command at the front of the queue, taken with the queue's rest. -/
theorem step_keeps {inv : State → Prop} (queue : ∀ {s}, inv s → ∀ rest, inv { s with pending := rest })
    (command : ∀ c {s}, inv s → ∃ t, exec c s = .next t ∧ inv t) {s t : State} (h : inv s) (taken : step s = .next t) :
    inv t := by
  unfold step at taken
  split at taken
  · obtain rfl := Host.Outcome.next.inj taken
    exact h
  · rename_i c rest _
    obtain ⟨u, done, kept⟩ := command c (queue h rest)
    obtain rfl := Host.Outcome.next.inj (taken.symm.trans done)
    exact kept

end Sys2Proof.Machine

open Sys2Proof Sys2Proof.Machine

/-- Settles O57: the queue is no part of the map, and each command keeps the map's runs and ranges. -/
theorem laneMapKept : Obligations.LaneMapKept := by
  unfold Obligations.LaneMapKept
  exact fun _ _ => step_keeps (fun h _ => h) exec_laneMap
end

section
/-! SUPPORT. The commands LANE_ASSIGN, LANE_RELEASE and PROFILE_LOAD at a line boundary (R86 to R89, R93, R95). -/

namespace Sys2Proof.Machine

section
variable {s : State} {o : List Byte} {kind : Nat}

/-- A lane order that is ready and finds no line in analysis is taken (R86). -/
theorem laneOrder_of_ready (ready : OrderReady s kind o) (idle : s.asm.analysing = false) :
    withOrder kind handLaneOrder s = takeLaneOrder o s := by
  rw [withOrder_of_ready ready, handLaneOrder, idle]
  rfl

/-- The status block names nothing of the Lane Map or of an order's completion (R194). -/
theorem refreshStatus_completed (c : Completion) (m : LaneMap) (s : State) :
    refreshStatus s (complete c { s with lanes := m }) = complete c { s with lanes := m } :=
  refreshStatus_of_eq (statusFields_complete c _)

theorem exec_laneAssign_of_ready (ready : OrderReady s kindLaneAssign o) (idle : s.asm.analysing = false) :
    exec .laneAssign s = .next (complete (laneAssign o s.lanes).1 { s with lanes := (laneAssign o s.lanes).2 }) := by
  have taken : exec .laneAssign s = .next (refreshStatus s (withOrder kindLaneAssign handLaneOrder s)) := rfl
  rw [taken, laneOrder_of_ready ready idle, takeLaneOrder_assign ready.2, refreshStatus_completed]

theorem exec_laneRelease_of_ready (ready : OrderReady s kindLaneRelease o) (idle : s.asm.analysing = false) :
    exec .laneRelease s = .next (complete (laneRelease o s.lanes).1 { s with lanes := (laneRelease o s.lanes).2 }) := by
  have taken : exec .laneRelease s = .next (refreshStatus s (withOrder kindLaneRelease handLaneOrder s)) := rfl
  rw [taken, laneOrder_of_ready ready idle, takeLaneOrder_release ready.2, refreshStatus_completed]

end

/-! ### The checks of LANE ASSIGN (R87) -/

/-- The groups listed, with those that hold the label already, would form one run (R87). -/
def JoinsRun (o : List Byte) (m : LaneMap) : Prop :=
  let held := fun g : Nat => g ∈ assignGroups o ∨ groupLabel m g = some (fieldAt o 0x10 1)
  ∀ i j k, i < j → j < k → held i → held k → held j

section
variable {o : List Byte} {m : LaneMap} (inRange : AssignInRange o)
include inRange

theorem laneAssign_of_taken (taken : ¬ ∀ g ∈ assignGroups o, groupLabel m g = none) : laneAssign o m = (.conflict, m) := by
  obtain ⟨kind, hk⟩ := inRange.kind
  obtain ⟨g, listed, held⟩ := not_forall₂.mp taken
  rw [laneAssign_of_in_range inRange hk, if_pos ⟨g, listed, held⟩]

theorem contiguous_assigned (groups : m.groups.length = 64) (kind : LaneKind) :
    contiguous (assigned o kind m).groups (fieldAt o 0x10 1) = true ↔ JoinsRun o m := by
  have holds (g : Nat) : (assigned o kind m).groups.getD g none = some (fieldAt o 0x10 1) ↔
      g ∈ assignGroups o ∨ groupLabel m g = some (fieldAt o 0x10 1) := by
    have label : (assigned o kind m).groups.getD g none = _ := assigned_groupLabel (inRange.inside groups) kind g
    rw [label]
    split <;> simp [*]
  simp only [contiguous_iff, OneRun, JoinsRun, holds]

/-- The last check of R87, and the effect of R88. -/
theorem laneAssign_of_free {kind : LaneKind} (hk : laneKindOf (fieldAt o 0x11 1) = some kind)
    (free : ∀ g ∈ assignGroups o, groupLabel m g = none) (groups : m.groups.length = 64) :
    (¬ JoinsRun o m → laneAssign o m = (.noncontiguous, m)) ∧
      (JoinsRun o m → laneAssign o m = (.done, assigned o kind m)) := by
  have none_held : ¬ ∃ g ∈ assignGroups o, groupLabel m g ≠ none := fun ⟨g, listed, held⟩ => held (free g listed)
  have whole := contiguous_assigned inRange groups kind
  rw [laneAssign_of_in_range inRange hk, if_neg none_held]
  exact ⟨fun split => if_neg (mt whole.mp split), fun joins => if_pos (whole.mpr joins)⟩

end

/-! ### The profile loaded (R92, R93, R95) -/

/-- The profile that a PROFILE LOAD carries, each value moved into its range (R93). -/
def loadedProfile (o : List Byte) : Profile :=
  { dark := min (max (fieldAt o 0x11 1) 1) 255, bright := min (max (fieldAt o 0x12 1) 1) 255
    minRun := min (max (fieldAt o 0x13 1) 1) 16, shift := min (max (fieldAt o 0x14 1) 4) 10
    streakLimit := min (max (fieldAt o 0x16 2) 64) 4095, gap := min (fieldAt o 0x15 1) 7
    minArea := min (max (fieldAt o 0x18 2) 1) 4095 }

theorem clampProfile_fst (o : List Byte) : (clampProfile o).1 = loadedProfile o := by
  simp [clampProfile, loadedProfile, clamped]

/-- The marks of the values moved, bit by bit (R93). -/
theorem clampProfile_marks (o : List Byte) :
    let p := loadedProfile o
    let moved := (clampProfile o).2
    moved < 128 ∧ (moved.testBit 0 = true ↔ p.dark ≠ fieldAt o 0x11 1) ∧ (moved.testBit 1 = true ↔ p.bright ≠ fieldAt o 0x12 1) ∧
      (moved.testBit 2 = true ↔ p.minRun ≠ fieldAt o 0x13 1) ∧ (moved.testBit 3 = true ↔ p.shift ≠ fieldAt o 0x14 1) ∧
      (moved.testBit 4 = true ↔ p.streakLimit ≠ fieldAt o 0x16 2) ∧ (moved.testBit 5 = true ↔ p.gap ≠ fieldAt o 0x15 1) ∧
      (moved.testBit 6 = true ↔ p.minArea ≠ fieldAt o 0x18 2) := by
  simp only [← clampProfile_fst, ← bne_iff_ne]
  obtain ⟨small, dark, bright, minRun, shift, limit, gap, area⟩ := flags_testBit
    ((clampProfile o).1.dark != fieldAt o 0x11 1) ((clampProfile o).1.bright != fieldAt o 0x12 1)
    ((clampProfile o).1.minRun != fieldAt o 0x13 1) ((clampProfile o).1.shift != fieldAt o 0x14 1)
    ((clampProfile o).1.streakLimit != fieldAt o 0x16 2) ((clampProfile o).1.gap != fieldAt o 0x15 1)
    ((clampProfile o).1.minArea != fieldAt o 0x18 2)
  have mark {a b : Bool} (h : a = b) : a = true ↔ b = true := by rw [h]
  exact ⟨small, mark dark, mark bright, mark minRun, mark shift, mark limit, mark gap, mark area⟩

/-- No mark is left if every value was in its range (R93). -/
theorem clampProfile_unmoved (o : List Byte) :
    let p := loadedProfile o
    (clampProfile o).2 = 0 ↔ p.dark = fieldAt o 0x11 1 ∧ p.bright = fieldAt o 0x12 1 ∧ p.minRun = fieldAt o 0x13 1 ∧
      p.shift = fieldAt o 0x14 1 ∧ p.streakLimit = fieldAt o 0x16 2 ∧ p.gap = fieldAt o 0x15 1 ∧
      p.minArea = fieldAt o 0x18 2 := by
  simp only [← clampProfile_fst, clampProfile, Nat.add_eq_zero_iff, flagAt_eq_zero, bne_eq_false_iff_eq, and_assoc]

theorem exec_profileLoad_of_ready {s : State} {o : List Byte} (ready : OrderReady s kindProfileLoad o)
    (idle : s.asm.analysing = false) : exec .profileLoad s =
      let index := fieldAt o 0x10 1
      let moved := (clampProfile o).2
      let loaded := withProfile index (loadedProfile o) s
      if 7 < index then .next (complete .range s)
      else if moved = 0 then .next (complete .done loaded)
      else .next (refreshStatus s (complete .clamped (issueEvent .profileClamped [index, moved] loaded))) := by
  have taken : exec .profileLoad s = .next (refreshStatus s (withOrder kindProfileLoad handLaneOrder s)) := rfl
  rw [taken, laneOrder_of_ready ready idle, takeLaneOrder_load (by rw [ready.2]; decide) (by rw [ready.2]; decide),
    clampProfile_fst]
  dsimp only
  split
  · exact congrArg _ (refreshStatus_completed _ s.lanes s)
  · split
    · exact congrArg _ (refreshStatus_completed _ _ s)
    · rfl

end Sys2Proof.Machine

open Sys2Proof Sys2Proof.Machine

/-- Settles O20: the checks in their order, and the groups and the descriptor of an order that passes them. -/
theorem laneAssign : Obligations.LaneAssign := by
  unfold Obligations.LaneAssign
  intro s o ready idle groups label kind prof count listed inRange free held run
  have taken := exec_laneAssign_of_ready ready idle
  refine ⟨fun out => ?_, fun fits conflict => ?_, fun fits clear split => ?_, fun fits clear joins => ?_⟩
  · rw [taken, laneAssign_of_out_of_range out]
  · rw [taken, laneAssign_of_taken fits conflict]
  · obtain ⟨k, hk⟩ := AssignInRange.kind fits
    rw [taken, (laneAssign_of_free fits hk clear groups).1 split]
  · obtain ⟨k, hk⟩ := AssignInRange.kind fits
    have done := (laneAssign_of_free fits hk clear groups).2 joins
    refine ⟨assigned o k s.lanes, by rw [taken, done], rfl, assigned_groupLabel (AssignInRange.inside fits groups) k,
      fun l hl => ?_⟩
    obtain rfl : k = l := Option.some.inj (hk.symm.trans hl)
    rfl

/-- Settles O21: the release by its two checks; then the load by its index and by whether a value was moved. -/
theorem laneReleaseAndProfileLoad : Obligations.LaneReleaseAndProfileLoad := by
  unfold Obligations.LaneReleaseAndProfileLoad
  constructor
  · intro s o ready idle label
    have taken := exec_laneRelease_of_ready ready idle
    rw [laneRelease_eq] at taken
    refine ⟨fun out => ?_, fun least most unknown => ?_, fun least most used => ?_⟩
    · rw [taken, if_pos out]
    · rw [taken, if_neg (not_not_intro ⟨least, most⟩), if_pos unknown]
    · rw [if_neg (not_not_intro ⟨least, most⟩), if_neg (not_not_intro used)] at taken
      exact ⟨_, taken, rfl, rfl, released_groupLabel label s.lanes⟩
  · intro s o ready idle index p kept s1
    have taken := exec_profileLoad_of_ready ready idle
    have unmoved : (clampProfile o).2 = 0 ↔ kept := clampProfile_unmoved o
    refine ⟨fun out => taken.trans (if_pos out), fun inside same => ?_, fun inside changed => ?_⟩
    · exact taken.trans ((if_neg inside.not_gt).trans (if_pos (unmoved.mpr same)))
    · obtain ⟨small, dark, bright, minRun, shift, limit, gap, area⟩ := clampProfile_marks o
      refine ⟨(clampProfile o).2, small, dark, bright, minRun, shift, limit, gap, area, ?_⟩
      exact taken.trans ((if_neg inside.not_gt).trans (if_neg (mt unmoved.mp changed)))
end

section
/-! SUPPORT. The avoid set and its candidates (R85, R103), the first avoid flaw (R104, R105) and the chain behind it (R106), and the
provisional cut they give. -/

namespace Sys2Proof.Machine

/-! ### The avoid set and the candidates (R103) -/

theorem mem_avoidSet {p : Plan} {start w : Nat} {cs : List AvoidSpan} {f : AvoidSpan} : f ∈ avoidSet p start w cs ↔
    p.mode = .avoid ∧ f ∈ cs ∧ start ≤ f.y1 + p.guard ∧ f.y0 < w + p.guard := by
  unfold avoidSet
  cases p.mode <;> simp

theorem avoidSet_of_fixed {p : Plan} (h : p.mode = .fixed) (start w : Nat) (cs : List AvoidSpan) : avoidSet p start w cs = [] := by
  rw [avoidSet, h]

theorem mem_openSpans {s : State} {f : AvoidSpan} : f ∈ openSpans s ↔
    (∃ b, .opened b ∈ s.blobs.table ∧ outsideSale s.lanes b.c0 b.c1 = false ∧ f = { y0 := b.y0, y1 := s.asm.a }) ∨
    ∃ d, s.blobs.dense = some d ∧ outsideSale s.lanes d.c0 d.c1 = false ∧ f = { y0 := d.y0, y1 := s.asm.a } := by
  rw [openSpans, List.mem_append, List.mem_filterMap]
  refine or_congr ⟨?_, ?_⟩ ?_
  · rintro ⟨_ | b | t, listed, span⟩
    · cases span
    · dsimp only at span
      split at span
      · cases span
      · rename_i sale
        exact ⟨b, listed, Bool.eq_false_iff.mpr sale, (Option.some.inj span).symm⟩
    · cases span
  · rintro ⟨b, listed, sale, rfl⟩
    exact ⟨.opened b, listed, by simp [sale]⟩
  · cases s.blobs.dense with
    | none => simp
    | some d => cases sale : outsideSale s.lanes d.c0 d.c1 <;> simp [sale]

theorem mem_candidates {s : State} {isForced : Bool} {f : AvoidSpan} : f ∈ candidates s isForced ↔
    (∃ x ∈ s.sched.flaws, x.avoid = true ∧ f = { y0 := x.y0, y1 := x.y1 }) ∨
    (∃ z, s.sched.zone = some z ∧ f = { y0 := z.y0, y1 := z.y1 }) ∨ (isForced = true ∧ f ∈ openSpans s) := by
  rw [candidates, List.mem_append, List.mem_append, or_assoc]
  refine or_congr ?_ (or_congr ?_ ?_)
  · simp only [List.mem_map, List.mem_filter, and_assoc]
    exact exists_congr fun x => and_congr_right fun _ => and_congr_right fun _ => eq_comm
  · cases s.sched.zone <;> simp
  · cases isForced <;> simp

/-- A group is FREE or of kind EDGE (R85). -/
theorem groupOutsideSale_iff {m : LaneMap} {g : Nat} : groupOutsideSale m g = true ↔
    ∀ label, m.groups[g]? = some (some label) → ∀ d, m.lanes[label - 1]? = some d → d.kind = .edge := by
  simp only [← groupLabel_eq_some_iff]
  unfold groupOutsideSale laneDesc
  cases groupLabel m g with
  | none => simp
  | some l => cases h : m.lanes[l - 1]? <;> simp [h]

theorem outsideSale_iff {m : LaneMap} {c0 c1 : Nat} : outsideSale m c0 c1 = true ↔ ∀ g, c0 / 256 ≤ g → g ≤ c1 / 256 →
    ∀ label, m.groups[g]? = some (some label) → ∀ d, m.lanes[label - 1]? = some d → d.kind = .edge := by
  simp only [← groupOutsideSale_iff]
  unfold outsideSale
  simp only [List.all_eq_true, List.mem_range]
  refine ⟨fun h g least most => ?_, fun h i hi => h _ (Nat.le_add_right _ _) ?_⟩
  · rw [← Nat.add_sub_cancel' least]
    exact h _ (Nat.sub_lt_sub_right least (Nat.lt_succ_of_le most))
  · rw [Config.groupWidth] at *
    omega

/-! ### The first avoid flaw (R104) -/

theorem leastSpan_eq_none {fs : List AvoidSpan} : leastSpan fs = none ↔ fs = [] := by
  cases fs with
  | nil => simp [leastSpan]
  | cons f fs =>
    rw [leastSpan]
    split
    · split <;> simp
    · simp

theorem leastSpan_spec {fs : List AvoidSpan} {f : AvoidSpan} (h : leastSpan fs = some f) : f ∈ fs ∧ ∀ g ∈ fs, f.y0 ≤ g.y0 := by
  induction fs generalizing f with
  | nil => cases h
  | cons x xs ih =>
    rw [leastSpan] at h
    split at h
    · rename_i g hg
      obtain ⟨mem, least⟩ := ih hg
      split at h
      · obtain rfl := Option.some.inj h
        exact ⟨List.mem_cons_of_mem _ mem, List.forall_mem_cons.mpr ⟨by omega, least⟩⟩
      · obtain rfl := Option.some.inj h
        exact ⟨List.mem_cons_self, List.forall_mem_cons.mpr ⟨le_rfl, fun y hy => (not_lt.mp ‹_›).trans (least y hy)⟩⟩
    · rename_i none
      obtain rfl := Option.some.inj h
      obtain rfl := leastSpan_eq_none.mp none
      simp

/-- Of spans that begin alike the first is taken. -/
theorem leastSpan_of_first {pre post : List AvoidSpan} {f : AvoidSpan} (before : ∀ g ∈ pre, f.y0 < g.y0)
    (behind : ∀ g ∈ post, f.y0 ≤ g.y0) : leastSpan (pre ++ f :: post) = some f := by
  induction pre with
  | nil =>
    rw [List.nil_append, leastSpan]
    split
    · rename_i g hg
      exact if_neg (not_lt.mpr (behind g (leastSpan_spec hg).1))
    · rfl
  | cons x xs ih =>
    obtain ⟨hx, hxs⟩ := List.forall_mem_cons.mp before
    rw [List.cons_append, leastSpan, ih hxs]
    exact if_pos hx

/-! ### The chain of avoid flaws (R106) -/

/-- The candidate prolongs a strip that ends at `b`: the guard behind it lies beyond `b`, and it begins within a minimum plate and
the guard of `b` (R106). -/
def Chains (p : Plan) (b : Nat) (g : AvoidSpan) : Prop := g.y0 < b + p.minPlate + p.guard ∧ b < g.y1 + p.guard

/-- One candidate of the chain. -/
def chainStep (p : Plan) (b : Nat) (g : AvoidSpan) : Nat :=
  if g.y0 < b + p.minPlate + p.guard ∧ b < g.y1 + p.guard then g.y1 + p.guard else b

theorem le_chainStep (p : Plan) (b : Nat) (g : AvoidSpan) : b ≤ chainStep p b g := by
  unfold chainStep
  split <;> omega

theorem le_chain (p : Plan) (b : Nat) (gs : List AvoidSpan) : b ≤ gs.foldl (chainStep p) b := by
  induction gs generalizing b with
  | nil => exact le_rfl
  | cons g gs ih => exact (le_chainStep p b g).trans (ih _)

/-- The chain passes no end that leaves every candidate. -/
theorem chain_le {p : Plan} {b c : Nat} {gs : List AvoidSpan} (start : b ≤ c) (clear : ∀ g ∈ gs, ¬ Chains p c g) :
    gs.foldl (chainStep p) b ≤ c := by
  induction gs generalizing b with
  | nil => exact start
  | cons g gs ih =>
    obtain ⟨first, others⟩ := List.forall_mem_cons.mp clear
    refine ih ?_ others
    unfold chainStep
    unfold Chains at first
    split <;> omega

/-- A candidate that begins too far on ends the chain: those behind it begin no sooner. -/
theorem chain_of_far {p : Plan} {b : Nat} {gs : List AvoidSpan} (far : ∀ g ∈ gs, b + p.minPlate + p.guard ≤ g.y0) :
    gs.foldl (chainStep p) b = b := by
  induction gs with
  | nil => rfl
  | cons g gs ih =>
    obtain ⟨first, others⟩ := List.forall_mem_cons.mp far
    have passed : chainStep p b g = b := if_neg fun near => first.not_gt near.1
    rw [List.foldl_cons, passed, ih others]

/-- One pass in ascending y0 reaches the end of the chain. -/
theorem chain_clear {p : Plan} {b : Nat} {gs : List AvoidSpan} (sorted : gs.Pairwise (fun f g => f.y0 ≤ g.y0)) :
    ∀ g ∈ gs, ¬ Chains p (gs.foldl (chainStep p) b) g := by
  induction gs generalizing b with
  | nil => exact fun _ h => nomatch h
  | cons g gs ih =>
    obtain ⟨ascending, sorted⟩ := List.pairwise_cons.mp sorted
    refine List.forall_mem_cons.mpr ⟨?_, ih sorted⟩
    rw [List.foldl_cons]
    by_cases far : b + p.minPlate + p.guard ≤ g.y0
    · have passed : chainStep p b g = b := if_neg fun near => far.not_gt near.1
      rw [passed, chain_of_far fun x hx => far.trans (ascending x hx)]
      exact fun near => far.not_gt near.1
    · have ended : g.y1 + p.guard ≤ chainStep p b g := by
        unfold chainStep
        split <;> omega
      exact fun near => (ended.trans (le_chain ..)).not_gt near.2

theorem mem_insertSpan {f g : AvoidSpan} {gs : List AvoidSpan} : g ∈ insertSpan f gs ↔ g = f ∨ g ∈ gs := by
  induction gs with
  | nil => simp [insertSpan]
  | cons x xs ih =>
    rw [insertSpan]
    split
    · rw [List.mem_cons, ih, List.mem_cons, or_left_comm]
    · exact List.mem_cons

theorem insertSpan_pairwise {f : AvoidSpan} {gs : List AvoidSpan} (h : gs.Pairwise (fun f g => f.y0 ≤ g.y0)) :
    (insertSpan f gs).Pairwise (fun f g => f.y0 ≤ g.y0) := by
  induction gs with
  | nil => exact List.pairwise_singleton _ f
  | cons x xs ih =>
    obtain ⟨first, rest⟩ := List.pairwise_cons.mp h
    rw [insertSpan]
    split
    · refine List.pairwise_cons.mpr ⟨fun g hg => ?_, ih rest⟩
      rcases mem_insertSpan.mp hg with rfl | hg
      · assumption
      · exact first g hg
    · refine List.pairwise_cons.mpr ⟨List.forall_mem_cons.mpr ⟨by omega, fun g hg => ?_⟩, h⟩
      have := first g hg
      omega

/-- The candidates in ascending y0. -/
theorem sortedSpans (cs : List AvoidSpan) : (cs.foldr insertSpan []).Pairwise (fun f g => f.y0 ≤ g.y0) ∧
    ∀ g, g ∈ cs.foldr insertSpan [] ↔ g ∈ cs := by
  induction cs with
  | nil => simp
  | cons c cs ih =>
    obtain ⟨sorted, same⟩ := ih
    exact ⟨insertSpan_pairwise sorted, fun g => by rw [List.foldr_cons, mem_insertSpan, same, List.mem_cons]⟩

/-- The chain's end is the least end from `b` on that leaves every candidate (R106). -/
theorem chainEnd_spec (p : Plan) (b : Nat) (cs : List AvoidSpan) :
    (b ≤ chainEnd p b cs ∧ ∀ g ∈ cs, ¬ Chains p (chainEnd p b cs) g) ∧
    ∀ c, b ≤ c → (∀ g ∈ cs, ¬ Chains p c g) → chainEnd p b cs ≤ c := by
  obtain ⟨sorted, same⟩ := sortedSpans cs
  have chain : chainEnd p b cs = (cs.foldr insertSpan []).foldl (chainStep p) b := rfl
  rw [chain]
  exact ⟨⟨le_chain .., fun g hg => chain_clear sorted g ((same g).mpr hg)⟩,
    fun c start clear => chain_le start fun g hg => clear g ((same g).mp hg)⟩

/-! ### The provisional cut (R104 to R106, R116) -/

section
variable {p : Plan} {start w : Nat} {cs : List AvoidSpan}

theorem chooseCut_of_clear (kind : PlateKind) (h : avoidSet p start w cs = []) :
    chooseCut p start w kind cs = { cut := w, kind := kind, needed := w + p.guard - 1 } := by
  rw [chooseCut, leastSpan_eq_none.mpr h]

variable {f : AvoidSpan} (first : leastSpan (avoidSet p start w cs) = some f)
include first

theorem chooseCut_of_short (kind : PlateKind) (room : start + p.minPlate ≤ max start (f.y0 - p.guard)) :
    chooseCut p start w kind cs = { cut := max start (f.y0 - p.guard), kind := .short, needed := f.y0 } := by
  rw [chooseCut, first]
  exact if_pos room

theorem chooseCut_of_cullet (kind : PlateKind) (near : max start (f.y0 - p.guard) < start + p.minPlate) :
    chooseCut p start w kind cs =
      let b := max (chainEnd p (f.y1 + p.guard) cs) (start + p.pitch)
      { cut := if start + p.strip < b then start + p.strip else b, kind := .cullet
        needed := b + p.minPlate + p.guard - 1 } := by
  rw [chooseCut, first]
  exact if_neg near.not_ge

end

/-- A strip is no longer than a nominal plate (R97). -/
theorem Plan.fits_strip {p : Plan} (h : p.fits = true) : p.strip ≤ p.nominal := by
  simp only [Plan.fits, Bool.and_eq_true, decide_eq_true_eq] at h
  obtain ⟨⟨-, strip⟩, -⟩ := h
  exact strip

/-- A cut lies a cutter pitch to a nominal length from S (R116). -/
theorem chooseCut_range {p : Plan} {start w : Nat} (fits : p.fits = true) (least : start + p.pitch ≤ w)
    (most : w ≤ start + p.nominal) (kind : PlateKind) (cs : List AvoidSpan) :
    start + p.pitch ≤ (chooseCut p start w kind cs).cut ∧ (chooseCut p start w kind cs).cut ≤ start + p.nominal := by
  obtain ⟨positive, pitch, -, strip, -⟩ := Plan.fits_spec fits
  have length := Plan.fits_strip fits
  cases first : leastSpan (avoidSet p start w cs) with
  | none =>
    rw [chooseCut_of_clear kind (leastSpan_eq_none.mp first)]
    exact ⟨least, most⟩
  | some f =>
    obtain ⟨-, -, -, before⟩ := mem_avoidSet.mp (leastSpan_spec first).1
    rcases le_or_gt (start + p.minPlate) (max start (f.y0 - p.guard)) with room | near
    · rw [chooseCut_of_short first kind room]
      dsimp only
      omega
    · rw [chooseCut_of_cullet first kind near]
      dsimp only
      split <;> omega

section
variable {p : Plan} {start w : Nat} {kind : PlateKind} {cs : List AvoidSpan}

/-- A SHORT plate leaves the minimum plate, and the guard before every avoid flaw (R105). -/
theorem chooseCut_short (fits : p.fits = true) (window : start + p.pitch ≤ w) (other : kind ≠ .short)
    (h : (chooseCut p start w kind cs).kind = .short) :
    start + p.minPlate ≤ (chooseCut p start w kind cs).cut ∧ (chooseCut p start w kind cs).cut < w ∧
      ∀ f ∈ avoidSet p start w cs, (chooseCut p start w kind cs).cut + p.guard ≤ f.y0 := by
  obtain ⟨positive, pitch, -⟩ := Plan.fits_spec fits
  cases first : leastSpan (avoidSet p start w cs) with
  | none =>
    rw [chooseCut_of_clear kind (leastSpan_eq_none.mp first)] at h
    exact absurd h other
  | some f =>
    obtain ⟨mem, least⟩ := leastSpan_spec first
    obtain ⟨-, -, -, before⟩ := mem_avoidSet.mp mem
    rcases le_or_gt (start + p.minPlate) (max start (f.y0 - p.guard)) with room | near
    · rw [chooseCut_of_short first kind room]
      refine ⟨room, by dsimp only; omega, fun g hg => ?_⟩
      have := least g hg
      dsimp only
      omega
    · rw [chooseCut_of_cullet first kind near] at h
      cases h

/-- A strip of CULLET ends at the strip limit, or behind the first avoid flaw (R106). -/
theorem chooseCut_cullet (other : kind ≠ .cullet) (h : (chooseCut p start w kind cs).kind = .cullet) :
    (chooseCut p start w kind cs).cut = start + p.strip ∨ ∃ f ∈ avoidSet p start w cs,
      (∀ g ∈ avoidSet p start w cs, f.y0 ≤ g.y0) ∧ f.y1 + p.guard ≤ (chooseCut p start w kind cs).cut := by
  cases first : leastSpan (avoidSet p start w cs) with
  | none =>
    rw [chooseCut_of_clear kind (leastSpan_eq_none.mp first)] at h
    exact absurd h other
  | some f =>
    obtain ⟨mem, least⟩ := leastSpan_spec first
    obtain ⟨⟨behind, -⟩, -⟩ := chainEnd_spec p (f.y1 + p.guard) cs
    rcases le_or_gt (start + p.minPlate) (max start (f.y0 - p.guard)) with room | near
    · rw [chooseCut_of_short first kind room] at h
      cases h
    · rw [chooseCut_of_cullet first kind near]
      dsimp only
      split
      · exact .inl rfl
      · exact .inr ⟨f, mem, least, behind.trans (le_max_left _ _)⟩

end

end Sys2Proof.Machine

open Sys2Proof Sys2Proof.Machine

/-- Settles O22: the three ways to choose a cut; then the first flaw's, the avoid set, its candidates, and the SALE groups. -/
theorem chosenCut : Obligations.ChosenCut := by
  unfold Obligations.ChosenCut
  refine ⟨?_, ?_, fun p start w cs f => mem_avoidSet, fun s isForced f => ?_, fun m c0 c1 => outsideSale_iff⟩
  · intro p start w kind cs fits least most notShort notCullet c
    obtain ⟨low, high⟩ := chooseCut_range fits least most kind cs
    exact ⟨low, high, fun fixed => chooseCut_of_clear kind (avoidSet_of_fixed fixed start w cs), chooseCut_of_clear kind,
      chooseCut_short fits least notShort, chooseCut_cullet notCullet⟩
  · intro p start w kind cs pre post f set before behind a chained
    have first : leastSpan (avoidSet p start w cs) = some f := set ▸ leastSpan_of_first before behind
    refine ⟨chooseCut_of_short first kind, fun near => ?_⟩
    obtain ⟨⟨begins, clear⟩, least⟩ := chainEnd_spec p (f.y1 + p.guard) cs
    exact ⟨_, ⟨begins, clear⟩, fun b hb => least b hb.1 hb.2, chooseCut_of_cullet first kind near⟩
  · rw [mem_candidates, mem_openSpans]
end

section
/-! SUPPORT. Retirement (R114, R115): when the head retires, and what it leaves of the queue, the tallies and its slot. -/

namespace Sys2Proof.Machine

/-! ### The head examined (R114, R147) -/

/-- FINAL plates are what they were to the Grader (R148). -/
theorem gradeTest_of_final {s : State} (h : ∀ p ∈ s.sched.queue, p.final = true) : gradeTest s = s := by
  have same : s.sched.queue.map (fun p =>
      if !p.final && inspectionClosed s p && settled p then finalise s.grades p else p) = s.sched.queue := by
    refine (List.map_congr_left fun p hp => ?_).trans (List.map_id _)
    rw [h p hp]
    rfl
  rw [gradeTest, same]

theorem retireLoop_of_empty {s : State} (h : s.sched.queue = []) (n : Nat) : retireLoop n s = s := by
  cases n with
  | zero => rfl
  | succ n => rw [retireLoop, h]

theorem retireLoop_of_head {s : State} {p : Plate} {ps : List Plate} (h : s.sched.queue = p :: ps)
    (active : s.sched.active = true) (may : mayRetire s p = true) (n : Nat) :
    retireLoop (n + 1) s = retireLoop n (evaluate (retirePlate p s)) := by
  rw [retireLoop, h]
  exact if_pos (by rw [active, may]; rfl)

/-- With nothing queued there is nothing to grade and no head. -/
theorem plateChanged_of_empty {s : State} (h : s.sched.queue = []) : plateChanged s = s := by
  rw [plateChanged, gradeTest_of_final (by simp [h]), retireLoop_of_empty h]

/-- The states in which the head retires (R114). -/
theorem mayRetire_iff (s : State) (p : Plate) : mayRetire s p = true ↔ p.final = true ∧ (p.state = .cut ∨ p.state = .skipped ∨
    (p.state = .missed ∧ p.missAction = .retire) ∨ (p.state = .sealFailed ∧ p.cut + p.distance ≤ s.enc.e)) := by
  rw [mayRetire, Bool.and_eq_true, cutPoint]
  cases p.state <;> simp

/-! ### A plate retires (R115) -/

/-- The plate's records and its tallies. -/
theorem retirement_logFrame (p : Plate) (s : State) :
    LogFrame s (tallyRetirement p (handGroup (.plate p :: pieceRecords p) s)) :=
  (handGroup_logFrame _ s).trans (tallyRetirement_logFrame p _)

/-- The plate's entry leaves the queue. -/
theorem retirePlate_queue (p : Plate) (s : State) : (retirePlate p s).sched.queue = s.sched.queue.tail :=
  congrArg (fun q : Scheduler => q.queue.tail) (retirement_logFrame p s).sched

/-- The slot has no occupant, and its sequence is the retired one. -/
theorem retirePlate_slotRec {p : Plate} {s : State} (h : slotOf s p.seq < s.tickets.length) :
    slotRec (retirePlate p s) (slotOf s p.seq) = { slotRec s (slotOf s p.seq) with occupant := none, retired := some p.seq } := by
  have told := retirement_logFrame p s
  unfold retirePlate
  generalize tallyRetirement p (handGroup (.plate p :: pieceRecords p) s) = u at told ⊢
  have slot : slotOf u p.seq = slotOf s p.seq := by rw [slotOf, told.window, slotOf]
  dsimp only
  rw [slot, ← slotRec_congr told.tickets]
  exact slotRec_modSlot_self _ (h.trans_eq (congrArg List.length told.tickets).symm)

theorem retirePlate_lastPlate (p : Plate) (s : State) : (retirePlate p s).tally.lastPlate = some p.num := rfl

theorem retirePlate_firstPlate (p : Plate) (s : State) : (retirePlate p s).tally.firstPlate.isSome = true := by
  rw [retirePlate, tallyRetirement]
  dsimp only [modSlot]
  split <;> rfl

/-- A piece is tallied under its grade and its label (R115, R166). -/
theorem tallyPiece_kept {k : TallyKey} (h : k.index < 13) (s : State) (q : Piece) : TallyKept k s (tallyPiece s q) := by
  have apart {j : TallyKey} (hj : 13 ≤ j.index) : k.index ≠ j.index := (h.trans_le hj).ne
  refine ((tallyAdd_kept (apart ?_) _ s).trans (tallyAdd_kept (apart ?_) _ _)).trans (tallyAdd_kept (apart ?_) _ _)
  · exact Nat.le_add_right ..
  · simp only [TallyKey.index]
    omega
  · simp only [TallyKey.index]
    omega

/-- Tallying a retirement, each end state has its own place. -/
theorem retirePlate_retired (p : Plate) {s : State} (table : s.tally.counts.length = tallyPlaces)
    (code : (TallyKey.retired p.state).index < 13) :
    tallyOf (retirePlate p s).tally (.retired p.state) = min (tallyOf s.tally (.retired p.state) + 1) 65535 := by
  have pieces (l : List Piece) (t : State) : TallyKept (.retired p.state) t (l.foldl tallyPiece t) := by
    induction l generalizing t with
    | nil => exact .refl _ t
    | cons q l ih => exact (tallyPiece_kept code t q).trans (ih _)
  have told : TallyKept (.retired p.state) s (handGroup (.plate p :: pieceRecords p) s) :=
    handGroup_kept (code.trans_le (by decide)).ne _ s
  obtain ⟨value, length⟩ := told
  have place : (TallyKey.retired p.state).index < (handGroup (.plate p :: pieceRecords p) s).tally.counts.length := by
    rw [length, table]
    exact code.trans_le (by decide)
  calc tallyOf (retirePlate p s).tally (.retired p.state)
      = tallyOf ((handGroup (.plate p :: pieceRecords p) s).tally.add (.retired p.state) 1) (.retired p.state) :=
        (pieces p.pieces _).value
    _ = _ := by
      rw [tallyOf_add_self place, value]
      rfl

/-! ### The command -/

section
variable {s : State} {p : Plate} (queue : s.sched.queue = [p]) (failed : p.state = .sealFailed)
include queue failed

theorem cutPointDue_of_one : cutPointDue s = decide (cutPoint p ≤ s.enc.e) := by
  rw [cutPointDue, queue, List.head?_cons]
  dsimp only
  rw [failed]
  rfl

theorem exec_sealFailedCutPoint_before (h : s.enc.e < cutPoint p) : exec .sealFailedCutPoint s = .next s :=
  congrArg Host.Outcome.next (if_neg (by rw [cutPointDue_of_one queue failed, decide_eq_true_eq]; exact h.not_ge))

/-- The only plate retires at its cut point, and the evaluation that follows defers. -/
theorem exec_sealFailedCutPoint_at (final : p.final = true) (active : s.sched.active = true) (h : cutPoint p ≤ s.enc.e)
    (rest : evaluate (retirePlate p s) = retirePlate p s) :
    exec .sealFailedCutPoint s = .next (refreshStatus s (retirePlate p s)) := by
  have due : cutPointDue s = true := (cutPointDue_of_one queue failed).trans (decide_eq_true h)
  have may : mayRetire s p = true := (mayRetire_iff s p).mpr ⟨final, .inr (.inr (.inr ⟨failed, h⟩))⟩
  have left : (retirePlate p s).sched.queue = [] := by rw [retirePlate_queue, queue, List.tail_cons]
  have acted : plateChanged s = retirePlate p s := by
    rw [plateChanged, gradeTest_of_final (by simpa [queue] using final)]
    exact (retireLoop_of_head queue active may 63).trans (by rw [rest, retireLoop_of_empty left])
  rw [← acted]
  exact congrArg Host.Outcome.next (if_pos due)

end

end Sys2Proof.Machine

open Sys2Proof Sys2Proof.Machine

/-- Settles O25: the command before the cut point and at it; then the states in which a head retires. -/
theorem sealFailedCutPoint : Obligations.SealFailedCutPoint := by
  unfold Obligations.SealFailedCutPoint
  refine ⟨fun s p queue failed final active slot => ⟨exec_sealFailedCutPoint_before queue failed, fun reached rest => ?_⟩,
    mayRetire_iff⟩
  refine ⟨exec_sealFailedCutPoint_at queue failed final active reached rest, ?_, retirePlate_lastPlate p s,
    retirePlate_firstPlate p s, fun table => ?_, ?_, ?_⟩
  · rw [retirePlate_queue, queue, List.tail_cons]
  · rw [← failed]
    exact retirePlate_retired p table (by rw [failed]; decide)
  · rw [retirePlate_slotRec slot]
  · rw [retirePlate_slotRec slot]
end

section
/-! SUPPORT. The orders to the Plate Scheduler: PLAN SET's checks (R97, R191) and the scheduler's activation (R99). -/

namespace Sys2Proof.Machine

/-! ### Fields (R187) -/

theorem leNat_lt (bytes : List Byte) : leNat bytes < 256 ^ bytes.length := by
  induction bytes with
  | nil => exact Nat.one_pos
  | cons b bytes ih =>
    have low := b.isLt
    rw [leNat, List.length_cons, Nat.pow_succ']
    omega

/-- A field keeps the range of its bytes. -/
theorem fieldAt_lt (bytes : List Byte) (off size : Nat) : fieldAt bytes off size < 256 ^ size :=
  (leNat_lt _).trans_le (Nat.pow_le_pow_right (by decide) (List.length_take_le ..))

/-! ### The plan that an order carries (R97, R191) -/

theorem planModeOf_eq (n : Nat) : planModeOf n = if n = 1 ∨ n = 2 then some (if n = 1 then .avoid else .fixed) else none := by
  unfold planModeOf
  split <;> simp_all

theorem gapPolicyOf_eq (n : Nat) : gapPolicyOf n = if n = 1 ∨ n = 2 then some (if n = 1 then .avoid else .grade) else none := by
  unfold gapPolicyOf
  split <;> simp_all

theorem missActionOf_eq (n : Nat) : missActionOf n = if n = 1 ∨ n = 2 then some (if n = 1 then .retire else .keep) else none := by
  unfold missActionOf
  split <;> simp_all

/-- The plan in an order's fields, its codes being in range. -/
def carriedPlan (o : List Byte) : Plan :=
  { nominal := fieldAt o 0x10 2, minPlate := fieldAt o 0x12 2, pitch := fieldAt o 0x14 2, guard := fieldAt o 0x16 2
    strip := fieldAt o 0x18 2, distance := fieldAt o 0x1A 4, margin := fieldAt o 0x1E 2, slack := fieldAt o 0x20 2
    missWindow := fieldAt o 0x22 2, tolerance := fieldAt o 0x24 1
    mode := if fieldAt o 0x25 1 = 1 then .avoid else .fixed, gapPolicy := if fieldAt o 0x26 1 = 1 then .avoid else .grade
    missAction := if fieldAt o 0x27 1 = 1 then .retire else .keep }

/-- The three codes of a plan are in range (R191). -/
def PlanCodes (o : List Byte) : Prop :=
  (fieldAt o 0x25 1 = 1 ∨ fieldAt o 0x25 1 = 2) ∧ (fieldAt o 0x26 1 = 1 ∨ fieldAt o 0x26 1 = 2) ∧
    (fieldAt o 0x27 1 = 1 ∨ fieldAt o 0x27 1 = 2)

theorem parsePlan_of_fits {o : List Byte} (fits : (carriedPlan o).fits = true) (codes : PlanCodes o) :
    parsePlan o = some (carriedPlan o) := by
  obtain ⟨mode, gap, miss⟩ := codes
  rw [parsePlan, planModeOf_eq, if_pos mode, gapPolicyOf_eq, if_pos gap, missActionOf_eq, if_pos miss]
  exact if_pos fits

theorem parsePlan_of_bad {o : List Byte} (h : ¬ ((carriedPlan o).fits = true ∧ PlanCodes o)) : parsePlan o = none := by
  rw [parsePlan, planModeOf_eq, gapPolicyOf_eq, missActionOf_eq]
  by_cases mode : fieldAt o 0x25 1 = 1 ∨ fieldAt o 0x25 1 = 2
  case neg => rw [if_neg mode]
  by_cases gap : fieldAt o 0x26 1 = 1 ∨ fieldAt o 0x26 1 = 2
  case neg => rw [if_pos mode, if_neg gap]
  by_cases miss : fieldAt o 0x27 1 = 1 ∨ fieldAt o 0x27 1 = 2
  case neg => rw [if_pos mode, if_pos gap, if_neg miss]
  rw [if_pos mode, if_pos gap, if_pos miss]
  exact if_neg fun fits => h ⟨fits, mode, gap, miss⟩

/-- R97's ranges and relations, for a plan whose nominal length and tolerance are within their fields. -/
theorem Plan.fits_iff {p : Plan} (nominal : p.nominal ≤ 65535) (tolerance : p.tolerance ≤ 255) : p.fits = true ↔
    4000 ≤ p.nominal ∧ p.pitch ≤ p.minPlate ∧ p.minPlate ≤ p.nominal ∧ 1024 ≤ p.pitch ∧ p.pitch ≤ 16383 ∧ p.guard ≤ 1023 ∧
      p.pitch ≤ p.strip ∧ p.strip ≤ p.nominal ∧ 8192 ≤ p.distance ∧ p.distance ≤ 262143 ∧ 256 ≤ p.margin ∧ p.margin ≤ 8191 ∧
      64 ≤ p.slack ∧ p.slack ≤ 4095 ∧ 64 ≤ p.missWindow ∧ p.missWindow ≤ 4095 ∧
      p.margin + p.nominal + p.slack < p.distance := by
  simp only [Plan.fits, Bool.and_eq_true, decide_eq_true_eq, nominal, tolerance]
  tauto

/-! ### What follows an order of the scheduler's -/

section
variable {s : State} {o : List Byte}

/-- The status block tells of the scheduler S, the depth of the queue and the next sequence (R194). -/
theorem statusFields_complete_sched (c : Completion) {q : Scheduler} (start : q.start = s.sched.start)
    (queue : q.queue = s.sched.queue) (seq : q.nextSeq = s.sched.nextSeq) :
    statusFields (complete c { s with sched := q }) = statusFields s := by
  rw [statusFields_complete]
  simp only [statusFields, start, queue, seq]
  rfl

/-- While disabled, or without a ring, the scheduler stays inactive (R99). -/
theorem activate_of_unready (h : enabled s = false ∨ s.window.ticket.valid = false) : activate s = s := by
  refine if_neg fun ready => ?_
  simp only [Bool.and_eq_true] at ready
  obtain ⟨⟨⟨-, on⟩, -⟩, ring⟩ := ready
  rcases h with off | invalid
  · exact absurd on (Bool.eq_false_iff.mp off)
  · exact absurd ring (Bool.eq_false_iff.mp invalid)

theorem activate_plan (s : State) : (activate s).sched.plan = s.sched.plan := by
  unfold activate
  split
  · rw [plateChanged_plan, evaluate_plan]
  · rfl

/-! ### PLAN SET -/

theorem exec_planSet_of_ready (ready : OrderReady s kindPlanSet o) :
    exec .planSet s = .next (refreshStatus s (takePlanSet o s)) := by
  have taken : exec .planSet s = .next (refreshStatus s (withOrder kindPlanSet takePlanSet s)) := rfl
  rw [taken, withOrder_of_ready ready]

theorem exec_planSet_of_bad (ready : OrderReady s kindPlanSet o) (bad : parsePlan o = none) :
    exec .planSet s = .next (complete .planBad s) := by
  rw [exec_planSet_of_ready ready, takePlanSet, bad]
  exact congrArg _ (refreshStatus_of_eq (statusFields_complete _ s))

/-- The plan is in force and the order complete. -/
def planTaken (p : Plan) (s : State) : State := complete .done { s with sched := { s.sched with plan := some p } }

theorem exec_planSet_of_active {p : Plan} (ready : OrderReady s kindPlanSet o) (good : parsePlan o = some p)
    (active : s.sched.active = true) :
    exec .planSet s = .next (refreshStatus s (plateChanged (evaluate (planTaken p s)))) := by
  rw [exec_planSet_of_ready ready, takePlanSet, good]
  exact congrArg (fun t => Host.Outcome.next (refreshStatus s t)) (if_pos active)

theorem exec_planSet_of_inactive {p : Plan} (ready : OrderReady s kindPlanSet o) (good : parsePlan o = some p)
    (inactive : s.sched.active = false) : exec .planSet s = .next (refreshStatus s (activate (planTaken p s))) := by
  rw [exec_planSet_of_ready ready, takePlanSet, good]
  exact congrArg (fun t => Host.Outcome.next (refreshStatus s t)) (if_neg (Bool.eq_false_iff.mp inactive))

/-- R99's conditions do not hold under the new plan: it is in force, and that is all. -/
theorem exec_planSet_of_unready {p : Plan} (ready : OrderReady s kindPlanSet o) (good : parsePlan o = some p)
    (inactive : s.sched.active = false) (unready : enabled s = false ∨ s.window.ticket.valid = false) :
    exec .planSet s = .next (planTaken p s) := by
  have unchanged : statusFields (planTaken p s) = statusFields s :=
    statusFields_complete_sched .done (by rfl) (by rfl) (by rfl)
  rw [exec_planSet_of_inactive ready good inactive, activate_of_unready (s := planTaken p s) unready,
    refreshStatus_of_eq unchanged]

/-- R99's conditions hold with the new plan: the scheduler starts beyond A. -/
theorem exec_planSet_starts {p : Plan} (ready : OrderReady s kindPlanSet o) (good : parsePlan o = some p)
    (inactive : s.sched.active = false) (on : enabled s = true) (ring : s.window.ticket.valid = true) :
    ∃ t, exec .planSet s = .next t ∧ t.sched.active = true ∧ t.sched.plan = some p ∧ s.asm.a < t.sched.start ∧
      t.orders.phase = .completing 1 := by
  obtain ⟨active, start⟩ := activate_started (s := planTaken p s) inactive on rfl ring
  have log := refreshStatus_logFrame s (activate (planTaken p s))
  have orders : (refreshStatus s (activate (planTaken p s))).orders = (planTaken p s).orders :=
    ((activate_plateFrame _).trans log.plate).orders
  refine ⟨_, exec_planSet_of_inactive ready good inactive, ?_⟩
  rw [log.sched, orders]
  exact ⟨active, activate_plan _, start, rfl⟩

end

end Sys2Proof.Machine

open Sys2Proof Sys2Proof.Machine

/-- Settles O46: the checks are R97's; then the plan by whether the scheduler is active, stays inactive or starts. -/
theorem planSet : Obligations.PlanSet := by
  unfold Obligations.PlanSet
  intro s o ready f nominal pitch good p s1
  have checks : (carriedPlan o).fits = true ∧ PlanCodes o ↔ good := by
    rw [Plan.fits_iff (Nat.le_of_lt_succ (fieldAt_lt o 0x10 2)) (Nat.le_of_lt_succ (fieldAt_lt o 0x24 1))]
    simp only [and_assoc]
    exact Iff.rfl
  have parsed (h : good) : parsePlan o = some p := by
    obtain ⟨fits, codes⟩ := checks.mpr h
    exact parsePlan_of_fits fits codes
  exact ⟨fun bad => exec_planSet_of_bad ready (parsePlan_of_bad (mt checks.mp bad)),
    fun h => exec_planSet_of_unready ready (parsed h), fun h => exec_planSet_of_active ready (parsed h),
    fun h => exec_planSet_starts ready (parsed h)⟩
end

section
/-! SUPPORT. RESTART: the plates it keeps and those it abandons (R118), where S resumes (R119), and what it tallies (R121, R164);
and CUT REQUEST (R117). -/

namespace Sys2Proof.Machine

/-! ### The plates kept and the plates abandoned (R118) -/

/-- A plate that holds RESTART is TAKEN, past its seal's use, or frozen (R118). -/
theorem holdsRestart_iff (s : State) (q : Plate) : holdsRestart s q = true ↔ q.state = .taken ∨ q.state = .cut ∨
    q.state = .skipped ∨ q.state = .missed ∨ q.state = .sealFailed ∨ q.cut + q.distance ≤ s.enc.e + q.margin := by
  rw [holdsRestart, frozen, cutPoint, Bool.or_eq_true, decide_eq_true_eq]
  cases q.state <;> simp

/-- The plates that RESTART keeps. -/
def keptQueue (s : State) : List Plate := s.sched.queue.take (keptPlates s)

theorem keptQueue_append (s : State) : keptQueue s ++ abandonedPlates s = s.sched.queue := List.take_append_drop ..

/-- The queue is cut behind the last plate that holds RESTART. -/
theorem keptQueue_eq (s : State) : keptQueue s = s.sched.queue.rdropWhile (fun p => !holdsRestart s p) := by
  have parts := List.rdropWhile_append_rtakeWhile (p := fun p => !holdsRestart s p) (l := s.sched.queue)
  have count : keptPlates s = (s.sched.queue.rdropWhile (fun p => !holdsRestart s p)).length := by
    have lengths := congrArg List.length parts
    rw [List.length_append, List.rtakeWhile, List.length_reverse] at lengths
    rw [keptPlates, ← lengths, Nat.add_sub_cancel]
  rw [keptQueue, count]
  exact (congrArg _ parts.symm).trans List.take_left

theorem abandonedPlates_eq (s : State) : abandonedPlates s = s.sched.queue.rtakeWhile (fun p => !holdsRestart s p) := by
  refine List.append_cancel_left (as := keptQueue s) ?_
  rw [keptQueue_append, keptQueue_eq, List.rdropWhile_append_rtakeWhile]

/-- No plate abandoned holds RESTART. -/
theorem abandonedPlates_free {s : State} {q : Plate} (h : q ∈ abandonedPlates s) : holdsRestart s q = false := by
  rw [abandonedPlates_eq] at h
  simpa using List.mem_rtakeWhile_imp h

/-- The last plate kept holds RESTART. -/
theorem keptQueue_last {s : State} {q : Plate} (h : (keptQueue s).getLast? = some q) : holdsRestart s q = true := by
  rw [keptQueue_eq] at h
  have ne := List.ne_nil_of_mem (List.mem_of_getLast? h)
  have last := List.rdropWhile_last_not _ _ ne
  rw [List.getLast?_eq_some_getLast ne] at h
  simpa [Option.some.inj h] using last

/-! ### The plates withdrawn (R121, R137) -/

/-- A plate abandoned leaves the split list and is tallied; else it changes the ticket slots and the port alone. -/
theorem abandonPlate_split_tallied (d : Bool) (p : Plate) (s : State) : ∃ k b, abandonPlate d s p = { s with
    blobs := { s.blobs with splits := s.blobs.splits.filter (fun c => decide (c ≠ p.cut)) }
    tickets := k, tally := s.tally.add .abandoned 1, arb := b } := by
  have differs : (fun c => c != p.cut) = fun c => decide (c ≠ p.cut) := by
    funext c
    rw [decide_not]
    rfl
  obtain ⟨k, b, withdrawn, -⟩ := withdrawTicket_eq_with d p
    { s with blobs := { s.blobs with splits := s.blobs.splits.filter (fun c => c != p.cut) } }
  exact ⟨k, b, by rw [abandonPlate, withdrawn, differs]; rfl⟩

/-- The cuts of plates abandoned leave the split list. -/
theorem abandonAll_splits (d : Bool) (gone : List Plate) (s : State) : (abandonAll d gone s).blobs.splits =
    s.blobs.splits.filter (fun c => gone.all (fun q => decide (c ≠ q.cut))) := by
  induction gone generalizing s with
  | nil => exact (List.filter_true _).symm
  | cons p gone ih =>
    obtain ⟨_, _, first⟩ := abandonPlate_split_tallied d p s
    rw [abandonAll, List.foldl_cons, ← abandonAll, ih, first, List.filter_filter]
    exact List.filter_congr fun c _ => Bool.and_comm ..

/-- Tallies but that of ABANDONED stay. -/
theorem abandonAll_kept {k : TallyKey} (h : k.index ≠ TallyKey.abandoned.index) (d : Bool) (gone : List Plate) (s : State) :
    TallyKept k s (abandonAll d gone s) := by
  induction gone generalizing s with
  | nil => exact .refl k s
  | cons p gone ih =>
    obtain ⟨_, _, first⟩ := abandonPlate_split_tallied d p s
    have kept : TallyKept k s (abandonPlate d s p) := (tallyAdd_kept h 1 s).trans (.of_eq (by rw [first]; rfl))
    exact kept.trans (ih _)

/-- A plate withdrawn hands the null rewrite of its slot over, if it is due at once, and else leaves the port (R137). -/
theorem withdrawTicket_arb (d : Bool) {p : Plate} {s : State} (h : slotOf s p.seq < s.tickets.length) :
    (withdrawTicket d p s).arb = { s.arb with ownWaiting := s.arb.ownWaiting ++ nullRewrites d s [p] } := by
  have vacant (f : SlotRec → SlotRec) := slotRec_modSlot_self f h
  unfold withdrawTicket nullRewrites
  dsimp only
  split
  case h_1 sealing => simp [sealing, modSlot]
  case h_2 isSealed =>
    rw [vacant]
    split
    · rename_i idle
      rw [issueNull, vacant]
      simp_all [issueOwn, modSlot, ticketAddr, nullTicket, zeros]
    · rename_i busy
      simp_all [modSlot]
  case h_3 => cases hp : p.state <;> simp_all [modSlot]

/-- With one plate withdrawn, the others have their slots still. -/
theorem SlotsApart.tail {d : Bool} {s : State} {p : Plate} {gone : List Plate} (h : SlotsApart s (p :: gone)) :
    SlotsApart (abandonPlate d s p) gone ∧
      ∀ q ∈ gone, slotRec (abandonPlate d s p) (slotOf s q.seq) = slotRec s (slotOf s q.seq) := by
  obtain ⟨distinct, inRing⟩ := h
  obtain ⟨alone, distinct⟩ := List.nodup_cons.mp distinct
  obtain ⟨own, inRing⟩ := List.forall_mem_cons.mp inRing
  obtain ⟨c, k, y, b, step, length⟩ := abandonPlate_eq_with d p s
  have slot (q : Nat) : slotOf (abandonPlate d s p) q = slotOf s q := by rw [step]; rfl
  refine ⟨⟨by simpa only [slot] using distinct, fun q hq => by rw [slot, step]; exact length ▸ inRing q hq⟩, fun q hq => ?_⟩
  refine (abandonPlate_withdrawn d own).other _ fun x hx e => alone (List.mem_map.mpr ⟨q, hq, ?_⟩)
  rw [← e, List.mem_singleton.mp hx]

/-- The null rewrites are all that plates abandoned bring to the port (R137). -/
theorem abandonAll_arb (d : Bool) {gone : List Plate} {s : State} (h : SlotsApart s gone) :
    (abandonAll d gone s).arb = { s.arb with ownWaiting := s.arb.ownWaiting ++ nullRewrites d s gone } := by
  induction gone generalizing s with
  | nil => exact congrArg (fun l => { s.arb with ownWaiting := l }) (List.append_nil _).symm
  | cons p gone ih =>
    obtain ⟨apart, untouched⟩ := h.tail (d := d)
    obtain ⟨c, k, y, b, step, -⟩ := abandonPlate_eq_with d p s
    have first : (abandonPlate d s p).arb = { s.arb with ownWaiting := s.arb.ownWaiting ++ nullRewrites d s [p] } :=
      withdrawTicket_arb d (s := { s with blobs := { s.blobs with splits := s.blobs.splits.filter (fun c => c != p.cut) } })
        (h.2 p List.mem_cons_self)
    rw [abandonAll, List.foldl_cons, ← abandonAll, ih apart, first,
      nullRewrites_congr (by rw [step]) untouched, nullRewrites_cons d s p gone, List.append_assoc]

/-! ### Where S resumes (R119) -/

/-- Where the first plate abandoned began, or S if there is none. -/
def resumedStart (gone : List Plate) (s : State) : Nat := (gone.head?.map (·.start)).getD s.sched.start

/-- S, the next number and the next sequence are those of the first plate abandoned, and the plates' flaws are spent. -/
theorem resumeFrom_eq_with (gone : List Plate) (s : State) : ∃ replan zone, resumeFrom gone s = { s with
    sched := { s.sched with
      start := resumedStart gone s
      nextPlate := (gone.head?.map (·.num)).getD s.sched.nextPlate
      nextSeq := (gone.head?.map (·.seq)).getD s.sched.nextSeq
      flaws := s.sched.flaws.map (fun f => { f with spent := f.spent || meetsGone gone f.y0 f.y1 })
      replan := replan, zone := zone } } := by
  cases gone with
  | nil =>
    have unmarked : s.sched.flaws.map (fun f => { f with spent := f.spent || meetsGone [] f.y0 f.y1 }) = s.sched.flaws := by
      simp [meetsGone]
    exact ⟨s.sched.replan, s.sched.zone, by rw [unmarked]; rfl⟩
  | cons q gone =>
    obtain ⟨l, last⟩ : ∃ l, (q :: gone).getLast? = some l := ⟨_, List.getLast?_cons⟩
    refine ⟨some l.cut, s.sched.zone.map (fun z => { z with spent := z.spent || meetsGone (q :: gone) z.y0 z.y1 }), ?_⟩
    rw [resumeFrom, last]
    rfl

/-- S is raised to X0 if that is greater, and what ends before it leaves the flaw list (R82). -/
theorem raiseStart_eq_with (p : Plan) (s : State) : ∃ zone tally, raiseStart p s = { s with
    sched := { s.sched with
      start := max s.sched.start (earliestCut s p)
      flaws := s.sched.flaws.filter (fun f => decide (max s.sched.start (earliestCut s p) ≤ f.y1)), zone := zone }
    tally := tally } := by
  unfold raiseStart
  split
  · rename_i behind
    rw [max_eq_right behind.le]
    exact ⟨_, _, rfl⟩
  · rename_i reached
    rw [max_eq_left (Nat.le_of_not_lt reached)]
    exact ⟨_, _, rfl⟩

/-- The stretch up to X0 is unplanned length and advance of S (R121). -/
theorem raiseStart_tally_of_lt {p : Plan} {s : State} (h : s.sched.start < earliestCut s p) : (raiseStart p s).tally =
    (s.tally.add .unplannedLength (earliestCut s p - s.sched.start)).add .sAdvance (earliestCut s p - s.sched.start) := by
  rw [raiseStart, if_pos h]
  rfl

theorem raiseStart_tally_of_le {p : Plan} {s : State} (h : earliestCut s p ≤ s.sched.start) :
    (raiseStart p s).tally = s.tally := by
  rw [raiseStart, if_neg (Nat.not_lt.mpr h)]
  rfl

theorem raiseStart_kept {k : TallyKey} (hu : k.index ≠ TallyKey.unplannedLength.index)
    (ha : k.index ≠ TallyKey.sAdvance.index) (p : Plan) (s : State) : TallyKept k s (raiseStart p s) := by
  rcases Nat.lt_or_ge s.sched.start (earliestCut s p) with behind | reached
  · exact ((tallyAdd_kept hu _ s).trans (tallyAdd_kept ha _ _)).trans (.of_eq (raiseStart_tally_of_lt behind))
  · exact .of_eq (raiseStart_tally_of_le reached)

/-! ### RESTART's act (R118, R119) -/

/-- RESTART's act before the event that tells of it. -/
def replannedQueue (p : Plan) (s : State) : State := raiseStart p (resumeFrom (abandonedPlates s) (abandonSuffix s))

theorem abandonSuffix_eq_with (s : State) : abandonSuffix s = { s with
    sched := { s.sched with queue := keptQueue s, request := none }
    blobs := { s.blobs with splits := s.blobs.splits.filter (fun c => (abandonedPlates s).all (fun q => decide (c ≠ q.cut))) }
    tickets := (abandonAll false (abandonedPlates s) s).tickets
    tally := (abandonAll false (abandonedPlates s) s).tally
    arb := (abandonAll false (abandonedPlates s) s).arb } := by
  obtain ⟨c, k, y, b, all⟩ := abandonAll_eq_with false (abandonedPlates s) s
  have splits := abandonAll_splits false (abandonedPlates s) s
  have suffix : abandonSuffix s = { abandonAll false (abandonedPlates s) s with
    sched := { (abandonAll false (abandonedPlates s) s).sched with queue := keptQueue s, request := none } } := rfl
  rw [suffix, ← splits, all]

section
variable (p : Plan) (s : State)

/-- The suffix abandoned and S resumed: the tallies are those of the plates abandoned, and S and X0 tell whether S is raised. -/
theorem resumed_facts :
    (resumeFrom (abandonedPlates s) (abandonSuffix s)).tally = (abandonAll false (abandonedPlates s) s).tally ∧
    (resumeFrom (abandonedPlates s) (abandonSuffix s)).sched.start = resumedStart (abandonedPlates s) s ∧
    earliestCut (resumeFrom (abandonedPlates s) (abandonSuffix s)) p = earliestCut s p := by
  obtain ⟨_, _, resumed⟩ := resumeFrom_eq_with (abandonedPlates s) (abandonSuffix s)
  rw [resumed, abandonSuffix_eq_with]
  exact ⟨rfl, rfl, rfl⟩

/-- RESTART's act, block by block. -/
theorem replannedQueue_eq_with : ∃ replan zone tally, replannedQueue p s = { s with
    sched := { s.sched with
      queue := keptQueue s, request := none, replan := replan, zone := zone
      start := max (resumedStart (abandonedPlates s) s) (earliestCut s p)
      nextPlate := ((abandonedPlates s).head?.map (·.num)).getD s.sched.nextPlate
      nextSeq := ((abandonedPlates s).head?.map (·.seq)).getD s.sched.nextSeq
      flaws := (s.sched.flaws.map (fun f => { f with spent := f.spent || meetsGone (abandonedPlates s) f.y0 f.y1 })).filter
        (fun f => decide (max (resumedStart (abandonedPlates s) s) (earliestCut s p) ≤ f.y1)) }
    blobs := { s.blobs with splits := s.blobs.splits.filter (fun c => (abandonedPlates s).all (fun q => decide (c ≠ q.cut))) }
    tickets := (abandonAll false (abandonedPlates s) s).tickets
    tally := tally
    arb := (abandonAll false (abandonedPlates s) s).arb } := by
  obtain ⟨replan, _, resumed⟩ := resumeFrom_eq_with (abandonedPlates s) (abandonSuffix s)
  obtain ⟨zone, tally, raised⟩ := raiseStart_eq_with p (resumeFrom (abandonedPlates s) (abandonSuffix s))
  obtain ⟨-, start, reach⟩ := resumed_facts p s
  rw [start, reach, resumed, abandonSuffix_eq_with] at raised
  refine ⟨replan, zone, tally, Eq.trans ?_ raised⟩
  rw [replannedQueue, resumed, abandonSuffix_eq_with]

/-- RESTARTED tells of the act, and changes nothing of the scheduler (R122). -/
theorem restartPlates_sched : (restartPlates p s).sched = (replannedQueue p s).sched := (issueEvent_logFrame _ _ _).sched

theorem restartPlates_eq : restartPlates p s = issueEvent .restarted [(abandonedPlates s).length,
    resumedStart (abandonedPlates s) s, (restartPlates p s).sched.start, (restartPlates p s).sched.nextSeq]
    (replannedQueue p s) := by
  obtain ⟨-, start, -⟩ := resumed_facts p s
  rw [restartPlates_sched, ← start]
  rfl

end

/-! ### What RESTART tallies (R121, R164) -/

section
variable {p : Plan} {s : State}

theorem replannedQueue_abandoned (table : s.tally.counts.length = tallyPlaces) (any : abandonedPlates s ≠ []) :
    tallyOf (replannedQueue p s).tally .abandoned =
      min (tallyOf s.tally .abandoned + (abandonedPlates s).length) 65535 := by
  obtain ⟨tally, -, -⟩ := resumed_facts p s
  rw [replannedQueue, (raiseStart_kept (by decide) (by decide) p _).value, tally, abandonAll_tally false table any]

/-- The stretch from S to X0 (R121). -/
theorem replannedQueue_stretch (table : s.tally.counts.length = tallyPlaces)
    (behind : resumedStart (abandonedPlates s) s < earliestCut s p) :
    let stretch := earliestCut s p - resumedStart (abandonedPlates s) s
    tallyOf (replannedQueue p s).tally .unplannedLength = min (tallyOf s.tally .unplannedLength + stretch) (2 ^ 48 - 1) ∧
      tallyOf (replannedQueue p s).tally .sAdvance = min (tallyOf s.tally .sAdvance + stretch) (2 ^ 48 - 1) := by
  obtain ⟨tally, start, reach⟩ := resumed_facts p s
  have raised := raiseStart_tally_of_lt (p := p) (s := resumeFrom (abandonedPlates s) (abandonSuffix s))
    (by rw [start, reach]; exact behind)
  rw [tally, start, reach] at raised
  obtain ⟨unplanned, length⟩ := abandonAll_kept (k := .unplannedLength) (by decide) false (abandonedPlates s) s
  obtain ⟨advance, -⟩ := abandonAll_kept (k := .sAdvance) (by decide) false (abandonedPlates s) s
  rw [table] at length
  rw [replannedQueue, raised]
  constructor
  · rw [tallyOf_add_of_ne (by decide), tallyOf_add_self (by rw [length]; decide), unplanned]
    rfl
  · rw [tallyOf_add_self (by rw [TallyUnit.add_counts_length, length]; decide), tallyOf_add_of_ne (by decide), advance]
    rfl

/-- With no plate abandoned and S at or beyond X0, nothing is tallied. -/
theorem replannedQueue_untallied (empty : abandonedPlates s = [])
    (reached : earliestCut s p ≤ resumedStart (abandonedPlates s) s) :
    (replannedQueue p s).tally = s.tally := by
  obtain ⟨tally, start, reach⟩ := resumed_facts p s
  rw [replannedQueue, raiseStart_tally_of_le (by rw [start, reach]; exact reached), tally, empty]
  rfl

end

/-! ### The commands (R117 to R119) -/

section
variable {s : State} {o : List Byte}

theorem exec_cutRequest_of_ready (ready : OrderReady s kindCutRequest o) :
    exec .cutRequest s = .next (refreshStatus s (takeCutRequest o s)) := by
  have taken : exec .cutRequest s = .next (refreshStatus s (withOrder kindCutRequest takeCutRequest s)) := rfl
  rw [taken, withOrder_of_ready ready]

theorem exec_cutRequest_of_pending (ready : OrderReady s kindCutRequest o) (pending : s.sched.request ≠ none) :
    exec .cutRequest s = .next (complete .busy s) := by
  obtain ⟨x, request⟩ := Option.ne_none_iff_exists'.mp pending
  rw [exec_cutRequest_of_ready ready, takeCutRequest, request]
  exact congrArg _ (refreshStatus_of_eq (statusFields_complete _ s))

/-- The order complete, with its request stored. -/
def requestTaken (o : List Byte) (s : State) : State :=
  complete .done { s with sched := { s.sched with request := some (fieldAt o 0x10 6) } }

theorem exec_cutRequest_of_stored (ready : OrderReady s kindCutRequest o) (free : s.sched.request = none) :
    exec .cutRequest s = .next (refreshStatus s (plateChanged (evaluate (requestTaken o s)))) := by
  rw [exec_cutRequest_of_ready ready, takeCutRequest, free]
  rfl

/-- While inactive, with nothing queued, the request waits for the next evaluation. -/
theorem exec_cutRequest_of_inactive (ready : OrderReady s kindCutRequest o) (free : s.sched.request = none)
    (inactive : s.sched.active = false) (empty : s.sched.queue = []) : exec .cutRequest s = .next (requestTaken o s) := by
  have unchanged : statusFields (requestTaken o s) = statusFields s :=
    statusFields_complete_sched .done (by rfl) (by rfl) (by rfl)
  rw [exec_cutRequest_of_stored ready free, evaluate_of_inactive (s := requestTaken o s) inactive,
    plateChanged_of_empty (s := requestTaken o s) empty, refreshStatus_of_eq unchanged]

theorem exec_restart_of_ready (ready : OrderReady s kindRestart o) :
    exec .restart s = .next (decideAfterRestart (refreshStatus s (takeRestart s))) := by
  have taken : exec .restart s =
    .next (withOrder kindRestart (fun _ s => decideAfterRestart (refreshStatus s (takeRestart s))) s) := rfl
  rw [taken, withOrder_of_ready ready]

theorem exec_restart_of_inactive (ready : OrderReady s kindRestart o) (inactive : s.sched.active = false) :
    exec .restart s = .next (complete .done { s with sched := { s.sched with request := none } }) := by
  have act : takeRestart s = complete .done { s with sched := { s.sched with request := none } } := by
    rw [takeRestart, inactive]
  have unchanged : statusFields (complete .done { s with sched := { s.sched with request := none } }) = statusFields s :=
    statusFields_complete_sched .done (by rfl) (by rfl) (by rfl)
  rw [exec_restart_of_ready ready, act, refreshStatus_of_eq unchanged, decideAfterRestart, complete_sched, inactive]
  rfl

/-- The scheduler stays active under its plan. -/
theorem restartPlates_active (p : Plan) (s : State) : (restartPlates p s).sched.active = s.sched.active ∧
    (restartPlates p s).sched.plan = s.sched.plan := by
  obtain ⟨_, _, _, act⟩ := replannedQueue_eq_with p s
  rw [restartPlates_sched, act]
  exact ⟨rfl, rfl⟩

theorem exec_restart_of_active {p : Plan} (ready : OrderReady s kindRestart o) (active : s.sched.active = true)
    (plan : s.sched.plan = some p) :
    let restarted := refreshStatus s (complete .done (restartPlates p s))
    exec .restart s = .next (refreshStatus restarted (plateChanged (evaluate restarted))) := by
  intro restarted
  have act : takeRestart s = complete .done (restartPlates p s) := by rw [takeRestart, active, plan]
  have sched : restarted.sched = (restartPlates p s).sched := (refreshStatus_logFrame _ _).sched
  obtain ⟨active', plan'⟩ := restartPlates_active p s
  rw [exec_restart_of_ready ready, act, decideAfterRestart]
  exact congrArg _ (if_pos (by rw [sched, active', plan', active, plan]; rfl))

end

end Sys2Proof.Machine

open Sys2Proof Sys2Proof.Machine

/-- Settles O47: the request by what is pending; then RESTART, its plates, S and the flaw list, its tallies and its slots. -/
theorem cutRequestAndRestart : Obligations.CutRequestAndRestart := by
  unfold Obligations.CutRequestAndRestart
  refine ⟨fun s o ready => ⟨exec_cutRequest_of_pending ready, exec_cutRequest_of_inactive ready, exec_cutRequest_of_stored ready⟩,
    fun s o ready => ⟨exec_restart_of_inactive ready, fun p active plan => ?_⟩⟩
  intro r committed restarted
  have free {q : Plate} (h : q ∈ abandonedPlates s) : ¬ committed q :=
    mt (holdsRestart_iff s q).mpr (Bool.eq_false_iff.mp (abandonedPlates_free h))
  obtain ⟨_, _, _, act⟩ := replannedQueue_eq_with p s
  have sched := restartPlates_sched p s
  rw [act] at sched
  refine ⟨exec_restart_of_active ready active plan, keptQueue s, abandonedPlates s, (keptQueue_append s).symm, by rw [sched],
    fun q => free, fun q h => (holdsRestart_iff s q).mp (keptQueue_last h), by rw [sched], fun empty => ?_, fun q first => ?_,
    by rw [sched]; rfl, ?_⟩
  · rw [sched, empty]
    exact ⟨rfl, rfl, rfl⟩
  · rw [sched, resumedStart, first]
    exact ⟨rfl, rfl, rfl⟩
  intro x0 b
  have begun : b = resumedStart (abandonedPlates s) s := by
    simp only [b, resumedStart]
    cases abandonedPlates s <;> rfl
  refine ⟨replannedQueue p s, ?_, by rw [sched, act], fun table => ⟨replannedQueue_abandoned table, ?_, ?_⟩, fun apart => ?_⟩
  · rw [begun]
    exact restartPlates_eq p s
  · rw [begun]
    exact replannedQueue_stretch table
  · rw [begun]
    exact fun reached empty => replannedQueue_untallied empty reached
  · obtain ⟨other, own, -⟩ := abandonAll_withdrawn false apart
    have slots (j : Nat) : slotRec (replannedQueue p s) j = slotRec (abandonAll false (abandonedPlates s) s) j :=
      slotRec_congr (by rw [act]) j
    refine ⟨fun j hj => (slots j).trans (other j hj), fun q hq => (slots _).trans (own q hq), ?_⟩
    rw [act]
    exact abandonAll_arb false apart
end

section
/-! SUPPORT. The answers to the Ticket Unit's own writes (R127, R137, R138), the seal write and its bytes (R126, R190), and the miss
of a plate (R135). -/

namespace Sys2Proof.Machine

/-! ### Bytes laid out (R187, R190) -/

@[simp] theorem leBytes_length (n v : Nat) : (leBytes n v).length = n := by
  induction n generalizing v with
  | zero => rfl
  | succ n ih => rw [leBytes, List.length_cons, ih]

/-- A field wide enough for its value spells it. -/
theorem leNat_leBytes {n v : Nat} (h : v < 256 ^ n) : leNat (leBytes n v) = v := by
  induction n generalizing v with
  | zero =>
    rw [Nat.pow_zero] at h
    rw [leBytes, leNat]
    omega
  | succ n ih =>
    have high : v / 256 < 256 ^ n := Nat.div_lt_of_lt_mul (by rwa [← Nat.pow_succ'])
    rw [leBytes, leNat, ih high, BitVec.toNat_ofNat]
    omega

theorem leNat_zeros (n : Nat) : leNat (zeros n) = 0 := by
  induction n with
  | zero => rfl
  | succ n ih => simpa [zeros, leNat, List.replicate_succ] using ih

/-- The field that stands between two runs of bytes. -/
theorem fieldAt_of_parts {bytes pre field post : List Byte} (parts : bytes = pre ++ (field ++ post)) :
    fieldAt bytes pre.length field.length = leNat field := by
  simp [parts, fieldAt]

theorem ticketBytes_length (p : Plate) : (ticketBytes p).length = 64 := by simp [ticketBytes, zeros]

theorem ticketBytes_seq {p : Plate} (h : p.seq < 2 ^ 32) : fieldAt (ticketBytes p) 0 4 = p.seq :=
  (fieldAt_of_parts (pre := []) (field := leBytes 4 p.seq)
    (by simp only [ticketBytes, List.append_assoc, List.nil_append]; rfl)).trans (leNat_leBytes h)

theorem ticketBytes_num {p : Plate} (h : p.num < 2 ^ 32) : fieldAt (ticketBytes p) 4 4 = p.num :=
  (fieldAt_of_parts (pre := leBytes 4 p.seq) (field := leBytes 4 p.num)
    (by simp only [ticketBytes, List.append_assoc]; rfl)).trans (leNat_leBytes h)

/-- The status field of a ticket as it is sealed is zero (R126). -/
theorem ticketBytes_status (p : Plate) : fieldAt (ticketBytes p) 0x30 16 = 0 := by
  have field := fieldAt_of_parts (field := zeros 16) (post := []) (by rw [List.append_nil]; rfl : ticketBytes p = _)
  simpa [zeros, leNat] using field

/-! ### Plates and slots -/

theorem plateNumbered_num {s : State} {num : Nat} {p : Plate} (h : plateNumbered s num = some p) : p.num = num := by
  simpa using List.find?_some h

/-- The record of a slot is what its change starts from: two changes that agree on it are one. -/
theorem modSlot_congr {s : State} {j : Nat} {f g : SlotRec → SlotRec} (h : f (slotRec s j) = g (slotRec s j)) :
    modSlot j f s = modSlot j g s := by
  have tickets : s.tickets.modify j f = s.tickets.modify j g := by
    refine List.ext_getElem? fun i => ?_
    simp only [List.getElem?_modify]
    by_cases hij : j = i
    · subst hij
      cases hx : s.tickets[j]? with
      | none => rfl
      | some x =>
        have record : slotRec s j = x := by simp [slotRec, hx]
        simpa [record] using h
    · simp [hij]
  rw [modSlot, modSlot, tickets]

/-- A change that leaves the pending null rewrite of a slot alone. -/
theorem nullPending_modSlot {f : SlotRec → SlotRec} (hf : ∀ r, (f r).nullPending = r.nullPending) (s : State) (j : Nat) :
    (slotRec (modSlot j f s) j).nullPending = (slotRec s j).nullPending := by
  by_cases h : j < s.tickets.length
  · rw [slotRec_modSlot_self f h, hf]
  · rw [modSlot, List.modify_eq_self (Nat.le_of_not_lt h)]

/-! ### The seal write (R126) -/

/-- A DECIDED plate whose slot has no write in flight and none pending is sealed (R126). -/
theorem trySeal_of_free {s : State} {num : Nat} {p : Plate} (found : plateNumbered s num = some p) (decided : p.state = .decided)
    (noWrite : (slotRec s (slotOf s p.seq)).write = .none) (noPending : (slotRec s (slotOf s p.seq)).nullPending = none) :
    trySeal num s = issueOwn (.sealWrite (slotOf s p.seq) p.num p.seq p.fenced) (ticketAddr s (slotOf s p.seq))
      (.write (ticketBytes p)) (modPlate num (fun q => { q with state := .sealing })
        (modSlot (slotOf s p.seq) (fun r => { r with write := .sealing }) s)) := by
  simp [trySeal, found, decided, noWrite, noPending]

/-! ### Responses (R127, R137, R138) -/

theorem exec_sealWriteResponse (slot : Nat) (okay : Bool) (s : State) : exec (.sealWriteResponse slot okay) s =
    .next (refreshStatus s (ownTicketAnswered (Purpose.seals slot) okay s)) := rfl

theorem exec_nullWriteResponse (slot : Nat) (okay : Bool) (s : State) : exec (.nullWriteResponse slot okay) s =
    .next (refreshStatus s (ownTicketAnswered (Purpose.nulls slot) okay s)) := rfl

/-- The response to a write to a ticket slot that is awaited. -/
theorem ownTicketAnswered_of_awaited {s : State} {f : Purpose → Bool} {x : OwnTxn} {left : List OwnTxn}
    (h : Awaited s f x left) (okay : Bool) : ownTicketAnswered f okay s = ticketAnswered okay x (withOut left s) := by
  obtain ⟨pre, post, out, rfl, before, accepted, live⟩ := h
  have answer : answerOwn f s = some (x, withOut (pre ++ post) s) := by
    rw [answerOwn, out, takeFirst_of_first (p := fun t : OwnTxn => f t.purpose) post before accepted]
    rfl
  simp [ownTicketAnswered, answer, live]

/-- The response to the seal write of a plate that is still SEALING, no null rewrite being pending behind it (R127). -/
theorem sealAnswered_of_sealing {s : State} {slot num : Nat} {p : Plate} (noPending : (slotRec s slot).nullPending = none)
    (found : plateNumbered s num = some p) (sealing : p.state = .sealing) (okay : Bool) :
    sealAnswered slot num p.seq okay s =
      plateChanged (pumpSeals (sealPlate slot okay p (modSlot slot (fun r => { r with write := .none }) s))) := by
  have pending := nullPending_modSlot (f := fun r => { r with write := .none }) (fun _ => rfl) s slot
  have found' : plateNumbered (modSlot slot (fun r => { r with write := .none }) s) num = some p := found
  simp [sealAnswered, pending, noPending, found', sealing]

theorem sealPlate_before {s : State} {p : Plate} (h : s.enc.e < missPoint p) (slot : Nat) :
    sealPlate slot true p s = modPlate p.num (fun q => { q with state := .sealed }) s := by
  simp [sealPlate, Nat.not_le_of_lt h]

theorem sealPlate_missed {s : State} {p : Plate} (h : missPoint p ≤ s.enc.e) (slot : Nat) : sealPlate slot true p s =
    markMissed { p with state := .sealed } (modPlate p.num (fun q => { q with state := .sealed }) s) := by
  simp [sealPlate, h]

theorem sealPlate_failed (s : State) (p : Plate) (slot : Nat) : sealPlate slot false p s =
    issueEvent .sealFailed [p.num, p.seq, slot] (modPlate p.num (fun q => { q with state := .sealFailed }) s) := rfl

/-- The response to a null rewrite, no other being pending behind it: the slot has no write and is not noted (R137, R138). -/
theorem ticketAnswered_of_null {s : State} {x : OwnTxn} {slot seq : Nat} {noted fenced : Bool}
    (null : x.purpose = .nullWrite slot seq noted fenced) (noPending : (slotRec s slot).nullPending = none) (okay : Bool) :
    let s1 := modSlot slot (fun r => { r with write := .none, noted := false }) s
    let s2 := if okay then s1 else issueEvent .nullWriteFailed [slot, seq] s1
    ticketAnswered okay x s = examineIfChanged s2 (pumpSeals s2) := by
  intro s1 s2
  have freed : modSlot slot (fun r => { r with write := .none, noted := r.noted && r.nullPending.isSome }) s = s1 :=
    modSlot_congr (by simp [noPending])
  have tickets : s2.tickets = s1.tickets := by
    simp only [s2]
    split
    · rfl
    · exact (issueEvent_logFrame _ _ s1).tickets
  have pending : (slotRec s2 slot).nullPending = none := by
    rw [slotRec_congr tickets,
      nullPending_modSlot (f := fun r => { r with write := .none, noted := false }) (fun _ => rfl), noPending]
  simp only [s2] at pending ⊢
  simp only [ticketAnswered, null, freed, pending]

/-! ### Misses (R135) -/

theorem missDue_iff (s : State) (p : Plate) :
    missDue s p = true ↔ (p.state = .sealed ∨ p.state = .taken) ∧ missPoint p ≤ s.enc.e := by
  simp [missDue]

theorem exec_cutMissed (num : Nat) (s : State) : exec (.cutMissed num) s = .next (refreshStatus s (missPlate s num)) := rfl

theorem exec_cutMissed_of_due {s : State} {num : Nat} {p : Plate} (found : plateNumbered s num = some p)
    (due : missDue s p = true) : exec (.cutMissed num) s = .next (refreshStatus s (plateChanged (markMissed p s))) := by
  rw [exec_cutMissed, missPlate, found]
  simp [due]

theorem exec_cutMissed_of_not_due {s : State} {num : Nat} {p : Plate} (found : plateNumbered s num = some p)
    (early : missDue s p = false) : exec (.cutMissed num) s = .next s := by
  rw [exec_cutMissed, missPlate, found]
  simp [early, refreshStatus_of_eq]

end Sys2Proof.Machine

open Sys2Proof Sys2Proof.Machine

/-- Settles O28: the seal's response by its three outcomes, the null rewrite's by its two, and the seal that is due. -/
theorem sealAndNullResponses : Obligations.SealAndNullResponses := by
  unfold Obligations.SealAndNullResponses
  refine ⟨fun s slot num seq fenced x left p awaited purpose noPending found sealing hseq => ?_,
    fun s slot seq noted fenced x left awaited purpose noPending => ?_,
    fun s num p found decided noWrite noPending seqFits numFits => ?_⟩
  · intro s1 s2
    subst hseq
    obtain rfl := plateNumbered_num found
    have answered (okay : Bool) : exec (.sealWriteResponse slot okay) s =
        .next (refreshStatus s (plateChanged (pumpSeals (sealPlate slot okay p s1)))) := by
      rw [exec_sealWriteResponse, ownTicketAnswered_of_awaited awaited]
      simp only [ticketAnswered, purpose]
      rw [sealAnswered_of_sealing (s := withOut left s) noPending found sealing]
    refine ⟨fun early => ?_, fun late => ?_, ?_⟩
    · rw [answered, sealPlate_before (s := s1) early]
    · rw [answered, sealPlate_missed (s := s1) late]
      rfl
    · rw [answered, sealPlate_failed]
  · intro s1 sealed
    have answered (okay : Bool) : exec (.nullWriteResponse slot okay) s =
        .next (refreshStatus s (ticketAnswered okay x (withOut left s))) := by
      rw [exec_nullWriteResponse, ownTicketAnswered_of_awaited awaited]
    constructor
    · rw [answered, ticketAnswered_of_null (s := withOut left s) purpose noPending true]
      rfl
    · rw [answered, ticketAnswered_of_null (s := withOut left s) purpose noPending false]
      rfl
  · obtain rfl := plateNumbered_num found
    exact ⟨ticketBytes p, trySeal_of_free found decided noWrite noPending, ticketBytes_length p, ticketBytes_seq seqFits,
      ticketBytes_num numFits, ticketBytes_status p⟩

/-- Settles O32: the plate is missed when it is due, by its state before, and nothing changes when it is not. -/
theorem cutMissed : Obligations.CutMissed := by
  unfold Obligations.CutMissed
  intro s num p found
  have missed (state : p.state = .sealed ∨ p.state = .taken) (late : p.cut + p.distance + p.missWindow ≤ s.enc.e) :=
    exec_cutMissed_of_due found ((missDue_iff s p).mpr ⟨state, late⟩)
  refine ⟨fun state late => ?_, fun state late => ?_, fun early => exec_cutMissed_of_not_due found ?_⟩
  · rw [missed (.inl state) late, markMissed, state, plateNumbered_num found]
    rfl
  · rw [missed (.inr state) late, markMissed, state, plateNumbered_num found]
    rfl
  · refine Bool.eq_false_iff.mpr fun due => ?_
    obtain ⟨state, late⟩ := (missDue_iff s p).mp due
    rcases early with ⟨notSealed, notTaken⟩ | early
    · exact state.elim notSealed notTaken
    · exact Nat.not_le_of_lt early late
end

section
/-! SUPPORT. Writes that a guard refuses (R131, R175), and the cutter's status writes (R132 to R134). -/

namespace Sys2Proof.Machine

/-! ### The guards' tests -/

/-- Two ranges overlap where they have an address in common. -/
theorem overlaps_iff (a la b lb : Nat) :
    overlaps a la b lb = true ↔ ∃ x, a ≤ x ∧ x < a + la ∧ b ≤ x ∧ x < b + lb := by
  simp only [overlaps, Bool.and_eq_true, decide_eq_true_eq]
  constructor
  · exact fun h => ⟨max a b, by omega⟩
  · rintro ⟨x, h⟩
    omega

/-- A span touches a body byte at its first byte in the ring, or where it enters the next slot (R131). -/
theorem touchesBody_iff (s : State) (addr len : Nat) : touchesBody s addr len = true ↔
    ∃ a, addr ≤ a ∧ a < addr + len ∧ s.window.ticket.base ≤ a ∧
      a < s.window.ticket.base + 64 * s.window.ticket.count ∧ (a - s.window.ticket.base) % 64 < 48 := by
  unfold touchesBody ticketBytesTotal
  simp only [Bool.and_eq_true, Bool.or_eq_true, decide_eq_true_eq]
  generalize s.window.ticket.base = base
  generalize 64 * s.window.ticket.count = total
  constructor
  · rintro ⟨inside, body | crosses⟩
    · exact ⟨max addr base, by omega⟩
    · exact ⟨base + 64 * ((max addr base - base) / 64 + 1), by omega⟩
  · rintro ⟨a, h⟩
    omega

theorem bodyRefused_iff (s : State) (w : UpWrite) : bodyRefused s w = true ↔
    enabled s = true ∧ s.window.ticket.valid = true ∧ touchesBody s w.addr w.data.length = true := by
  simp only [bodyRefused, ticketsGuarded, Bool.and_eq_true, and_assoc]

theorem statusRefused_iff (s : State) (w : UpWrite) : statusRefused s w = true ↔ enabled s = true ∧
    ∃ a, w.addr ≤ a ∧ a < w.addr + w.data.length ∧ anchorBase s + 0x800 ≤ a ∧ a ≤ anchorBase s + 0x8FF := by
  simp only [statusRefused, Bool.and_eq_true, overlaps_iff, Nat.add_assoc, Nat.reduceAdd, Nat.lt_add_one_iff]

/-! ### A write refused -/

theorem exec_guardWrite (w : UpWrite) (s : State) : exec (.guardWrite w) s = .next (finish s (arriveWrite w s)) := rfl

theorem exec_statusBlockGuard (w : UpWrite) (s : State) :
    exec (.statusBlockGuard w) s = .next (finish s (arriveWrite w s)) := rfl

/-- The report of the guard that refuses a write (R131, R175). -/
theorem refuseWrite_of_one {s : State} {w : UpWrite} {k : EventKind}
    (one : (bodyRefused s w = true ∧ statusRefused s w = false ∧ k = .guardTicket) ∨
      (bodyRefused s w = false ∧ statusRefused s w = true ∧ k = .guardStatus)) :
    refuseWrite w s = { issueEvent k [w.addr, w.data.length, w.tag] s with answers := s.answers ++ [.write w.tag false] } := by
  have answers : (issueEvent k [w.addr, w.data.length, w.tag] s).answers = s.answers := (issueEvent_logFrame _ _ s).answers
  rcases one with ⟨body, status, rfl⟩ | ⟨body, status, rfl⟩ <;> simp [refuseWrite, body, status, answers]

/-- In a quiet state a write that one guard refuses is answered with an error and reported, and nothing else happens. -/
theorem finish_refused {s : State} {w : UpWrite} {k : EventKind} (hq : Quiet s)
    (one : (bodyRefused s w = true ∧ statusRefused s w = false ∧ k = .guardTicket) ∨
      (bodyRefused s w = false ∧ statusRefused s w = true ∧ k = .guardStatus)) :
    finish s (arriveWrite w s) = refreshStatus s
      { issueEvent k [w.addr, w.data.length, w.tag] s with answers := s.answers ++ [.write w.tag false] } := by
  have refused : (bodyRefused s w || statusRefused s w) = true := by
    rcases one with ⟨body, -, -⟩ | ⟨-, status, -⟩ <;> simp [*]
  have quiet : Quiet (issueEvent k [w.addr, w.data.length, w.tag] s) := (issueEvent_logFrame _ _ s).quiet hq
  obtain ⟨hh, -, ht⟩ := hq
  rw [arriveWrite_of_free hh ht, judgeWrite, if_pos refused, refuseWrite_of_one one, finish_of_quiet (by exact quiet)]

/-! ### A status write decoded (R132) -/

theorem exec_statusWrite (w : UpWrite) (s : State) : exec (.statusWrite w) s = .next (finish s (arriveWrite w s)) := rfl

/-- Sixteen strobed bytes with the cutter's tag in the status field of slot `j`, where no guard, stream or control field is
concerned (R132). -/
def CutterStatus (s : State) (w : UpWrite) (j : Nat) (bytes : List Byte) : Prop :=
  ticketsGuarded s = true ∧ w.tag = s.window.ticket.tag ∧ statusSlot s w.addr w.data.length = some j ∧
    statusRefused s w = false ∧ streamOf s w = none ∧
    (∀ f ∈ controlFields, strobedIn w (anchorBase s + f.1) f.2 = false) ∧ w.data = bytes.map some ∧ bytes.length = 16

/-- A span within a status field touches no body byte (R131, R132). -/
theorem touchesBody_of_statusSlot {s : State} {addr len j : Nat} (h : statusSlot s addr len = some j) :
    touchesBody s addr len = false := by
  simp only [statusSlot, Option.ite_none_right_eq_some] at h
  refine Bool.eq_false_iff.mpr fun touched => ?_
  obtain ⟨a, ha⟩ := (touchesBody_iff s addr len).mp touched
  omega

section
variable {s : State} {w : UpWrite} {j : Nat} {bytes : List Byte}

/-- A status write goes to the arbiter and is decoded. -/
theorem CutterStatus.arriveWrite (h : CutterStatus s w j bytes) (hq : Quiet s) :
    arriveWrite w s = decodeStatus j w (forwardPass (.write w []) s) := by
  obtain ⟨guarded, tag, slot, status, untracked, untouched, -, -⟩ := h
  have body : bodyRefused s w = false := by rw [bodyRefused, touchesBody_of_statusSlot slot, Bool.and_false]
  obtain ⟨hh, -, ht⟩ := hq
  rw [arriveWrite_of_free hh ht, judgeWrite, body, status]
  simp only [heldBy_of_untracked untracked]
  have passed : passWrite w true s = latchAnchor w (takeStatus w (forwardPass (.write w []) s)) := by
    unfold passWrite
    rw [untracked]
  have taken : takeStatus w (forwardPass (.write w []) s) = decodeStatus j w (forwardPass (.write w []) s) := by
    have guarded' : ticketsGuarded (forwardPass (.write w []) s) = true := guarded
    have slot' : statusSlot (forwardPass (.write w []) s) w.addr w.data.length = some j := slot
    simp [takeStatus, guarded', slot', tag]
  have straps := (takeStatus_plateFrame w (forwardPass (.write w []) s)).straps
  refine passed.trans ((latchAnchor_of_untouched ?_).trans taken)
  simpa only [anchorBase, straps, forwardPass_straps] using untouched

theorem decodeStatus_of_code (data : w.data = bytes.map some) (len : bytes.length = 16)
    (code : fieldAt bytes 0 1 = 1 ∨ fieldAt bytes 0 1 = 2) (j : Nat) (s : State) : decodeStatus j w s =
      confirmPlate j (fieldAt bytes 0 1) (fieldAt bytes 4 4) (fieldAt bytes 8 6) s := by
  simp [decodeStatus, data, len, code, Function.comp_def]

theorem decodeStatus_of_bad (data : w.data = bytes.map some) (len : bytes.length = 16)
    (notDone : fieldAt bytes 0 1 ≠ 1) (notSkipped : fieldAt bytes 0 1 ≠ 2) (j : Nat) (s : State) :
    decodeStatus j w s = issueEvent .statusBad [j, w.addr, 16] s := by
  simp [decodeStatus, data, len, notDone, notSkipped, Function.comp_def]

/-- A status write with a code of a cut or of a skip is matched against its slot's record (R133). -/
theorem CutterStatus.exec_of_code (h : CutterStatus s w j bytes) (hq : Quiet s)
    (code : fieldAt bytes 0 1 = 1 ∨ fieldAt bytes 0 1 = 2) : exec (.statusWrite w) s = .next (finish s
      (confirmPlate j (fieldAt bytes 0 1) (fieldAt bytes 4 4) (fieldAt bytes 8 6) (forwardPass (.write w []) s))) := by
  have arrived := h.arriveWrite hq
  obtain ⟨-, -, -, -, -, -, data, len⟩ := h
  rw [exec_statusWrite, arrived, decodeStatus_of_code data len code]

/-- An event that a status write is answered with leaves nothing further to be done. -/
theorem finish_event (hq : Quiet s) (k : EventKind) (fs : List Nat) (x : PassTxn) :
    finish s (issueEvent k fs (forwardPass x s)) = refreshStatus s (issueEvent k fs (forwardPass x s)) :=
  finish_of_quiet (((forwardPass_logFrame x s).trans (issueEvent_logFrame k fs _)).quiet hq)

theorem CutterStatus.exec_of_bad (h : CutterStatus s w j bytes) (hq : Quiet s) (notDone : fieldAt bytes 0 1 ≠ 1)
    (notSkipped : fieldAt bytes 0 1 ≠ 2) : exec (.statusWrite w) s =
      .next (refreshStatus s (issueEvent .statusBad [j, w.addr, 16] (forwardPass (.write w []) s))) := by
  have arrived := h.arriveWrite hq
  obtain ⟨-, -, -, -, -, -, data, len⟩ := h
  rw [exec_statusWrite, arrived, decodeStatus_of_bad data len notDone notSkipped, finish_event hq]

end

/-! ### The plate that a status write settles (R133, R134) -/

/-- A plate whose cut or skip is confirmed, late or not (R133). -/
def confirmed (late : Bool) (state : PlateState) (q : Plate) : Plate :=
  { q with state := state, lateConfirmed := q.lateConfirmed || late }

theorem confirmed_late (state : PlateState) : confirmed true state = fun q => { q with state := state, lateConfirmed := true } := by
  funext q
  rw [confirmed, Bool.or_true]

theorem confirmed_in_time (state : PlateState) : confirmed false state = fun q => { q with state := state } := by
  funext q
  rw [confirmed, Bool.or_false]

/-- Two changes of a plate that keeps its number are one. -/
theorem modPlate_modPlate {g : Plate → Plate} (keeps : ∀ q, (g q).num = q.num) (num : Nat) (f : Plate → Plate) (s : State) :
    modPlate num f (modPlate num g s) = modPlate num (fun q => f (g q)) s := by
  have each (q : Plate) : (if (if q.num = num then g q else q).num = num then f (if q.num = num then g q else q)
      else if q.num = num then g q else q) = if q.num = num then f (g q) else q := by
    by_cases h : q.num = num <;> simp [h, keeps]
  simp [modPlate, each]

theorem settlePlate_skipped (p : Plate) (measured : Nat) (s : State) : settlePlate p 2 measured s =
    plateChanged (modPlate p.num (confirmed (p.state == .missed) .skipped) s) := rfl

/-- A cut's position is compared with the cut point (R134). -/
theorem settlePlate_cut (p : Plate) (measured : Nat) (s : State) : settlePlate p 1 measured s =
    plateChanged (testDeviation p measured (modPlate p.num (confirmed (p.state == .missed) .cut) s)) := rfl

theorem settlePlate_within {p : Plate} {measured : Nat} (low : p.cut + p.distance ≤ measured + p.tolerance)
    (high : measured ≤ p.cut + p.distance + p.tolerance) (s : State) : settlePlate p 1 measured s =
      plateChanged (modPlate p.num (confirmed (p.state == .missed) .cut) s) := by
  have within : ¬ (cutPoint p + p.tolerance < measured ∨ measured + p.tolerance < cutPoint p) := by
    rw [cutPoint]
    omega
  rw [settlePlate_cut]
  exact congrArg plateChanged (if_neg within)

theorem settlePlate_beyond {p : Plate} {measured : Nat}
    (beyond : measured + p.tolerance < p.cut + p.distance ∨ p.cut + p.distance + p.tolerance < measured) (s : State) :
    settlePlate p 1 measured s = plateChanged (issueEvent .cutDeviation [p.num, p.cut, p.cut + p.distance, measured]
      (modPlate p.num (fun q => { confirmed (p.state == .missed) .cut q with deviation := true }) s)) := by
  have both := modPlate_modPlate (g := confirmed (p.state == .missed) .cut) (fun _ => rfl) p.num
    (fun q => { q with deviation := true }) s
  rw [settlePlate_cut, ← both]
  exact congrArg plateChanged (if_pos beyond.symm)

/-! ### Rows of R133 -/

section
variable {s : State} {p : Plate} {j code echo measured : Nat}

theorem confirmPlate_of_taker (found : occupant s j = some p) (same : echo = p.seq)
    (taker : p.state = .sealed ∨ p.state = .taken ∨ (p.state = .missed ∧ p.missAction = .keep)) :
    confirmPlate j code echo measured s = settlePlate p code measured s := by
  rcases taker with state | state | ⟨state, keep⟩ <;> simp [confirmPlate, *]

theorem confirmPlate_of_retiring (found : occupant s j = some p) (same : echo = p.seq) (state : p.state = .missed)
    (retire : p.missAction = .retire) :
    confirmPlate j code echo measured s = issueEvent .lateConfirm [1, echo, code, measured] s := by
  simp [confirmPlate, found, same, state, retire]

theorem confirmPlate_of_settled (found : occupant s j = some p) (same : echo = p.seq)
    (state : p.state = .cut ∨ p.state = .skipped) :
    confirmPlate j code echo measured s = issueEvent .lateConfirm [2, echo, code, measured] s := by
  rcases state with state | state <;> simp [confirmPlate, found, same, state]

theorem confirmPlate_of_sealFailed (found : occupant s j = some p) (same : echo = p.seq) (state : p.state = .sealFailed) :
    confirmPlate j code echo measured s = issueEvent .lateConfirm [3, echo, code, measured] s := by
  simp [confirmPlate, found, same, state]

/-- No plate takes the echo: the slot is empty, or its plate has another sequence or no ticket yet. -/
theorem confirmPlate_of_other
    (other : ∀ p, occupant s j = some p → echo ≠ p.seq ∨ p.state = .decided ∨ p.state = .sealing) :
    confirmPlate j code echo measured s = confirmOther j code echo measured s := by
  unfold confirmPlate
  cases found : occupant s j with
  | none => rfl
  | some p =>
    by_cases same : p.seq = echo
    · rcases other p found with differs | state | state
      · exact absurd same.symm differs
      · simp [same, state]
      · simp [same, state]
    · exact if_pos same

theorem confirmOther_of_retired (retired : (slotRec s j).retired = some echo) :
    confirmOther j code echo measured s = issueEvent .lateConfirm [4, echo, code, measured] s := if_pos retired

theorem confirmOther_of_unknown (unknown : (slotRec s j).retired ≠ some echo) :
    confirmOther j code echo measured s = issueEvent .confirmUnknown [j, echo, code] s := if_neg unknown

end

/-! ### The command by its row -/

section
variable {s : State} {w : UpWrite} {j : Nat} {bytes : List Byte}

/-- A row of R133 that answers with an event. -/
theorem CutterStatus.exec_of_event (h : CutterStatus s w j bytes) (hq : Quiet s)
    (code : fieldAt bytes 0 1 = 1 ∨ fieldAt bytes 0 1 = 2) {k : EventKind} {fs : List Nat}
    (row : confirmPlate j (fieldAt bytes 0 1) (fieldAt bytes 4 4) (fieldAt bytes 8 6) (forwardPass (.write w []) s) =
      issueEvent k fs (forwardPass (.write w []) s)) :
    exec (.statusWrite w) s = .next (refreshStatus s (issueEvent k fs (forwardPass (.write w []) s))) := by
  rw [h.exec_of_code hq code, row, finish_event hq]

/-- No plate takes the echo: it is the slot's retired sequence or unknown (R133, last two rows). -/
theorem CutterStatus.exec_of_other (h : CutterStatus s w j bytes) (hq : Quiet s)
    (code : fieldAt bytes 0 1 = 1 ∨ fieldAt bytes 0 1 = 2)
    (other : ∀ p, occupant s j = some p → fieldAt bytes 4 4 ≠ p.seq ∨ p.state = .decided ∨ p.state = .sealing) :
    ((slotRec s j).retired = some (fieldAt bytes 4 4) → exec (.statusWrite w) s = .next (refreshStatus s (issueEvent
      .lateConfirm [4, fieldAt bytes 4 4, fieldAt bytes 0 1, fieldAt bytes 8 6] (forwardPass (.write w []) s)))) ∧
    ((slotRec s j).retired ≠ some (fieldAt bytes 4 4) → exec (.statusWrite w) s = .next (refreshStatus s (issueEvent
      .confirmUnknown [j, fieldAt bytes 4 4, fieldAt bytes 0 1] (forwardPass (.write w []) s)))) := by
  have row := confirmPlate_of_other (s := forwardPass (.write w []) s) (code := fieldAt bytes 0 1)
    (measured := fieldAt bytes 8 6) other
  exact ⟨fun retired => h.exec_of_event hq code (row.trans (confirmOther_of_retired retired)),
    fun unknown => h.exec_of_event hq code (row.trans (confirmOther_of_unknown unknown))⟩

/-- A plate takes the echo: it is CUT, within the tolerance or beyond it, or SKIPPED (R133, R134). -/
theorem CutterStatus.exec_of_taker (h : CutterStatus s w j bytes) (hq : Quiet s) {p : Plate} (found : occupant s j = some p)
    (same : fieldAt bytes 4 4 = p.seq)
    (taker : p.state = .sealed ∨ p.state = .taken ∨ (p.state = .missed ∧ p.missAction = .keep)) {late : Bool}
    (missed : (p.state == .missed) = late) :
    let point := p.cut + p.distance
    let measured := fieldAt bytes 8 6
    let s1 := forwardPass (.write w []) s
    (fieldAt bytes 0 1 = 1 → point ≤ measured + p.tolerance → measured ≤ point + p.tolerance →
      exec (.statusWrite w) s = .next (finish s (plateChanged (modPlate p.num (confirmed late .cut) s1)))) ∧
    (fieldAt bytes 0 1 = 1 → measured + p.tolerance < point ∨ point + p.tolerance < measured →
      exec (.statusWrite w) s = .next (finish s (plateChanged (issueEvent .cutDeviation [p.num, p.cut, point, measured]
        (modPlate p.num (fun q => { confirmed late .cut q with deviation := true }) s1))))) ∧
    (fieldAt bytes 0 1 = 2 →
      exec (.statusWrite w) s = .next (finish s (plateChanged (modPlate p.num (confirmed late .skipped) s1)))) := by
  intro point measured s1
  have row (code : Nat) : confirmPlate j code (fieldAt bytes 4 4) measured s1 = settlePlate p code measured s1 :=
    confirmPlate_of_taker found same taker
  refine ⟨fun done low high => ?_, fun done beyond => ?_, fun skipped => ?_⟩
  · rw [h.exec_of_code hq (.inl done), row, done, settlePlate_within low high, missed]
  · rw [h.exec_of_code hq (.inl done), row, done, settlePlate_beyond beyond, missed]
  · rw [h.exec_of_code hq (.inr skipped), row, skipped, settlePlate_skipped, missed]

end

end Sys2Proof.Machine

open Sys2Proof Sys2Proof.Machine

/-- Settles O30: the refusal by each guard, and the guards' tests. -/
theorem guardedWrites : Obligations.GuardedWrites := by
  unfold Obligations.GuardedWrites
  refine ⟨fun s w hq body status => ?_, fun s w hq body status => ?_, bodyRefused_iff, touchesBody_iff, statusRefused_iff⟩
  · rw [exec_guardWrite, finish_refused hq (.inl ⟨body, status, rfl⟩)]
  · rw [exec_statusBlockGuard, finish_refused hq (.inr ⟨body, status, rfl⟩)]

/-- Settles O31: the rows of R133 for the plate in the slot, then those for an echo that no plate takes, then a bad code. -/
theorem statusWrite : Obligations.StatusWrite := by
  unfold Obligations.StatusWrite
  intro s w j bytes hq guarded tag slot status untracked untouched data len code echo measured s1
  have h : CutterStatus s w j bytes := ⟨guarded, tag, slot, status, untracked, untouched, data, len⟩
  refine ⟨fun p found same state => ?_, fun p found same state keep => ?_, fun p found same known => ?_,
    fun p found other known => ?_, fun empty known => ?_, fun empty known => ?_, h.exec_of_bad hq⟩
  · have inTime : (p.state == .missed) = false := by rcases state with state | state <;> rw [state] <;> rfl
    simpa only [confirmed_in_time] using h.exec_of_taker hq found same (state.imp_right .inl) inTime
  · have late : (p.state == .missed) = true := beq_iff_eq.mpr state
    simpa only [confirmed_late] using h.exec_of_taker hq found same (.inr (.inr ⟨state, keep⟩)) late
  · exact ⟨fun state retire => h.exec_of_event hq known (confirmPlate_of_retiring (s := s1) found same state retire),
      fun state => h.exec_of_event hq known (confirmPlate_of_settled (s := s1) found same state),
      fun state => h.exec_of_event hq known (confirmPlate_of_sealFailed (s := s1) found same state)⟩
  · refine h.exec_of_other hq known fun q hq => ?_
    obtain rfl := Option.some.inj (found.symm.trans hq)
    exact other
  · exact (h.exec_of_other hq known fun q hq => nomatch empty.symm.trans hq).2
  · exact (h.exec_of_other hq known fun q hq => nomatch empty.symm.trans hq).1
end

section
/-! SUPPORT. The cutter's reads (R128, R129): the plate in a slot, a read's portions slot by slot, and what is made of them. -/

namespace Sys2Proof.Machine

/-! ### The plate in a slot (R125) -/

theorem occupant_iff (s : State) (j : Nat) (p : Plate) : occupant s j = some p ↔
    (∃ x, s.tickets[j]? = some x ∧ x.occupant = some p.num) ∧
      ∃ pre post, s.sched.queue = pre ++ p :: post ∧ ∀ q ∈ pre, q.num ≠ p.num := by
  have first (num : Nat) : plateNumbered s num = some p ↔
      p.num = num ∧ ∃ pre post, s.sched.queue = pre ++ p :: post ∧ ∀ q ∈ pre, q.num ≠ num := by
    simp [plateNumbered, List.find?_eq_some_iff_append]
  unfold occupant slotRec
  rw [List.getD_eq_getElem?_getD]
  cases s.tickets[j]? with
  | none => simp [SlotRec.blank]
  | some x =>
    cases hx : x.occupant with
    | none => simp [hx]
    | some num =>
      simp only [Option.getD_some, hx, first, Option.some.injEq, exists_eq_left']
      constructor
      · rintro ⟨rfl, queue⟩
        exact ⟨rfl, queue⟩
      · rintro ⟨rfl, queue⟩
        exact ⟨rfl, queue⟩

theorem slotOffered_iff (s : State) (j : Nat) :
    offered s j = true ↔ ∃ p, occupant s j = some p ∧ (p.state = .sealed ∨ p.state = .taken) := by
  unfold offered
  cases occupant s j <;> simp

/-! ### The portions of a read (R128) -/

/-- The portion of a read in slot `j`, of a guarded ring or of a ring while the part is disabled. -/
def judgedPortion (s : State) (r : UpRead) (j : Nat) : ReadPortion :=
  let addr := s.window.ticket.base + 64 * j
  let first := max r.addr addr
  let stop := min (r.addr + r.len) (addr + 64)
  { slot := j, offset := first - r.addr, len := stop - first, sealWhole := decide (first = addr ∧ addr + 4 ≤ stop)
    fromMemory := decide (addr + 48 ≤ first) || (if enabled s then offered s j else !(slotRec s j).noted) }

theorem readPortion_eq {s : State} (valid : enabled s = true → s.window.ticket.valid = true) (r : UpRead) (j : Nat) :
    readPortion s r j = if min (r.addr + r.len) (ticketAddr s j + 64) ≤ max r.addr (ticketAddr s j) then none
      else some (judgedPortion s r j) := by
  have judged : (!slotJudged s j || (enabled s && offered s j)) =
      if enabled s then offered s j else !(slotRec s j).noted := by
    cases on : enabled s with
    | false => simp [slotJudged, ticketsGuarded, on]
    | true => simp [slotJudged, ticketsGuarded, on, valid on]
  have body (first addr : Nat) : decide (addr + 48 ≤ first) = !decide (first < addr + 48) := by simp [← decide_not]
  simp only [judgedPortion, ← judged, body, ← Bool.or_assoc, Bool.decide_and]
  rfl

theorem readPortion_eq_some_iff {s : State} (valid : enabled s = true → s.window.ticket.valid = true) (r : UpRead) (j : Nat)
    (q : ReadPortion) : readPortion s r j = some q ↔
      max r.addr (ticketAddr s j) < min (r.addr + r.len) (ticketAddr s j + 64) ∧ q = judgedPortion s r j := by
  rw [readPortion_eq valid, Option.ite_none_left_eq_some, Nat.not_le, Option.some.injEq, eq_comm (a := q)]

theorem mem_readPortions (s : State) (r : UpRead) (q : ReadPortion) :
    q ∈ readPortions s r ↔ ∃ j < s.tickets.length, readPortion s r j = some q := by
  simp [readPortions, List.mem_filterMap]

theorem readPortion_slot {s : State} {r : UpRead} {j : Nat} {q : ReadPortion} (h : readPortion s r j = some q) : q.slot = j := by
  unfold readPortion at h
  dsimp only at h
  split at h
  · cases h
  · cases h
    rfl

/-- The portions stand in the order of their slots. -/
theorem readPortions_ordered (s : State) (r : UpRead) : ((readPortions s r).map (·.slot)).Pairwise (· < ·) := by
  rw [List.pairwise_map]
  refine List.Pairwise.filterMap (R := (· < ·)) _ (fun i j hij q hq q' hq' => ?_) List.pairwise_lt_range
  rw [readPortion_slot hq, readPortion_slot hq']
  exact hij

theorem readPortions_nodup (s : State) (r : UpRead) : (readPortions s r).Nodup :=
  .of_map _ ((readPortions_ordered s r).imp Nat.ne_of_lt)

/-- A read of one whole slot of the enabled part's ring has one portion. -/
theorem readPortions_of_slot {s : State} {r : UpRead} {j : Nat} (on : enabled s = true) (valid : s.window.ticket.valid = true)
    (inRing : j < s.tickets.length) (addr : r.addr = s.window.ticket.base + 64 * j) (len : r.len = 64) :
    readPortions s r = [{ slot := j, offset := 0, len := 64, fromMemory := offered s j, sealWhole := true }] := by
  have touched (i : Nat) :
      max r.addr (ticketAddr s i) < min (r.addr + r.len) (ticketAddr s i + 64) ↔ i = j := by
    rw [ticketAddr]
    omega
  have portion : judgedPortion s r j = { slot := j, offset := 0, len := 64, fromMemory := offered s j, sealWhole := true } := by
    simp [judgedPortion, addr, len, on]
  have only (q : ReadPortion) : q ∈ readPortions s r ↔ q ∈ [judgedPortion s r j] := by
    simp only [mem_readPortions, readPortion_eq_some_iff (fun _ => valid), touched, List.mem_singleton]
    constructor
    · rintro ⟨i, -, rfl, hq⟩
      exact hq
    · exact fun hq => ⟨j, inRing, rfl, hq⟩
  rw [← portion, ← List.perm_singleton]
  exact (List.perm_ext_iff_of_nodup (readPortions_nodup s r) (List.nodup_singleton _)).mpr only

/-! ### What is made of a read (R128, R129) -/

theorem exec_ticketRead (r : UpRead) (s : State) : exec (.ticketRead r) s = .next (refreshStatus s (takeRead r s)) := rfl

/-- The null portions of a read. -/
def nullPortions (s : State) (r : UpRead) : List ReadPortion := (readPortions s r).filter (fun q => !q.fromMemory)

/-- A read of null portions alone that lies in the ring (R128). -/
theorem answeredLocally_iff (s : State) (r : UpRead) : answeredLocally s r (readPortions s r) = true ↔
    readPortions s r ≠ [] ∧ nullPortions s r = readPortions s r ∧ s.window.ticket.base ≤ r.addr ∧
      r.addr + r.len ≤ s.window.ticket.base + 64 * s.window.ticket.count := by
  unfold answeredLocally ticketBytesTotal
  simp [nullPortions, List.filter_eq_self, and_assoc]

/-- The part's own answer to a read (R128). -/
def answeredZero (r : UpRead) (s : State) : State := { s with answers := s.answers ++ [.read r.tag true (List.replicate r.len 0)] }

/-- A read is forwarded with the ranges to be replaced (R128). -/
def forwardedRead (nulls : List ReadPortion) (r : UpRead) : State → State :=
  forwardPass (.read r (nulls.map (fun q => (q.offset, q.len))))

/-- A cutter's read with a null portion counts as one null ticket served (R128). -/
def nullCounted (nulls : List ReadPortion) (s : State) : State := if nulls = [] then s else tallyAdd .nullServed 1 s

@[simp] theorem statusFields_nullCounted (nulls : List ReadPortion) (s : State) :
    statusFields (nullCounted nulls s) = statusFields s := by
  unfold nullCounted
  split
  · rfl
  · exact statusFields_tallyAdd _ _ s

/-- Nothing is taken of a portion unless the enabled part reads the whole seal word of a SEALED plate from memory (R129). -/
theorem takeTicket_of_unfit {s : State} {q : ReadPortion}
    (h : enabled s = false ∨ q.fromMemory = false ∨ q.sealWhole = false ∨ (∀ p, occupant s q.slot = some p → p.state ≠ .sealed)) :
    takeTicket q s = s := by
  unfold takeTicket
  split
  · rename_i p found
    refine if_neg fun fit => ?_
    simp only [Bool.and_eq_true, beq_iff_eq] at fit
    obtain ⟨⟨⟨memory, whole⟩, on⟩, isSealed⟩ := fit
    rcases h with off | null | part | other
    · rw [on] at off
      cases off
    · rw [memory] at null
      cases null
    · rw [whole] at part
      cases part
    · exact other p found isSealed
  · rfl

theorem takeTicket_of_sealed {s : State} {q : ReadPortion} {p : Plate} (on : enabled s = true) (memory : q.fromMemory = true)
    (whole : q.sealWhole = true) (found : occupant s q.slot = some p) (isSealed : p.state = .sealed) :
    takeTicket q s = plateChanged (modPlate p.num (fun x => { x with state := .taken }) s) := by
  simp [takeTicket, on, memory, whole, found, isSealed]

/-- Null portions take nothing. -/
theorem foldl_takeTicket_of_null {qs : List ReadPortion} (null : ∀ q ∈ qs, q.fromMemory = false) (s : State) :
    qs.foldl (fun t q => takeTicket q t) s = s := by
  induction qs with
  | nil => rfl
  | cons q qs ih =>
    obtain ⟨first, rest⟩ := List.forall_mem_cons.mp null
    rw [List.foldl_cons, takeTicket_of_unfit (.inr (.inl first)), ih rest]

/-- Another reader's read takes no plate and counts no ticket. -/
theorem takeRead_of_other {s : State} {r : UpRead} (other : r.tag ≠ s.window.ticket.tag) : takeRead r s =
    if answeredLocally s r (readPortions s r) then answeredZero r s else forwardedRead (nullPortions s r) r s := by
  simp [takeRead, other, answeredZero, forwardedRead, nullPortions, zeros]

/-- The cutter's read counts a null ticket if it has a null portion, and takes the plates of its portions in turn. -/
theorem takeRead_of_cutter {s : State} {r : UpRead} (cutter : r.tag = s.window.ticket.tag) :
    let taken := (readPortions s r).foldl (fun t q => takeTicket q t) (nullCounted (nullPortions s r) s)
    takeRead r s = if answeredLocally s r (readPortions s r) then answeredZero r taken
      else forwardedRead (nullPortions s r) r taken := by
  have any : (readPortions s r).any (fun q => !q.fromMemory) = true ↔ nullPortions s r ≠ [] := by
    rw [nullPortions, Ne, List.filter_eq_nil_iff, List.any_eq_true]
    push Not
    rfl
  have counted : (if (readPortions s r).any (fun q => !q.fromMemory) = true then tallyAdd .nullServed 1 s else s) =
      nullCounted (nullPortions s r) s := (if_congr any rfl rfl).trans (ite_not ..)
  rw [← counted]
  simp [takeRead, cutter, answeredZero, forwardedRead, nullPortions, zeros]

/-- A read of null portions alone is answered by the part, and no status field changes. -/
theorem exec_ticketRead_answered {s : State} {r : UpRead} (zero : answeredLocally s r (readPortions s r) = true)
    (null : nullPortions s r = readPortions s r) : exec (.ticketRead r) s = .next (answeredZero r
      (if r.tag = s.window.ticket.tag then nullCounted (nullPortions s r) s else s)) := by
  have untaken (t : State) : (readPortions s r).foldl (fun t q => takeTicket q t) t = t :=
    foldl_takeTicket_of_null (fun q hq => by simpa using List.filter_eq_self.mp null q hq) t
  by_cases cutter : r.tag = s.window.ticket.tag
  · rw [exec_ticketRead, takeRead_of_cutter cutter, if_pos zero, untaken, if_pos cutter]
    exact congrArg _ (refreshStatus_of_eq (statusFields_nullCounted _ s))
  · rw [exec_ticketRead, takeRead_of_other cutter, if_pos zero, if_neg cutter]
    exact congrArg _ (refreshStatus_of_eq rfl)

/-- Any other read is forwarded. -/
theorem exec_ticketRead_forwarded {s : State} {r : UpRead} (memory : ¬ answeredLocally s r (readPortions s r) = true) :
    (r.tag ≠ s.window.ticket.tag → exec (.ticketRead r) s = .next (forwardedRead (nullPortions s r) r s)) ∧
    (r.tag = s.window.ticket.tag → exec (.ticketRead r) s = .next (refreshStatus s (forwardedRead (nullPortions s r) r
      ((readPortions s r).foldl (fun t q => takeTicket q t) (nullCounted (nullPortions s r) s))))) := by
  refine ⟨fun other => ?_, fun cutter => ?_⟩
  · rw [exec_ticketRead, takeRead_of_other other, if_neg memory]
    exact congrArg _ (refreshStatus_of_eq rfl)
  · rw [exec_ticketRead, takeRead_of_cutter cutter, if_neg memory]

/-! ### A whole slot read by the cutter -/

section
variable {s : State} {r : UpRead} {j : Nat} (on : enabled s = true) (valid : s.window.ticket.valid = true)
  (ring : s.tickets.length = s.window.ticket.count) (inRing : j < s.tickets.length) (tag : r.tag = s.window.ticket.tag)
  (addr : r.addr = s.window.ticket.base + 64 * j) (len : r.len = 64)

include on valid inRing tag addr len in
theorem exec_ticketRead_of_offered {p : Plate} (found : occupant s j = some p) (state : p.state = .sealed ∨ p.state = .taken) :
    exec (.ticketRead r) s = .next (refreshStatus s (forwardPass (.read r []) (takeTicket
      { slot := j, offset := 0, len := 64, fromMemory := true, sealWhole := true } s))) := by
  have portions := readPortions_of_slot on valid inRing addr len
  rw [(slotOffered_iff s j).mpr ⟨p, found, state⟩] at portions
  have nulls : nullPortions s r = [] := by rw [nullPortions, portions]; rfl
  have memory : ¬ answeredLocally s r (readPortions s r) = true := by
    rw [answeredLocally_iff, nulls, portions]
    rintro ⟨-, none, -⟩
    cases none
  rw [(exec_ticketRead_forwarded memory).2 tag, nulls, portions]
  rfl

include on valid ring inRing tag addr len in
theorem exec_ticketRead_of_unoffered (vacant : offered s j = false) : exec (.ticketRead r) s = .next
    { tallyAdd .nullServed 1 s with answers := s.answers ++ [.read r.tag true (List.replicate 64 0)] } := by
  have portions := readPortions_of_slot on valid inRing addr len
  rw [vacant] at portions
  have nulls : nullPortions s r = readPortions s r := by rw [nullPortions, portions]; rfl
  have zero : answeredLocally s r (readPortions s r) = true := by
    rw [answeredLocally_iff]
    refine ⟨by rw [portions]; exact List.cons_ne_nil _ _, nulls, ?_⟩
    omega
  rw [exec_ticketRead_answered zero nulls, if_pos tag, nulls, portions, answeredZero, len]
  rfl

end

end Sys2Proof.Machine

open Sys2Proof Sys2Proof.Machine

/-- Settles O29: a whole slot by the plate in it, the slots' plates, the portions of any read, and what is made of them. -/
theorem ticketRead : Obligations.TicketRead := by
  unfold Obligations.TicketRead
  refine ⟨fun s r j on valid ring inRing tag addr len => ⟨fun p found isSealed => ?_, fun p found isTaken => ?_,
      exec_ticketRead_of_unoffered on valid ring inRing tag addr len⟩,
    fun s j => ⟨slotOffered_iff s j, occupant_iff s j⟩, fun s r valid => ⟨fun q => ?_, readPortions_ordered s r⟩,
    fun s r => ?_⟩
  · rw [exec_ticketRead_of_offered on valid inRing tag addr len found (.inl isSealed),
      takeTicket_of_sealed on rfl rfl found isSealed]
  · have untaken : takeTicket { slot := j, offset := 0, len := 64, fromMemory := true, sealWhole := true } s = s := by
      refine takeTicket_of_unfit (.inr (.inr (.inr fun q hq => ?_)))
      obtain rfl := Option.some.inj (found.symm.trans hq)
      rw [isTaken]
      decide
    rw [exec_ticketRead_of_offered on valid inRing tag addr len found (.inr isTaken), untaken]
    exact congrArg _ (refreshStatus_of_eq rfl)
  · rw [mem_readPortions]
    exact exists_congr fun j => and_congr_right fun _ => readPortion_eq_some_iff valid r j q
  · intro qs nulls zero counted answered forwarded
    have answered_iff : answeredLocally s r qs = true ↔ zero := answeredLocally_iff s r
    have zeros_answered (h : zero) := exec_ticketRead_answered (answered_iff.mpr h) h.2.1
    have others_forwarded (h : ¬ zero) := exec_ticketRead_forwarded (mt answered_iff.mp h)
    refine ⟨fun other => ⟨fun h => ?_, fun h => (others_forwarded h).1 other⟩,
      fun cutter => ⟨fun h => ?_, fun h => (others_forwarded h).2 cutter⟩,
      fun t q => ⟨takeTicket_of_unfit, fun p on memory whole found isSealed =>
        takeTicket_of_sealed on memory whole found isSealed⟩⟩
    · rw [zeros_answered h, if_neg other]
      rfl
    · rw [zeros_answered h, if_pos cutter]
      rfl
end

section
/-! SUPPORT. The Grader: the points grade (R149), a flaw's weight, zone and kill marks (R145, R146), when a plate becomes FINAL
(R147, R148), its grade (R150), and the areas of pieces (R151). -/

namespace Sys2Proof.Machine

/-! ### The points grade (R149) -/

theorem pointsGrade_eq (g : GradeTable) (p : Piece) : pointsGrade g p =
    if p.points ≤ g.prime ∧ p.kill1 = false then 1 else if p.points ≤ g.standard ∧ p.kill2 = false then 2
    else if p.points ≤ g.second ∧ p.kill3 = false then 3 else 4 := by
  simp [pointsGrade]

/-- The four grades, each by what the better ones refuse. -/
theorem pointsGrade_iff (g : GradeTable) (p : Piece) :
    (pointsGrade g p = 1 ↔ p.points ≤ g.prime ∧ p.kill1 = false) ∧
    (pointsGrade g p = 2 ↔ ¬ (p.points ≤ g.prime ∧ p.kill1 = false) ∧ p.points ≤ g.standard ∧ p.kill2 = false) ∧
    (pointsGrade g p = 3 ↔ ¬ (p.points ≤ g.prime ∧ p.kill1 = false) ∧ ¬ (p.points ≤ g.standard ∧ p.kill2 = false) ∧
      p.points ≤ g.second ∧ p.kill3 = false) ∧
    (pointsGrade g p = 4 ↔ ¬ (p.points ≤ g.prime ∧ p.kill1 = false) ∧ ¬ (p.points ≤ g.standard ∧ p.kill2 = false) ∧
      ¬ (p.points ≤ g.second ∧ p.kill3 = false)) := by
  rw [pointsGrade_eq]
  by_cases prime : p.points ≤ g.prime ∧ p.kill1 = false
  · simp [prime]
  by_cases standard : p.points ≤ g.standard ∧ p.kill2 = false
  · simp [prime, standard]
  by_cases second : p.points ≤ g.second ∧ p.kill3 = false
  · simp [prime, standard, second]
  · simp [prime, standard, second]

theorem pointsGrade_of_killed (g : GradeTable) {p : Piece} (k1 : p.kill1 = true) (k2 : p.kill2 = true)
    (k3 : p.kill3 = true) : pointsGrade g p = 4 := by
  simp [pointsGrade_eq, k1, k2, k3]

theorem pointsGrade_of_above {g : GradeTable} {p : Piece} (prime : g.prime < g.standard) (standard : g.standard < g.second)
    (above : g.second < p.points) : pointsGrade g p = 4 := by
  obtain ⟨-, -, -, four⟩ := pointsGrade_iff g p
  rw [four]
  omega

/-! ### A flaw applied (R145, R146) -/

theorem killMark_eq (g : GradeTable) (f : Offer) (k : ClassGrade → Bool) :
    killMark g f k = (decide (f.source = .dense) || (decide (f.source = .blob) && k (classGrade g f.cls))) := by
  unfold killMark
  cases f.source <;> simp

/-- The zone is EDGE within the band of a lane boundary or of a cut. -/
theorem inEdgeBand_iff (g : GradeTable) (start cut : Nat) (q : Piece) (f : Offer) : inEdgeBand g start cut q f = true ↔
    min f.c1 (pieceLast q) < pieceFirst q + g.bandColumns ∨ pieceLast q < max f.c0 (pieceFirst q) + g.bandColumns ∨
      min f.y1 (cut - 1) < start + g.bandLines ∨ cut ≤ max f.y0 start + g.bandLines := by
  simp only [inEdgeBand, Bool.or_eq_true, decide_eq_true_eq, or_assoc]

theorem touches_iff (start cut : Nat) (q : Piece) (f : Offer) : touches start cut q f = true ↔
    max f.c0 (pieceFirst q) ≤ min f.c1 (pieceLast q) ∧ max f.y0 start ≤ min f.y1 (cut - 1) := by
  rw [touches, Bool.and_eq_true, decide_eq_true_eq, decide_eq_true_eq]

theorem applyToPiece_of_untouched {start cut : Nat} {f : Offer} {q : Piece} (h : touches start cut q f = false)
    (g : GradeTable) : applyToPiece g start cut f q = q :=
  if_neg (Bool.eq_false_iff.mp h)

theorem applyToPiece_of_touched {start cut : Nat} {f : Offer} {q : Piece} (h : touches start cut q f = true)
    (g : GradeTable) : applyToPiece g start cut f q = { q with
      points := min (q.points + weight g f (inEdgeBand g start cut q f)) 65535
      kill1 := q.kill1 || killMark g f (·.kill1), kill2 := q.kill2 || killMark g f (·.kill2)
      kill3 := q.kill3 || killMark g f (·.kill3), flaws := min (q.flaws + 1) 255
      uncovered := q.uncovered || f.source == .gap } :=
  if_pos h

/-- A dense zone leaves a piece it touches with every kill mark (R146), and so with G4. -/
theorem pointsGrade_applied_dense (g : GradeTable) {start cut : Nat} {f : Offer} {q : Piece} (dense : f.source = .dense)
    (h : touches start cut q f = true) : pointsGrade g (applyToPiece g start cut f q) = 4 := by
  rw [applyToPiece_of_touched h]
  apply pointsGrade_of_killed <;> simp [killMark_eq, dense]

theorem applyToPlate_of_final {p : Plate} (h : p.final = true) (g : GradeTable) (f : Offer) : applyToPlate g f p = p :=
  if_pos h

theorem applyToPlate_of_open {p : Plate} (h : p.final = false) (g : GradeTable) (f : Offer) :
    applyToPlate g f p = { p with pieces := p.pieces.map (applyToPiece g p.start p.cut f) } :=
  if_neg (Bool.eq_false_iff.mp h)

/-! ### Finality (R147, R148, R150) -/

/-- The open state is asked as a decision that needs the lines up to the cut asks it (R79, R107). -/
theorem inspectionClosed_iff (s : State) (p : Plate) : inspectionClosed s p = true ↔ p.cut + 8 ≤ s.asm.a ∧
    (∀ b, .opened b ∈ s.blobs.table → p.cut ≤ b.y0) ∧ ∀ d, s.blobs.dense = some d → p.cut ≤ d.y0 := by
  rw [inspectionClosed, Bool.and_eq_true, decide_eq_true_eq]
  refine and_congr_right fun passed => ?_
  have reached : p.cut ≤ s.asm.a := by omega
  have asked := mayDecide_iff { cut := p.cut, kind := .nominal, needed := p.cut } s
  simpa only [mayDecide, Bool.and_eq_true, decide_eq_true_eq, reached, true_and] using asked

theorem settled_iff (p : Plate) : settled p = true ↔
    p.state = .cut ∨ p.state = .skipped ∨ p.state = .sealFailed ∨ (p.state = .missed ∧ p.missAction = .retire) := by
  unfold settled
  cases p.state <;> simp

theorem finalGrade_eq (g : GradeTable) (p : Plate) (q : Piece) : finalGrade g p q =
    if g.loaded = false ∨ p.kind = .cullet ∨ p.state = .skipped then 4
    else if q.uncovered = true then max (pointsGrade g q) g.cap else pointsGrade g q := by
  simp [finalGrade, or_assoc]

/-- The Grader's test of one plate. -/
def testPlate (s : State) (p : Plate) : Plate :=
  if !p.final && inspectionClosed s p && settled p then finalise s.grades p else p

theorem gradeTest_queue (s : State) : (gradeTest s).sched.queue = s.sched.queue.map (testPlate s) := rfl

theorem testPlate_of_closed {s : State} {p : Plate} (fresh : p.final = false) (closed : inspectionClosed s p = true)
    (cut : settled p = true) : testPlate s p = finalise s.grades p :=
  if_pos (by rw [fresh, closed, cut]; rfl)

theorem testPlate_of_waiting {s : State} {p : Plate}
    (h : p.final = true ∨ ¬ inspectionClosed s p = true ∨ ¬ settled p = true) : testPlate s p = p := by
  refine if_neg fun due => ?_
  simp only [Bool.and_eq_true, Bool.not_eq_true'] at due
  obtain ⟨⟨fresh, closed⟩, cut⟩ := due
  rcases h with final | opened | unsettled
  · exact absurd final (Bool.eq_false_iff.mp fresh)
  · exact opened closed
  · exact unsettled cut

/-! ### Areas (R151) -/

theorem exists_lane_of_mem_newPieces {lanes : List LaneEntry} {start cut : Nat} {q : Piece} (h : q ∈ newPieces lanes start cut) :
    ∃ l ∈ lanes, l.kind = .sale ∧ q.label = l.label ∧ q.area = 256 * l.count * (cut - start) := by
  obtain ⟨l, mem, rfl⟩ := List.mem_map.mp h
  obtain ⟨lane, sale⟩ := List.mem_filter.mp mem
  exact ⟨l, lane, beq_iff_eq.mp sale, rfl, rfl⟩

/-- A piece of 64 groups on the longest plate has 1,073,725,440 cells. -/
theorem area_le {count length : Nat} (groups : count ≤ 64) (lines : length ≤ 65535) :
    256 * count * length ≤ 1073725440 :=
  Nat.mul_le_mul (Nat.mul_le_mul_left 256 groups) lines

/-- A flaw changes a piece's account alone (R146). -/
theorem applyToPiece_area (g : GradeTable) (start cut : Nat) (f : Offer) (q : Piece) :
    (applyToPiece g start cut f q).area = q.area := by
  unfold applyToPiece
  split <;> rfl

theorem finalise_areas (g : GradeTable) (p : Plate) : (finalise g p).pieces.map (·.area) = p.pieces.map (·.area) :=
  List.map_map

theorem pieceLane_of_edge {l : LaneEntry} (h : l.kind = .edge) (p : Plate) :
    (pieceLane p l).area = 256 * l.count * (p.cut - p.start) ∧ (pieceLane p l).grade = 0 := by
  unfold pieceLane
  rw [h]
  exact ⟨rfl, rfl⟩

end Sys2Proof.Machine

open Sys2Proof Sys2Proof.Machine

/-- Settles O26: the points grade, then a flaw at a plate and at one piece by whether it touches it, then the Grader's test
plate by plate. -/
theorem pointsGrade : Obligations.PointsGrade := by
  unfold Obligations.PointsGrade
  refine ⟨fun g p => ?_, fun g f p => ⟨fun h => applyToPlate_of_final h g f, fun h => applyToPlate_of_open h g f⟩,
    fun g start cut f q => ?_, fun s => ⟨rfl, ?_, fun i p here => ?_⟩⟩
  · obtain ⟨one, two, three, four⟩ := pointsGrade_iff g p
    exact ⟨one, two, three, four, pointsGrade_of_killed g, pointsGrade_of_above,
      fun _ _ _ dense => pointsGrade_applied_dense g dense⟩
  · intro first last c0 c1 y0 y1 edge blob dense k
    refine ⟨fun apart => ?_, fun columns lines => ?_⟩
    · have untouched : touches start cut q f = false :=
        Bool.eq_false_iff.mpr fun h => by
          obtain ⟨columns, lines⟩ := (touches_iff start cut q f).mp h
          exact apart.elim columns.not_gt lines.not_gt
      exact applyToPiece_of_untouched untouched g
    · have zone : inEdgeBand g start cut q f = decide edge :=
        Bool.eq_iff_iff.mpr ((inEdgeBand_iff g start cut q f).trans decide_eq_true_iff.symm)
      rw [applyToPiece_of_touched ((touches_iff start cut q f).mpr ⟨columns, lines⟩), zone]
      cases source : f.source <;> simp [weight, killMark_eq, source, blob, dense, k]
  · rw [gradeTest_queue, List.length_map]
  · intro closed settledCut
    have tested : (gradeTest s).sched.queue[i]? = some (testPlate s p) := by
      rw [gradeTest_queue, List.getElem?_map, here]
      rfl
    rw [tested]
    refine ⟨fun h => ?_, fun fresh inspected cut => ?_⟩
    · rw [testPlate_of_waiting (by rwa [inspectionClosed_iff, settled_iff])]
    · rw [testPlate_of_closed fresh ((inspectionClosed_iff s p).mpr inspected) ((settled_iff p).mpr cut), finalise]
      simp only [finalGrade_eq]

/-- Settles O27: what a decision fixes, a flaw and finality keep, and an EDGE entry has no piece. -/
theorem pieceArea : Obligations.PieceArea := by
  unfold Obligations.PieceArea
  refine ⟨fun lanes start cut q mem => ?_, applyToPiece_area, finalise_areas, fun p l edge => pieceLane_of_edge edge p⟩
  obtain ⟨l, lane, sale, label, area⟩ := exists_lane_of_mem_newPieces mem
  refine ⟨l, lane, sale, label, area, fun groups lines => ?_⟩
  have bound : q.area ≤ 1073725440 := area ▸ area_le groups lines
  exact ⟨bound, bound.trans_lt (by decide)⟩
end

section
/-! SUPPORT. TABLE LOAD: the address of its block (R187), and the checks of the two tables it carries (R142, R191). -/

namespace Sys2Proof.Machine

/-! ### The request -/

/-- The block is a multiple of 16 and ends within the address space. -/
theorem tableAddress_eq (o : List Byte) : tableAddress o =
    if fieldAt o 0x10 8 % 16 = 0 ∧ fieldAt o 0x10 8 + 512 ≤ 2 ^ 40 then some (fieldAt o 0x10 8) else none := by
  unfold tableAddress addressField inAddressSpace Config.addressEnd
  by_cases low : fieldAt o 0x10 8 < 2 ^ 40
  · simp only [low, if_true, decide_eq_true_eq]
  · simp only [low, if_false]
    exact (if_neg (by omega)).symm

section
variable {s : State} {o : List Byte}

theorem exec_tableLoad_of_ready (ready : OrderReady s kindTableLoad o) :
    exec .tableLoad s = .next (refreshStatus s (takeTableLoad o s)) := by
  have taken : exec .tableLoad s = .next (refreshStatus s (withOrder kindTableLoad takeTableLoad s)) := rfl
  rw [taken, withOrder_of_ready ready]

theorem exec_tableLoad_of_good {a : Nat} (ready : OrderReady s kindTableLoad o) (good : tableAddress o = some a) :
    exec .tableLoad s = .next (issueOwn .tableLoadFetch a (.read 512) (setPhase .tableFetch s)) := by
  rw [exec_tableLoad_of_ready ready, takeTableLoad, good]
  exact congrArg _ (refreshStatus_of_eq (statusFields_issueOwn (p := .tableLoadFetch) rfl _ _ _))

theorem exec_tableLoad_of_bad (ready : OrderReady s kindTableLoad o) (bad : tableAddress o = none) :
    exec .tableLoad s = .next (complete .range s) := by
  rw [exec_tableLoad_of_ready ready, takeTableLoad, bad]
  exact congrArg _ (refreshStatus_of_eq (statusFields_complete _ s))

end

/-! ### The tables in a block (R142, R191) -/

/-- The polarities have the codes 1 to 3 (R191). -/
theorem rulePolarityOf_isSome_iff (n : Nat) : (rulePolarityOf n).isSome = true ↔ 1 ≤ n ∧ n ≤ 3 := by
  match n with
  | 0 | 1 | 2 | 3 => decide
  | n + 4 => simp [rulePolarityOf]

theorem parseRule_isSome_iff (block : List Byte) (i : Nat) :
    (parseRule block i).isSome = true ↔ 1 ≤ fieldAt block (16 * i) 1 ∧ fieldAt block (16 * i) 1 ≤ 3 := by
  rw [parseRule, Option.isSome_map, rulePolarityOf_isSome_iff]

theorem rules_all_iff (block : List Byte) : ((List.range 7).map (parseRule block)).all Option.isSome = true ↔
    ∀ i < 7, 1 ≤ fieldAt block (16 * i) 1 ∧ fieldAt block (16 * i) 1 ≤ 3 := by
  simp only [List.all_map, List.all_eq_true, List.mem_range, Function.comp_apply, parseRule_isSome_iff]

theorem GradeTable.fits_iff (g : GradeTable) : g.fits = true ↔
    g.prime < g.standard ∧ g.standard < g.second ∧ 1 ≤ g.cap ∧ g.cap ≤ 4 ∧ g.bandLines ≤ 1023 := by
  simp only [GradeTable.fits, Bool.and_eq_true, decide_eq_true_eq, and_assoc]

/-- The checks of R142. -/
def TableChecks (block : List Byte) : Prop :=
  (parseGrades block).fits = true ∧ ((List.range 7).map (parseRule block)).all Option.isSome = true

theorem tableChecks_iff (block : List Byte) : TableChecks block ↔
    (parseGrades block).prime < (parseGrades block).standard ∧ (parseGrades block).standard < (parseGrades block).second ∧
      1 ≤ (parseGrades block).cap ∧ (parseGrades block).cap ≤ 4 ∧ (parseGrades block).bandLines ≤ 1023 ∧
      ∀ i < 7, 1 ≤ fieldAt block (16 * i) 1 ∧ fieldAt block (16 * i) 1 ≤ 3 := by
  simp only [TableChecks, GradeTable.fits_iff, rules_all_iff, and_assoc]

/-- The rules that a block carries, those without a polarity left out. -/
def carriedRules (block : List Byte) : List ClassRule := ((List.range 7).map (parseRule block)).filterMap id

/-- A block that passes carries its seven rules in order. -/
theorem carriedRules_map_some {block : List Byte} (h : TableChecks block) :
    (carriedRules block).map some = (List.range 7).map (parseRule block) := by
  obtain ⟨-, all⟩ := h
  rw [carriedRules, List.map_filterMap]
  refine (List.filterMap_congr fun x mem => ?_).trans List.filterMap_some
  obtain ⟨r, rfl⟩ := Option.isSome_iff_exists.mp (List.all_eq_true.mp all x mem)
  rfl

theorem length_carriedRules {block : List Byte} (h : TableChecks block) : (carriedRules block).length = 7 := by
  simpa using congrArg List.length (carriedRules_map_some h)

theorem parseRule_of_carried {block : List Byte} (h : TableChecks block) {i : Nat} {r : ClassRule}
    (rule : (carriedRules block)[i]? = some r) : parseRule block i = some r := by
  have carried : ((carriedRules block).map some)[i]? = some (some r) := by rw [List.getElem?_map, rule]; rfl
  rw [carriedRules_map_some h, List.getElem?_map] at carried
  obtain ⟨j, at_i, parsed⟩ := Option.map_eq_some_iff.mp carried
  obtain ⟨_, rfl⟩ := List.getElem?_eq_some_iff.mp at_i
  rwa [List.getElem_range] at parsed

/-- Both tables replaced by a block's. -/
def withTables (block : List Byte) (s : State) : State :=
  { s with grades := parseGrades block, blobs := { s.blobs with rules := carriedRules block } }

theorem loadTables_of_checked {block : List Byte} (h : TableChecks block) (s : State) :
    loadTables block s = complete .done (withTables block s) := by
  obtain ⟨fits, all⟩ := h
  exact if_pos (by rw [fits, all]; rfl)

theorem loadTables_of_bad {block : List Byte} (h : ¬ TableChecks block) (s : State) :
    loadTables block s = complete .tableBad s :=
  if_neg fun checked => h (Bool.and_eq_true_iff.mp checked)

/-! ### The answer -/

section
variable {s : State} {x : OwnTxn} {left : List OwnTxn} {data : List Byte}

theorem exec_tableLoadFetchDone_of_fits {r : ReadResult} (h : Awaited s (· == .tableLoadFetch) x left)
    (phase : s.orders.phase = .tableFetch) (fits : x.fitsRead r = true) : exec (.tableLoadFetchDone r) s =
      .next (refreshStatus s (if r.okay then loadTables r.data (withOut left s) else complete .tableBad (withOut left s))) := by
  have taken : exec (.tableLoadFetchDone r) s = .next (refreshStatus s
      (ownAnswered (· == .tableLoadFetch) (OwnTxn.fitsRead r) (fun _ => tableAnswered r) s)) := rfl
  have fetching : (withOut left s).orders.phase = .tableFetch := phase
  rw [taken, ownAnswered_of_awaited h fits, tableAnswered, fetching]

/-- A response that no null rewrite awaits leaves the status block's fields as they are (R184, R194). -/
theorem Awaited.statusFields_withOut {p : Purpose → Bool} (h : Awaited s p x left) (drains : x.purpose.drains = false) :
    statusFields (withOut left s) = statusFields s := by
  obtain ⟨pre, post, out, rfl, -, -, -⟩ := h
  have same : drainsOut (withOut (pre ++ post) s).arb = drainsOut s.arb := drainsOut_ended out drains
  simp only [statusFields, enabledCode, same]
  rfl

/-- The order completed by a table fetch's answer, the tables as `t` has them. -/
theorem refreshStatus_answered {t : State} (h : Awaited s (· == .tableLoadFetch) x left)
    (tables : statusFields t = statusFields (withOut left s)) (c : Completion) :
    refreshStatus s (complete c t) = complete c t := by
  have drains : x.purpose.drains = false := by
    obtain ⟨-, -, -, -, -, purpose, -⟩ := h
    rw [beq_iff_eq.mp purpose]
    rfl
  exact refreshStatus_of_eq ((statusFields_complete c t).trans (tables.trans (h.statusFields_withOut drains)))

theorem exec_tableLoadFetchDone_of_error (h : Awaited s (· == .tableLoadFetch) x left)
    (phase : s.orders.phase = .tableFetch) (data : List Byte) :
    exec (.tableLoadFetchDone { okay := false, data := data }) s = .next (complete .tableBad (withOut left s)) := by
  rw [exec_tableLoadFetchDone_of_fits h phase (by rfl)]
  exact congrArg _ (refreshStatus_answered h rfl .tableBad)

theorem exec_tableLoadFetchDone_of_data (h : Awaited s (· == .tableLoadFetch) x left)
    (phase : s.orders.phase = .tableFetch) (body : x.body = .read 512) (length : data.length = 512) :
    exec (.tableLoadFetchDone { okay := true, data := data }) s =
      .next (refreshStatus s (loadTables data (withOut left s))) := by
  rw [exec_tableLoadFetchDone_of_fits h phase (by simp [OwnTxn.fitsRead, OwnTxn.readLength, body, length])]
  rfl

end

end Sys2Proof.Machine

open Sys2Proof Sys2Proof.Machine

/-- Settles O45: the request by its address, then the answer: an error, a block that fails a check, a block that passes. -/
theorem tableLoad : Obligations.TableLoad := by
  unfold Obligations.TableLoad
  refine ⟨fun s o ready => ?_, fun s x left data awaited body phase => ?_⟩
  · intro a
    refine ⟨fun aligned inside => ?_, fun bad => ?_⟩
    · exact exec_tableLoad_of_good ready ((tableAddress_eq o).trans (if_pos ⟨aligned, inside⟩))
    · have refused : tableAddress o = none :=
        (tableAddress_eq o).trans (if_neg fun ⟨aligned, inside⟩ => bad.elim (· aligned) inside.not_gt)
      exact exec_tableLoad_of_bad ready refused
  · intro s1 g good
    refine ⟨exec_tableLoadFetchDone_of_error awaited phase data, fun length bad => ?_, fun length good => ?_⟩
    · rw [exec_tableLoadFetchDone_of_data awaited phase body length,
        loadTables_of_bad (mt (tableChecks_iff data).mp bad), refreshStatus_answered awaited rfl]
    · have checks : TableChecks data := (tableChecks_iff data).mpr good
      refine ⟨carriedRules data, ?_, length_carriedRules checks, fun i r => parseRule_of_carried checks⟩
      rw [exec_tableLoadFetchDone_of_data awaited phase body length, loadTables_of_checked checks]
      exact congrArg _ (refreshStatus_answered (t := withTables data (withOut left s)) awaited rfl .done)
end

section
/-! SUPPORT. What leaves the Capture Engine alone: the operations that neither raise a flaw nor touch the copy. -/

namespace Sys2Proof.Machine

theorem foldl_cap {α : Type} {f : State → α → State} (h : ∀ s a, (f s a).cap = s.cap) (l : List α) (s : State) :
    (l.foldl f s).cap = s.cap := by
  induction l generalizing s with
  | nil => rfl
  | cons a l ih => exact (ih _).trans (h s a)

/-! ### Records, transactions and the status block -/

@[simp] theorem issueEvent_cap (k : EventKind) (fields : List Nat) (s : State) : (issueEvent k fields s).cap = s.cap :=
  (issueEvent_logFrame k fields s).cap

@[simp] theorem formLogLost_cap (s : State) : (formLogLost s).cap = s.cap := (formLogLost_logFrame s).cap

@[simp] theorem pumpLog_cap (s : State) : (pumpLog s).cap = s.cap := (pumpLog_logFrame s).cap

/-! ### The Ring Tracker -/

@[simp] theorem loseSlot_cap (n k : Nat) (s : State) : (loseSlot n k s).cap = s.cap := rfl

@[simp] theorem breakFill_cap (n : Nat) (s : State) : (breakFill n s).cap = s.cap := by
  unfold breakFill
  split <;> simp

@[simp] theorem giveUp_cap (n k : Nat) (s : State) : (giveUp n k s).cap = s.cap := by
  unfold giveUp
  dsimp only
  split <;> simp

@[simp] theorem pinAccepted_cap (n k stamp : Nat) (s : State) : (pinAccepted n k stamp s).cap = s.cap := by
  unfold pinAccepted
  split <;> simp

@[simp] theorem beginFill_cap (n k stamp count len : Nat) (t : Taking) :
    (beginFill n k stamp count len t).state.cap = t.state.cap := by
  have missing : (match (stream t.state n).lastStamp with
      | some l => if l + 1 < stamp then tallyAdd (.missing n) (stamp - l - 1) t.state else t.state
      | none => t.state).cap = t.state.cap := by
    split
    · split <;> rfl
    · rfl
  exact (pinAccepted_cap ..).trans missing

@[simp] theorem takeHeader_cap (n : Nat) (p : Portion) (t : Taking) : (takeHeader n p t).state.cap = t.state.cap := by
  have broken : (breakFill n (if (dirEntry t.state n p.slot).busy then giveUp n p.slot t.state else t.state)).cap =
      t.state.cap := by
    split <;> simp
  unfold takeHeader
  dsimp only
  generalize breakFill n (if (dirEntry t.state n p.slot).busy then giveUp n p.slot t.state else t.state) = u at broken ⊢
  split
  · simp [broken]
  · split <;> simp [broken]

@[simp] theorem takeContinuation_cap (n : Nat) (p : Portion) (t : Taking) :
    (takeContinuation n p t).state.cap = t.state.cap := by
  unfold takeContinuation
  split
  · rfl
  · split
    · dsimp only
      split <;> simp
    · simp

@[simp] theorem takeStreamWrite_cap (n : Nat) (w : UpWrite) (s : State) : (takeStreamWrite n w s).state.cap = s.cap := by
  have portions (l : List Portion) (t : Taking) : (l.foldl (takePortion n) t).state.cap = t.state.cap := by
    induction l generalizing t with
    | nil => rfl
    | cons p l ih =>
      refine (ih _).trans ?_
      unfold takePortion
      split <;> simp
  exact portions _ _

@[simp] theorem seedFailed_cap (n k : Nat) (s : State) : (seedFailed n k s).cap = s.cap := rfl

@[simp] theorem startSeed_cap (n k : Nat) (s : State) : (startSeed n k s).cap = s.cap := by
  unfold startSeed
  dsimp only
  split
  · simp
  · simp [issueReads_cap]

@[simp] theorem lateTest_cap (n k : Nat) (s : State) : (lateTest n k s).cap = s.cap := by
  unfold lateTest
  split <;> simp

@[simp] theorem becomeReady_cap (n k : Nat) (s : State) : (becomeReady n k s).cap = s.cap := by
  unfold becomeReady
  dsimp only
  split
  · split <;> simp
  all_goals simp

@[simp] theorem resolveNote_cap (okay : Bool) (s : State) (x : FillNote) : (resolveNote okay s x).cap = s.cap := by
  unfold resolveNote
  dsimp only
  split
  · split
    · split <;> simp
    · split <;> simp
  · split <;> simp

@[simp] theorem endHold_cap (n : Nat) (first rest : TakeMode) (s : State) : (endHold n first rest s).cap = s.cap := by
  unfold endHold
  split <;> rfl

@[simp] theorem abandonHold_cap (n : Nat) (s : State) : (abandonHold n s).cap = s.cap := endHold_cap n .untracked .untracked s

@[simp] theorem faultStream_cap (n : Nat) (s : State) : (faultStream n s).cap = s.cap := by
  have lost (l : List Nat) (s : State) : (l.foldl (fun s k => loseSlot n k s) s).cap = s.cap :=
    foldl_cap (fun s k => loseSlot_cap n k s) l s
  simp [faultStream, lost]

@[simp] theorem timeOutFill_cap (n : Nat) (s : State) : (timeOutFill n s).cap = s.cap := by
  unfold timeOutFill
  split
  · rfl
  · dsimp only
    split <;> simp

@[simp] theorem queueWrite_cap (n : Nat) (w : UpWrite) (s : State) : (queueWrite n w s).cap = s.cap := by
  unfold queueWrite
  split
  · split <;> simp
  · rfl

@[simp] theorem holdWrite_cap (n : Nat) (w : UpWrite) (s : State) : (holdWrite n w s).cap = s.cap := by
  unfold holdWrite
  split <;> simp

@[simp] theorem writeAnswered_cap (tag : Nat) (okay : Bool) (s : State) : (writeAnswered tag okay s).cap = s.cap := by
  unfold writeAnswered
  split
  · exact foldl_cap (resolveNote_cap okay) _ _
  · rfl

@[simp] theorem readAnswered_cap (tag : Nat) (b : ReadResult) (s : State) : (readAnswered tag b s).cap = s.cap := by
  unfold readAnswered
  split
  · split <;> rfl
  · rfl

/-! ### The line -/

@[simp] theorem assembleLine_cap (s : State) : (assembleLine s).cap = s.cap := by
  have step (line : Nat) (s : State) (e : CovEntry) : (stepEpisode line s e).cap = s.cap := by
    unfold stepEpisode
    split
    · split <;> simp
    · simp
  have fetch (s : State) (e : CovEntry) : (issueFetch s e).cap = s.cap := (issueFetch_logFrame s e).cap
  exact (foldl_cap fetch _ _).trans (foldl_cap (step _) _ _)

@[simp] theorem endSeed_cap (n : Nat) (f : SeedFetch) (results : List ReadResult) (s : State) :
    (endSeed n f results s).cap = s.cap := by
  unfold endSeed
  split
  · exact (seedDone_logFrame n f results s).cap
  · rfl

@[simp] theorem testNotBefore_cap (s : State) : (testNotBefore s).cap = s.cap := by rw [testNotBefore_eq_with]

@[simp] theorem takeLaneOrder_cap (o : List Byte) (s : State) : (takeLaneOrder o s).cap = s.cap := by
  by_cases assign : orderKind o = kindLaneAssign
  · simp [takeLaneOrder_assign assign]
  by_cases release : orderKind o = kindLaneRelease
  · simp [takeLaneOrder_release release]
  rw [takeLaneOrder_load assign release]
  dsimp only
  split
  · simp
  · split <;> simp [withProfile]

@[simp] theorem takeWaitingLaneOrder_cap (s : State) : (takeWaitingLaneOrder s).cap = s.cap := by
  unfold takeWaitingLaneOrder
  split <;> simp

/-! ### Tickets and plates -/

@[simp] theorem trySeal_cap (n : Nat) (s : State) : (trySeal n s).cap = s.cap := by
  unfold trySeal
  split
  · rfl
  · dsimp only
    split <;> rfl

@[simp] theorem pumpSeals_cap (s : State) : (pumpSeals s).cap = s.cap :=
  foldl_cap (f := fun s (p : Plate) => trySeal p.num s) (fun s p => trySeal_cap p.num s) _ s

@[simp] theorem withdrawTicket_cap (d : Bool) (p : Plate) (s : State) : (withdrawTicket d p s).cap = s.cap := by
  obtain ⟨_, _, withdrawn, -⟩ := withdrawTicket_eq_with d p s
  rw [withdrawn]

@[simp] theorem abandonPlate_cap (d : Bool) (s : State) (p : Plate) : (abandonPlate d s p).cap = s.cap :=
  withdrawTicket_cap d p _

@[simp] theorem disableScheduler_cap (s : State) : (disableScheduler s).cap = s.cap := by
  exact foldl_cap (abandonPlate_cap true) s.sched.queue s

@[simp] theorem restartPlates_cap (p : Plan) (s : State) : (restartPlates p s).cap = s.cap := by
  obtain ⟨_, _, _, act⟩ := replannedQueue_eq_with p s
  refine (issueEvent_cap _ _ (replannedQueue p s)).trans ?_
  rw [act]

@[simp] theorem testRequest_cap (p : Plan) (s : State) : (testRequest p s).cap = s.cap := by
  unfold testRequest
  split
  · split <;> simp
  · rfl

@[simp] theorem jumpUnplanned_cap (x : Nat) (s : State) : (jumpUnplanned x s).cap = s.cap := rfl

@[simp] theorem tallyDecision_cap (q : Plate) (s : State) : (tallyDecision q s).cap = s.cap := by
  unfold tallyDecision
  dsimp only
  split <;> rfl

@[simp] theorem retirePlate_cap (p : Plate) (s : State) : (retirePlate p s).cap = s.cap := by
  have pieces (l : List Piece) (s : State) : (l.foldl tallyPiece s).cap = s.cap := foldl_cap (fun _ _ => by rfl) l s
  simp [retirePlate, tallyRetirement, pieces, (handGroup_logFrame _ _).cap]

end Sys2Proof.Machine
end

section
/-! SUPPORT. What the commands other than a pin reset do to the capture slots: a capture begins, a copy ends, and LOCKED slots
are released (`CaptureSteps`). One lemma for each shared operation that does not leave the Capture Engine alone. -/

namespace Sys2Proof.Machine

/-- `t` comes about from `s` by acts that leave the slots and the active copy's slot as they are, and by these three: a capture
begins in the slot that selection gives (R156), the active copy ends with its slot FREE or LOCKED (R161, R163), and LOCKED
slots are released (R162). -/
inductive CaptureSteps : State → State → Prop
  | kept {s t : State} (slots : t.cap.slots = s.cap.slots) (copy : t.cap.copy.map (·.slot) = s.cap.copy.map (·.slot)) :
      CaptureSteps s t
  | trans {s t u : State} (h : CaptureSteps s t) (k : CaptureSteps t u) : CaptureSteps s u
  | begun {s : State} {k : Nat} (free : captureSlotFor s = some k) (flaw c0 c1 y0 : Nat) :
      CaptureSteps s (startCopy k flaw c0 c1 y0 s)
  | ended {s t : State} {c : Copy} {x : CapState} (active : s.cap.copy = some c) (free : x ≠ .filling)
      (cap : t.cap = { slots := s.cap.slots.set c.slot x, copy := none }) : CaptureSteps s t
  | released (mask : BitVec 8) (s : State) : CaptureSteps s (releaseCaptures mask s)

theorem CaptureSteps.same {s t : State} (h : t.cap = s.cap) : CaptureSteps s t := .kept (by rw [h]) (by rw [h])

theorem CaptureSteps.refl (s : State) : CaptureSteps s s := .same rfl

theorem LogFrame.captures {s t : State} (h : LogFrame s t) : CaptureSteps s t := .same h.cap

theorem CaptureSteps.ofBlobs (s : State) (x : BlobTracker) : CaptureSteps s { s with blobs := x } := .same rfl

theorem CaptureSteps.ofSched (s : State) (x : Scheduler) : CaptureSteps s { s with sched := x } := .same rfl

/-- An event told. -/
theorem CaptureSteps.event (k : EventKind) (fields : List Nat) {s t : State} (h : CaptureSteps s t) :
    CaptureSteps s (issueEvent k fields t) := h.trans (issueEvent_logFrame k fields t).captures

/-- A choice between two updates. -/
theorem CaptureSteps.ite {s t u : State} {p : Prop} [Decidable p] (h : CaptureSteps s t) (k : CaptureSteps s u) :
    CaptureSteps s (if p then t else u) := by
  split
  · exact h
  · exact k

theorem CaptureSteps.foldl {α : Type} {f : State → α → State} (h : ∀ s a, CaptureSteps s (f s a)) (l : List α)
    (s : State) : CaptureSteps s (l.foldl f s) := by
  induction l generalizing s with
  | nil => exact .refl s
  | cons a l ih => exact (h s a).trans (ih _)

theorem CaptureSteps.foldr {α : Type} {f : α → State → State} (h : ∀ s a, CaptureSteps s (f a s)) (l : List α)
    (s : State) : CaptureSteps s (l.foldr f s) := by
  induction l with
  | nil => exact .refl s
  | cons a l ih => exact ih.trans (h _ a)

/-! ### The active copy -/

/-- A change of the active copy that leaves its slot. -/
theorem CaptureSteps.modCopy {f : Copy → Copy} (hf : ∀ c, (f c).slot = c.slot) (s : State) :
    CaptureSteps s (modCopy f s) := by
  refine .kept rfl ?_
  change (s.cap.copy.map f).map (·.slot) = _
  rw [Option.map_map]
  exact congrArg (s.cap.copy.map ·) (funext hf)

theorem missSegment_captures (cs : CapStream) (s : State) : CaptureSteps s (missSegment cs s) :=
  (CaptureSteps.modCopy (fun _ => by rfl) s).trans (.modCopy (fun _ => by rfl) _)

theorem testSegments_captures (s : State) : CaptureSteps s (testSegments s) := by
  unfold testSegments
  split
  · exact .refl s
  · rename_i c active
    exact .kept rfl (by rw [active]; rfl)

theorem advanceCapStream_captures (n fuel : Nat) (s : State) : CaptureSteps s (advanceCapStream n fuel s) := by
  induction fuel generalizing s with
  | zero => exact .refl s
  | succ fuel ih =>
    unfold advanceCapStream
    split
    · exact .refl s
    · split
      · exact .refl s
      · refine .ite (.refl s) ?_
        split
        · exact .refl s
        · exact (missSegment_captures _ s).trans (ih _)
        · exact CaptureSteps.trans (.modCopy (by exact fun _ => rfl) s) (issueReads_logFrame _ _ _).captures

theorem advanceRows_captures (fuel : Nat) (s : State) : CaptureSteps s (advanceRows fuel s) := by
  induction fuel generalizing s with
  | zero => exact .refl s
  | succ fuel ih =>
    unfold advanceRows
    split
    · exact .refl s
    · exact .ite ((CaptureSteps.trans (.modCopy (by exact fun _ => rfl) s) (issueOwn_logFrame _ _ _ _).captures).trans (ih _))
        (.refl s)

theorem advanceHeader_captures (s : State) : CaptureSteps s (advanceHeader s) := by
  unfold advanceHeader
  split
  · exact .refl s
  · exact .ite (CaptureSteps.trans (.modCopy (by exact fun _ => rfl) s) (issueOwn_logFrame _ _ _ _).captures) (.refl s)

theorem advanceCapture_captures (s : State) : CaptureSteps s (advanceCapture s) := by
  unfold advanceCapture
  split
  · exact .refl s
  · exact (((testSegments_captures s).trans (.foldl (fun s cs => advanceCapStream_captures _ _ s) _ _)).trans
      (advanceRows_captures _ _)).trans (advanceHeader_captures _)

/-- A copy that is abandoned leaves its slot FREE (R161, R163). -/
theorem dropCopy_captures (s : State) : CaptureSteps s (dropCopy s) := by
  cases active : s.cap.copy with
  | none => exact .same (by rw [dropCopy, active])
  | some c => exact .ended (x := .free) active (by decide) (dropCopy_cap active)

theorem dropCopyOf_captures (n : Nat) (s : State) : CaptureSteps s (dropCopyOf n s) := by
  unfold dropCopyOf
  split
  · exact .ite (dropCopy_captures s) (.refl s)
  · exact .refl s

/-- A capture that is complete leaves its slot LOCKED (R161). -/
theorem endCapture_captures {c : Copy} {s : State} (active : s.cap.copy = some c) : CaptureSteps s (endCapture c s) := by
  have locked : CaptureSteps s (captureLocked c s) := .ended (x := .locked) active (by decide) rfl
  rw [endCapture_eq]
  exact .ite (locked.trans (issueEvent_logFrame _ _ _).captures) locked

theorem failCapture_captures (addr : Nat) (s : State) : CaptureSteps s (failCapture addr s) := by
  unfold failCapture
  split
  · exact (dropCopy_captures s).trans (issueEvent_logFrame _ _ _).captures
  · exact .refl s

theorem rowAnswered_captures (okay : Bool) (x : OwnTxn) (s : State) : CaptureSteps s (rowAnswered okay x s) := by
  unfold rowAnswered
  exact .ite (.modCopy (by exact fun _ => rfl) s) (failCapture_captures _ s)

theorem headerAnswered_captures (okay : Bool) (x : OwnTxn) (s : State) : CaptureSteps s (headerAnswered okay x s) := by
  unfold headerAnswered
  split
  · exact .ite (endCapture_captures ‹_›) (failCapture_captures _ s)
  · exact .refl s

theorem segmentAnswered_captures (c : Copy) (cs : CapStream) (pixels : Nat) (results : List ReadResult) (s : State) :
    CaptureSteps s (segmentAnswered c cs pixels results s) := by
  have unpinned : CaptureSteps s (unpinStamp cs.stream ((c.yw + cs.next).toNat + cs.stagger) s) := .same rfl
  unfold segmentAnswered
  exact .ite (unpinned.trans (.modCopy (by exact fun _ => rfl) _)) (unpinned.trans (missSegment_captures _ _))

/-! ### Flaws (R78) -/

/-- A flaw that the Capture Engine takes begins a capture in the slot that selection gives (R156). -/
theorem offerCapture_captures (f : Flaw) (s : State) : CaptureSteps s (offerCapture f s).2 := by
  unfold offerCapture
  split
  · split
    · exact .begun ‹_› ..
    · exact .same rfl
  · exact .refl s

theorem submitFlaw_cap (f : ListedFlaw) (s : State) : (submitFlaw f s).cap = s.cap := by
  unfold submitFlaw
  split
  · rfl
  · split
    · rfl
    · exact issueEvent_cap ..

theorem routeFlaw_captures (f : Flaw) (s : State) : CaptureSteps s (routeFlaw f s) := by
  have told : CaptureSteps s (flawTold f s) :=
    (offerCapture_captures f s).trans ((handGroup_logFrame _ _).trans (tallyAdd_logFrame _ _ _)).captures
  rw [routeFlaw_eq]
  exact .ite told (.ite (told.trans (.same (by rw [submitFlaw_cap]; rfl))) (told.trans (.same rfl)))

theorem raiseFlaw_captures (f : Flaw) (s : State) : CaptureSteps s (raiseFlaw f s) :=
  CaptureSteps.trans (by exact .same rfl) (routeFlaw_captures _ _)

theorem raiseFlaws_captures (fs : List Flaw) (s : State) : CaptureSteps s (raiseFlaws fs s) :=
  .foldl (fun s f => raiseFlaw_captures f s) fs s

/-! ### The Blob Tracker's act (R64) -/

theorem closeBlob_captures (s : State) (x : Blob × Bool) : CaptureSteps s (closeBlob s x) := by
  unfold closeBlob
  exact .ite (.same rfl) (raiseFlaw_captures _ s)

theorem feedDense_captures (line : Nat) (dropped : List Run) (overflow : Bool) (s : State) :
    CaptureSteps s (feedDense line dropped overflow s) := by
  unfold feedDense
  split
  · exact .refl s
  · dsimp only
    split
    · exact .ofBlobs s _
    · exact .event _ _ (.ofBlobs s _)

theorem testDense_captures (line : Nat) (s : State) : CaptureSteps s (testDense line s) := by
  unfold testDense
  split
  · exact .refl s
  · exact .ite ((CaptureSteps.ofBlobs s _).trans (raiseFlaw_captures _ _))
      (.ite ((CaptureSteps.ofBlobs s _).trans (raiseFlaw_captures _ _)) (.refl s))

theorem takeCoverages_captures (line g : Nat) (us : List Bool) (s : State) :
    CaptureSteps s (takeCoverages line g us s) := by
  have take (g : Nat) (u : Bool) (s : State) : CaptureSteps s (takeCoverage line g u s) := by
    unfold takeCoverage
    split
    · exact .ite (.same rfl) (.refl s)
    · refine .ite (.same rfl) ?_
      split
      · exact CaptureSteps.trans (by exact .same rfl) (raiseFlaw_captures _ _)
      · exact .same rfl
  induction us generalizing g s with
  | nil => exact .refl s
  | cons u us ih => exact (take g u s).trans (ih _ _)

theorem splitGaps_cap (cut : Nat) (atCut : Bool) (s : State) : (splitGaps cut atCut s).2.cap = s.cap := by
  refine foldl_cap (fun t g => ?_) _ s
  split <;> rfl

theorem takeSplits_captures (line : Nat) (s : State) : CaptureSteps s (takeSplits line s) := by
  have split (s : State) (c : Nat) : CaptureSteps s (raiseFlaws (splitGaps c false s).1 (splitGaps c false s).2) :=
    CaptureSteps.trans (.same (splitGaps_cap c false s)) (raiseFlaws_captures _ _)
  exact CaptureSteps.trans (by exact .same rfl) (.foldl split _ _)

theorem blobAct_captures (line : Nat) (runs overflow : List Run) (us : List Bool) (s : State) :
    CaptureSteps s (blobAct line runs overflow us s) := by
  unfold blobAct
  exact ((((((CaptureSteps.ofBlobs s _).trans (feedDense_captures ..)).trans (.ofBlobs _ _)).trans
    (.foldl closeBlob_captures _ _)).trans (testDense_captures _ _)).trans (takeCoverages_captures _ _ _ _)).trans
    (takeSplits_captures _ _)

/-! ### Decisions and retirements (R101, R140) -/

theorem decidePlate_captures (p : Plan) (cut : Nat) (kind : PlateKind) (f u : Bool) (s : State) :
    CaptureSteps s (decidePlate p cut kind f u s) := by
  have given (s : State) : CaptureSteps s (giveCut cut s).2 := by
    unfold giveCut
    split
    · exact .same (splitGaps_cap _ _ s)
    · exact .ofBlobs s _
  have entered (q : Plate) : CaptureSteps s (removePassed cut (enterPlate q s)) := .same rfl
  unfold decidePlate
  exact ((((entered _).trans (given _)).trans (.same (pumpSeals_cap _))).trans
    ((CaptureSteps.same (tallyDecision_cap _ _)).trans (.ofSched _ _))).trans (raiseFlaws_captures _ _)

theorem finishDecision_captures (p : Plan) (c : Choice) (f : Bool) (s : State) : CaptureSteps s (finishDecision p c f s) := by
  have refused : CaptureSteps s (issueEvent .requestLate [s.sched.request.getD 0, s.sched.start]
      { s with sched := { s.sched with request := none } }) := .event _ _ (.ofSched s _)
  unfold finishDecision
  refine .ite (decidePlate_captures ..) (.ite ?_ (.same (by simp)))
  dsimp only
  split
  · exact refused.trans (decidePlate_captures ..)
  · exact decidePlate_captures ..

theorem evaluate_captures (s : State) : CaptureSteps s (evaluate s) := by
  have once (p : Plan) (s : State) : CaptureSteps s (evaluateOnce p s).2 := by
    have tested : CaptureSteps s (testRequest p s) := .same (testRequest_cap p s)
    unfold evaluateOnce
    dsimp only
    split
    · split
      · exact tested.trans (.same (by simp [starve]))
      · exact tested
    · split
      · exact tested.trans (finishDecision_captures ..)
      · exact tested
  have loop (p : Plan) (fuel : Nat) : ∀ s, CaptureSteps s (evaluateLoop p fuel s) := by
    induction fuel with
    | zero => exact .refl
    | succ fuel ih =>
      intro s
      unfold evaluateLoop
      exact .ite ((once p s).trans (ih _)) (once p s)
  unfold evaluate
  split
  · exact .ite (loop ..) (.refl s)
  · exact .refl s

theorem plateChanged_captures (s : State) : CaptureSteps s (plateChanged s) := by
  have loop (fuel : Nat) : ∀ s, CaptureSteps s (retireLoop fuel s) := by
    induction fuel with
    | zero => exact .refl
    | succ fuel ih =>
      intro s
      unfold retireLoop
      split
      · exact .ite (((CaptureSteps.same (retirePlate_cap _ s)).trans (evaluate_captures _)).trans (ih _)) (.refl s)
      · exact .refl s
  exact CaptureSteps.trans (by exact .same rfl) (loop _ (gradeTest s))

theorem plan_captures (s : State) : CaptureSteps s (plateChanged (evaluate s)) :=
  (evaluate_captures s).trans (plateChanged_captures _)

theorem examineIfChanged_captures (b s : State) : CaptureSteps s (examineIfChanged b s) := by
  unfold examineIfChanged
  exact .ite (.refl s) (plateChanged_captures s)

theorem activate_captures (s : State) : CaptureSteps s (activate s) := by
  unfold activate
  exact .ite (CaptureSteps.trans (by exact .same rfl) (plan_captures _)) (.refl s)

theorem takeTicket_captures (q : ReadPortion) (s : State) : CaptureSteps s (takeTicket q s) := by
  unfold takeTicket
  split
  · exact .ite (CaptureSteps.trans (by exact .same rfl) (plateChanged_captures _)) (.refl s)
  · exact .refl s

theorem missPlate_captures (s : State) (n : Nat) : CaptureSteps s (missPlate s n) := by
  unfold missPlate
  split
  · exact .ite (CaptureSteps.trans (.same (by simp [markMissed])) (plateChanged_captures _)) (.refl s)
  · exact .refl s

theorem takeMisses_captures (s : State) : CaptureSteps s (takeMisses s) := .foldl missPlate_captures _ s

theorem takeRead_captures (r : UpRead) (s : State) : CaptureSteps s (takeRead r s) := by
  unfold takeRead
  have served : CaptureSteps s (if (r.tag == s.window.ticket.tag) && (readPortions s r).any (fun q => !q.fromMemory)
    then tallyAdd .nullServed 1 s else s) := .ite (.same rfl) (.refl s)
  have taken := served.trans (.ite (p := (r.tag == s.window.ticket.tag) = true)
    (.foldl (fun s q => takeTicket_captures q s) (readPortions s r) _) (.refl _))
  exact .ite (taken.trans (.same rfl)) (taken.trans (.same rfl))

/-! ### The line (R41) -/

theorem completeLine_captures (line : Nat) (r : List CovEntry) (s : State) : CaptureSteps s (completeLine line r s) := by
  have entry (s : State) (e : CovEntry) : (passEntry s e).cap = s.cap := by
    unfold passEntry
    split <;> rfl
  have behind (s : State) (n : Nat) : (passBehind line s n).cap = s.cap := by
    unfold passBehind
    split <;> rfl
  have passed : (slotsPassed line r s).cap = s.cap := by
    rw [slotsPassed, foldl_cap behind, foldl_cap entry]
  have taken (s : State) : (lineTaken line s).cap = s.cap := rfl
  change CaptureSteps s (plateChanged (evaluate (testNotBefore (takeWaitingLaneOrder (lineTaken line (slotsPassed line r s))))))
  exact (CaptureSteps.same (by simp [taken, passed])).trans (plan_captures _)

theorem analyseLine_captures (early : List (Fin 8)) (r : List CovEntry) (txns : List OwnTxn) (results : List ReadResult)
    (s : State) : CaptureSteps s (analyseLine early r txns results s) := by
  have analysed (line : Nat) (pass : LinePass) (s : State) : CaptureSteps s (lineAnalysed line pass s) :=
    CaptureSteps.trans (by exact .same (streakEvents_logFrame ..).cap) (blobAct_captures ..)
  rw [analyseLine_eq]
  exact ((CaptureSteps.same (by exact (fetchReports_logFrame ..).cap)).trans (analysed ..)).trans (completeLine_captures ..)

/-! ### Orders and the window cache -/

theorem takeShiftClose_cap (next : Nat) (s : State) : (takeShiftClose next s).cap = s.cap := by
  unfold takeShiftClose closeShift
  split
  · exact foldl_cap (f := fun s (b : Nat × List Byte) => issueOwn .report b.1 (.write b.2) s) (fun _ _ => by rfl) _ _
  · rfl

theorem endReport_cap (s : State) : (endReport s).cap = s.cap := by
  unfold endReport
  dsimp only
  split
  · exact takeShiftClose_cap _ _
  · rfl

theorem replaceParts_captures (selector : Nat) (table : List Byte) (s : State) :
    CaptureSteps s (replaceParts selector table s) := by
  have log (s : State) : CaptureSteps s (restartLog s) := by
    unfold restartLog
    exact .ite (.same (formLogLost_cap _)) (.same (pumpLog_cap _))
  have follow (s : State) : CaptureSteps s (followTicket s) := by
    unfold followTicket
    exact .ite (activate_captures s) (.ite (.same rfl) (.refl s))
  have cached : CaptureSteps s { s with window := refreshedWindow s selector table } := .same rfl
  have restarted := cached.trans (.ite (p := (replacedParts s selector).contains 9 = true) (log _) (.refl _))
  have tickets := restarted.trans
    (.ite (p := (replacedParts s selector).contains 8 = true) (t := resetTickets _) (.same rfl) (.refl _))
  exact (tickets.trans (windowEvents_logFrame (replacedParts s selector) _).captures).trans (.ite (follow _) (.refl _))

theorem takeRefresh_captures (selector : Nat) (table : List Byte) (s : State) :
    CaptureSteps s (takeRefresh selector table s) := by
  unfold takeRefresh
  exact .ite ((replaceParts_captures _ _ s).trans (.same rfl)) (.ite (.same rfl)
    ((replaceParts_captures _ _ s).trans (.same rfl)))

@[simp] theorem abandonOrder_cap (s : State) : (abandonOrder s).cap = s.cap := by
  unfold abandonOrder
  split <;> rfl

theorem takePlanSet_captures (o : List Byte) (s : State) : CaptureSteps s (takePlanSet o s) := by
  unfold takePlanSet
  split
  · exact .same rfl
  · exact .ite (CaptureSteps.trans (by exact .same rfl) (plan_captures _))
      (CaptureSteps.trans (by exact .same rfl) (activate_captures _))

theorem takeCutRequest_captures (o : List Byte) (s : State) : CaptureSteps s (takeCutRequest o s) := by
  unfold takeCutRequest
  split
  · exact .same rfl
  · exact CaptureSteps.trans (by exact .same rfl) (plan_captures _)

theorem takeRestart_captures (s : State) : CaptureSteps s (takeRestart s) := by
  unfold takeRestart
  split
  · exact .same (by simp)
  · exact .same rfl

theorem decideAfterRestart_captures (s : State) : CaptureSteps s (decideAfterRestart s) := by
  unfold decideAfterRestart
  exact .ite ((plan_captures s).trans (refreshStatus_logFrame _ _).captures) (.refl s)

/-- A stream that is stopped takes its copy with it (R20, R163). -/
theorem stopStream_captures (n : Nat) (s : State) : CaptureSteps s (stopStream n s) := by
  unfold stopStream
  exact .ite (.refl s) ((dropCopyOf_captures n s).trans (.same (by simp)))

theorem takeStreamStop_captures (o : List Byte) (s : State) : CaptureSteps s (takeStreamStop o s) := by
  unfold takeStreamStop
  exact .ite (.same rfl) ((stopStream_captures _ s).trans (.same rfl))

theorem takeRefreshOrder_captures (o : List Byte) (s : State) : CaptureSteps s (takeRefreshOrder o s) :=
  .ite (.same rfl) (.same rfl)

theorem takeStreamStart_captures (o : List Byte) (s : State) : CaptureSteps s (takeStreamStart o s) := by
  unfold takeStreamStart
  dsimp only
  split <;> exact .same rfl

theorem takeTableLoad_captures (o : List Byte) (s : State) : CaptureSteps s (takeTableLoad o s) := by
  unfold takeTableLoad
  split <;> exact .same rfl

theorem handLaneOrder_captures (o : List Byte) (s : State) : CaptureSteps s (handLaneOrder o s) :=
  .ite (.same rfl) (.same (takeLaneOrder_cap o s))

theorem takeShiftOrder_captures (o : List Byte) (s : State) : CaptureSteps s (takeShiftOrder o s) :=
  .ite (.same (takeShiftClose_cap _ s)) (.same rfl)

theorem takeFence_captures (o : List Byte) (s : State) : CaptureSteps s (takeFence o s) := by
  unfold takeFence
  split
  · exact .ite (.same rfl) (.same rfl)
  · exact .same rfl

theorem endFence_captures (addr : Nat) (marked okay : Bool) (s : State) : CaptureSteps s (endFence addr marked okay s) := by
  unfold endFence
  refine .ite (CaptureSteps.trans (.ite (by exact .same rfl) (.refl s)) (.same rfl)) (.same ?_)
  simp

/-! ### The anchor page (R174) -/

theorem enablePart_captures (s : State) : CaptureSteps s (enablePart s) := by
  have placed : CaptureSteps s (enabledLine s) := .same (by unfold enabledLine; split <;> rfl)
  rw [enablePart_eq]
  exact placed.trans (activate_captures _)

theorem disablePart_captures (s : State) : CaptureSteps s (disablePart s) := by
  have stopped : CaptureSteps s (stopAll (dropCopy s)) :=
    (dropCopy_captures s).trans (.foldr (fun s n => stopStream_captures n s) _ _)
  have cleared (s : State) : (clearLine s).cap = s.cap := rfl
  change CaptureSteps s (abandonOrder (disableScheduler (clearLine (stopAll (dropCopy s)))))
  exact stopped.trans (.same (by simp [cleared]))

theorem writeControl_captures (v : Nat) (s : State) : CaptureSteps s (writeControl v s) := by
  unfold writeControl
  refine CaptureSteps.trans ?_ (.ite (formLogLost_logFrame _).captures (.refl _))
  exact .ite (CaptureSteps.trans (by exact .same rfl) (enablePart_captures _))
    (.ite (CaptureSteps.trans (by exact .same rfl) (disablePart_captures _)) (.same rfl))

theorem actOn_captures {act : Nat → State → State} (h : ∀ v s, CaptureSteps s (act v s)) (v : Option Nat) (s : State) :
    CaptureSteps s (actOn v act s) := by
  unfold actOn
  split
  · exact h _ s
  · exact .refl s

/-- The actions of the control fields, in ascending offset (R174). -/
theorem latchAnchor_captures (w : UpWrite) (s : State) : CaptureSteps s (latchAnchor w s) := by
  have ring (s : State) : (ringSet s).cap = s.cap := abandonOrder_cap _
  have base (v : Nat) (s : State) : CaptureSteps s (writeOrderBase v s) := .same (ring _)
  have size (v : Nat) (s : State) : CaptureSteps s (writeOrderSize v s) :=
    .ite (issueEvent_logFrame ..).captures (.same (ring _))
  have tail (v : Nat) (s : State) : CaptureSteps s (writeOrderTail v s) :=
    .ite (issueEvent_logFrame ..).captures (.ite (.same rfl) (.same rfl))
  have read (v : Nat) (s : State) : CaptureSteps s (writeLogRead v s) :=
    .ite (.same rfl) (issueEvent_logFrame ..).captures
  have release (v : Nat) (s : State) : CaptureSteps s (writeCaptureRelease v s) :=
    CaptureSteps.trans (by exact .same rfl) (.released _ _)
  unfold latchAnchor
  refine CaptureSteps.trans ?_ (actOn_captures release _ _)
  refine CaptureSteps.trans ?_ (actOn_captures (fun _ _ => .same (by rfl)) _ _)
  refine CaptureSteps.trans ?_ (actOn_captures (fun _ _ => .same (by rfl)) _ _)
  refine CaptureSteps.trans ?_ (actOn_captures (fun _ _ => .same (by rfl)) _ _)
  refine CaptureSteps.trans ?_ (actOn_captures read _ _)
  refine CaptureSteps.trans ?_ (actOn_captures (fun _ _ => .same (by rfl)) _ _)
  refine CaptureSteps.trans ?_ (actOn_captures tail _ _)
  refine CaptureSteps.trans ?_ (actOn_captures size _ _)
  exact (actOn_captures writeControl_captures _ s).trans (actOn_captures base _ _)

/-! ### The Traffic Classifier -/

theorem confirmPlate_captures (j code echo measured : Nat) (s : State) :
    CaptureSteps s (confirmPlate j code echo measured s) := by
  have told (k : EventKind) (fields : List Nat) : CaptureSteps s (issueEvent k fields s) := .event k fields (.refl s)
  have other : CaptureSteps s (confirmOther j code echo measured s) := .ite (told ..) (told ..)
  have settled (p : Plate) : CaptureSteps s (settlePlate p code measured s) := by
    have deviation (s : State) : CaptureSteps s (testDeviation p measured s) := .ite (.event _ _ (.same rfl)) (.refl s)
    have settled (f : Plate → Plate) : CaptureSteps s (modPlate p.num f s) := .same rfl
    unfold settlePlate
    exact CaptureSteps.trans (.ite ((settled _).trans (deviation _)) (settled _)) (plateChanged_captures _)
  unfold confirmPlate
  split
  · exact other
  · refine .ite other ?_
    split
    case h_1 | h_2 => exact settled _
    case h_3 => exact .ite (settled _) (told ..)
    case h_4 | h_5 | h_6 => exact told ..
    case h_7 | h_8 => exact other

theorem takeStatus_captures (w : UpWrite) (s : State) : CaptureSteps s (takeStatus w s) := by
  unfold takeStatus decodeStatus
  refine .ite ?_ (.refl s)
  split
  · exact .ite (confirmPlate_captures ..) (issueEvent_logFrame ..).captures
  · exact .refl s

theorem refuseWrite_captures (w : UpWrite) (s : State) : CaptureSteps s (refuseWrite w s) := by
  unfold refuseWrite
  exact ((CaptureSteps.ite (issueEvent_logFrame ..).captures (.refl s)).trans
    (.ite (issueEvent_logFrame ..).captures (.refl _))).trans (by exact .same rfl)

theorem passWrite_captures (w : UpWrite) (tracked : Bool) (s : State) : CaptureSteps s (passWrite w tracked s) := by
  unfold passWrite
  refine CaptureSteps.trans (CaptureSteps.trans (.same ?_) (takeStatus_captures _ _)) (latchAnchor_captures _ _)
  rw [forwardPass_cap]
  split
  · exact takeStreamWrite_cap ..
  · rfl

theorem judgeWrite_captures (w : UpWrite) (mode : TakeMode) (s : State) : CaptureSteps s (judgeWrite w mode s) := by
  unfold judgeWrite
  refine .ite (refuseWrite_captures w s) ?_
  split
  · exact passWrite_captures _ _ s
  · exact passWrite_captures _ _ s
  · split
    · exact .same (holdWrite_cap ..)
    · exact passWrite_captures _ _ s

theorem takeWrite_captures (w : UpWrite) (mode : TakeMode) (s : State) : CaptureSteps s (takeWrite w mode s) := by
  unfold takeWrite
  split
  · exact .same (queueWrite_cap ..)
  · exact judgeWrite_captures _ _ s

theorem takeLetGo_captures (x : LetGo) (s : State) : CaptureSteps s (takeLetGo x s) := by
  unfold takeLetGo
  exact .ite (.same (queueWrite_cap ..)) (takeWrite_captures ..)

theorem arriveWrite_captures (w : UpWrite) (s : State) : CaptureSteps s (arriveWrite w s) := by
  unfold arriveWrite
  exact .ite (.refl s) (takeWrite_captures w .arrive s)

theorem expireHold_captures (n : Nat) (s : State) : CaptureSteps s (expireHold n s) := by
  unfold expireHold
  split
  · exact .refl s
  · rename_i h _
    have taken : CaptureSteps s (takeWrite h.held .forced (modStream n (fun r => { r with hold := none }) s)) :=
      CaptureSteps.trans (by exact .same rfl) (takeWrite_captures ..)
    have told := taken.trans (issueEvent_logFrame .holdExpired [n, headerSlot s n h.held] _).captures
    exact told.trans (.same rfl)

theorem takePassEvent_captures (e : PassEvent) (s : State) : CaptureSteps s (takePassEvent e s) := by
  cases e with
  | write w => exact arriveWrite_captures w s
  | read r => exact takeRead_captures r s
  | writeResponse tag okay => exact .same (writeAnswered_cap tag okay s)
  | readResponse tag b => exact .same (readAnswered_cap tag b s)

theorem drain_captures (fuel : Nat) (s : State) : CaptureSteps s (drain fuel s) := by
  induction fuel generalizing s with
  | zero => exact .refl s
  | succ fuel ih =>
    unfold drain
    split
    · exact .refl s
    · exact ((CaptureSteps.trans (by exact .same rfl) (takeLetGo_captures _ _)).trans
        (refreshStatus_logFrame _ _).captures).trans (ih _)

theorem settleHolds_captures (fuel : Nat) (s : State) : CaptureSteps s (settleHolds fuel s) := by
  induction fuel generalizing s with
  | zero => exact .refl s
  | succ fuel ih =>
    have settled := ((testSegments_captures s).trans (drain_captures 1024 _)).trans (advanceCapture_captures _)
    unfold settleHolds
    dsimp only
    split
    · exact (settled.trans (.same (endHold_cap ..))).trans (ih _)
    · exact settled

/-- What a command leaves to be done (R11, R159). -/
theorem finish_captures {b s t : State} (h : CaptureSteps s t) : CaptureSteps s (finish b t) :=
  (h.trans (refreshStatus_logFrame b t).captures).trans (settleHolds_captures 256 _)

/-- A command's act, with the status block refreshed. -/
theorem refreshed_captures {b s t : State} (h : CaptureSteps s t) : CaptureSteps s (refreshStatus b t) :=
  h.trans (refreshStatus_logFrame b t).captures

/-! ### Responses to own transactions -/

theorem answerOwn_captures {p : Purpose → Bool} {s s1 : State} {x : OwnTxn} (h : answerOwn p s = some (x, s1)) :
    CaptureSteps s s1 := by
  unfold answerOwn at h
  split at h
  · obtain ⟨-, rfl⟩ := Prod.mk.inj (Option.some.inj h)
    exact .same rfl
  · cases h

theorem ownAnswered_captures {p : Purpose → Bool} {fits : OwnTxn → Bool} {act : OwnTxn → State → State}
    (h : ∀ x s, CaptureSteps s (act x s)) (s : State) : CaptureSteps s (ownAnswered p fits act s) := by
  unfold ownAnswered
  split
  · exact .refl s
  · rename_i x s1 answered
    exact .ite (.ite ((answerOwn_captures answered).trans (h x s1)) (.refl s)) (answerOwn_captures answered)

theorem burstsAnswered_captures {p : Purpose → Bool} {act : List OwnTxn → State → State}
    (h : ∀ txns s, CaptureSteps s (act txns s)) (results : List ReadResult) (s : State) :
    CaptureSteps s (burstsAnswered p results act s) := by
  unfold burstsAnswered
  split
  · exact .refl s
  · exact .ite (CaptureSteps.trans (by exact .same rfl) (h _ (clearOut p s))) (.refl s)

theorem withOrder_captures {k : Nat} {act : List Byte → State → State} (h : ∀ o s, CaptureSteps s (act o s)) (s : State) :
    CaptureSteps s (withOrder k act s) := by
  unfold withOrder
  split
  · exact h _ s
  · exact .refl s

theorem grant_cap (s : State) : (grant s).cap = s.cap := by
  unfold grant
  split
  case h_4 => split <;> rfl
  all_goals rfl

theorem orderAnswered_captures (r : ReadResult) (s : State) : CaptureSteps s (orderAnswered r s) := by
  unfold orderAnswered
  split
  · exact .ite (.same (testNotBefore_cap _)) (.same (issueEvent_cap ..))
  · exact .refl s

theorem takeFenceWrite_captures (s : State) : CaptureSteps s (takeFenceWrite s) := by
  unfold takeFenceWrite
  split
  · exact .ite (.same rfl) (.refl s)
  · exact .refl s

theorem fenceAnswered_captures (okay : Bool) (s : State) : CaptureSteps s (fenceAnswered okay s) := by
  unfold fenceAnswered
  split
  · exact endFence_captures ..
  · exact .refl s

theorem refreshAnswered_captures (r : ReadResult) (s : State) : CaptureSteps s (refreshAnswered r s) := by
  unfold refreshAnswered startRefresh failRefresh
  split
  · exact .ite (.ite (.same rfl) (takeRefresh_captures _ _ s)) (.ite (.same rfl) (.same rfl))
  · exact .refl s

theorem tableAnswered_captures (r : ReadResult) (s : State) : CaptureSteps s (tableAnswered r s) := by
  unfold tableAnswered loadTables
  split
  · exact .ite (.ite (.same rfl) (.same rfl)) (.same rfl)
  · exact .refl s

theorem completionAnswered_captures (okay : Bool) (s : State) : CaptureSteps s (completionAnswered okay s) := by
  unfold completionAnswered headAdvance
  split
  · exact CaptureSteps.trans (.ite (.refl s) (issueEvent_logFrame ..).captures) (.same rfl)
  · exact .refl s

theorem reportBurst_captures (s : State) (okay : Bool) : CaptureSteps s (reportBurst s okay) := by
  have failed (addr : Nat) (s : State) : CaptureSteps s (failReport addr s) := by
    unfold failReport
    split
    · exact .same rfl
    all_goals exact .refl s
  have ended (s : State) : CaptureSteps s (reportEnded s) := by
    unfold reportEnded
    refine .ite (.refl s) ?_
    split
    · exact .refl s
    · exact .same (endReport_cap _)
    · exact .same ((endReport_cap _).trans (issueEvent_cap ..))
  unfold reportBurst
  split
  · exact .refl s
  · exact CaptureSteps.trans (.ite (by exact .same rfl) (CaptureSteps.trans (by exact .same rfl) (failed _ _))) (ended _)

theorem logAnswered_captures (okays : List Bool) (s : State) : CaptureSteps s (logAnswered okays s) := by
  have waiting (s : State) : CaptureSteps s (takeWaitingRefresh s) := by
    unfold takeWaitingRefresh
    split
    · exact takeRefresh_captures _ _ s
    · exact .refl s
  unfold logAnswered
  split
  · exact .same rfl
  · refine .ite (.refl s) ?_
    unfold groupAnswered
    have taken : CaptureSteps s (clearOut (· == .log) { s with writer := { s.writer with inFlight := none } }) := .same rfl
    exact ((taken.trans (.ite (groupWritten_logFrame _ _).captures (loseRecords_logFrame _ _).captures)).trans
      (waiting _)).trans (pumpLog_logFrame _).captures

theorem statusAnswered_captures (s : State) : CaptureSteps s (statusAnswered s) := by
  have counted : CaptureSteps s (countStatus { s with writer := { s.writer with statusOut := false } }) := by
    unfold countStatus
    split <;> exact .same rfl
  unfold statusAnswered
  exact .ite (counted.trans (.same rfl)) counted

theorem sealAnswered_captures (j plate seq : Nat) (okay : Bool) (s : State) :
    CaptureSteps s (sealAnswered j plate seq okay s) := by
  have sealed (p : Plate) (s : State) : CaptureSteps s (sealPlate j okay p s) := by
    unfold sealPlate
    exact .ite (.ite (.same (issueEvent_cap ..)) (.same rfl)) (.same (issueEvent_cap ..))
  unfold sealAnswered
  refine CaptureSteps.trans (CaptureSteps.trans ?_ (.same (pumpSeals_cap _))) (plateChanged_captures _)
  dsimp only
  split
  · exact .ite (.same rfl) (.same (issueEvent_cap ..))
  · split
    · exact .ite (CaptureSteps.trans (by exact .same rfl) (sealed _ _)) (.same rfl)
    · exact .same rfl

theorem ticketAnswered_captures (okay : Bool) (x : OwnTxn) (s : State) : CaptureSteps s (ticketAnswered okay x s) := by
  unfold ticketAnswered
  split
  · exact sealAnswered_captures ..
  · rename_i slot seq _ _ _
    refine CaptureSteps.trans (CaptureSteps.trans ?_ (.same (pumpSeals_cap _))) (examineIfChanged_captures _ _)
    have told : CaptureSteps s (if okay = true
        then modSlot slot (fun r => { r with write := .none, noted := r.noted && r.nullPending.isSome }) s
        else issueEvent .nullWriteFailed [slot, seq]
          (modSlot slot (fun r => { r with write := .none, noted := r.noted && r.nullPending.isSome }) s)) :=
      .ite (.same rfl) (.same (issueEvent_cap ..))
    split
    · exact told.trans (.same rfl)
    · exact told
  · exact .refl s

theorem ownTicketAnswered_captures (p : Purpose → Bool) (okay : Bool) (s : State) :
    CaptureSteps s (ownTicketAnswered p okay s) := by
  unfold ownTicketAnswered
  split
  · rename_i x s1 answered
    exact .ite ((answerOwn_captures answered).trans (ticketAnswered_captures okay x s1)) (answerOwn_captures answered)
  · exact .refl s

/-! ### The commands -/

/-- What a command does to the capture slots: a pin reset leaves the reset's, every other goes by the three acts. -/
theorem exec_captures (c : Instr) (s : State) :
    ∃ t, exec c s = .next t ∧ (t = pinResetState s ∨ CaptureSteps s t) := by
  cases c with
  | pinReset => exact ⟨_, exec_pinReset s, .inl rfl⟩
  | forwardCount =>
    refine ⟨_, rfl, .inr (refreshed_captures (.ite ?_ (.same rfl)))⟩
    exact ((CaptureSteps.trans (by exact .same rfl) (evaluate_captures _)).trans (examineIfChanged_captures _ _)).trans
      (takeMisses_captures _)
  | reverseCount =>
    obtain ⟨t, ht, f⟩ := exec_reverseCount_logFrame s
    exact ⟨t, ht, .inr (.same f.cap)⟩
  | invalidTransition =>
    obtain ⟨t, ht, f⟩ := exec_invalidTransition_logFrame s
    exact ⟨t, ht, .inr (.same f.cap)⟩
  | headerWrite w | continuationWrite w | guardWrite w | statusWrite w | statusBlockGuard w | enable w | disable w
  | logClear w | orderRingSet w | orderTail w | logRead w | noticeEnable w | noticeAck w | captureRelease w
  | anchorWrite w => exact ⟨_, rfl, .inr (finish_captures (arriveWrite_captures w s))⟩
  | completingWriteResponse tag okay => exact ⟨_, rfl, .inr (finish_captures (.same (writeAnswered_cap tag okay s)))⟩
  | holdExpired n => exact ⟨_, rfl, .inr (.ite (finish_captures (expireHold_captures n s)) (.refl s))⟩
  | lineTimeout n => exact ⟨_, rfl, .inr (.ite (finish_captures (.same (timeOutFill_cap n s))) (.refl s))⟩
  | streamLapsed n => exact ⟨_, rfl, .inr (.ite (finish_captures (.same (issueEvent_cap ..))) (.refl s))⟩
  | seedFetchDone n bs =>
    refine ⟨_, rfl, .inr (finish_captures ?_)⟩
    split
    · exact burstsAnswered_captures (fun _ s => .same (endSeed_cap _ _ _ s)) bs s
    · exact .same rfl
  | lineAssembly | assemblyTimeout =>
    exact ⟨_, rfl, .inr (.ite (refreshed_captures (.same (assembleLine_cap s))) (.refl s))⟩
  | pixelFetchDone r =>
    refine ⟨_, rfl, .inr (finish_captures ?_)⟩
    split
    · exact burstsAnswered_captures (fun txns s => analyseLine_captures r.early _ txns r.bursts s) r.bursts s
    · exact .same rfl
  | forcingReached =>
    exact ⟨_, rfl, .inr (.ite (refreshed_captures ((evaluate_captures s).trans (examineIfChanged_captures _ _))) (.refl s))⟩
  | starved => exact ⟨_, rfl, .inr (.ite (refreshed_captures (evaluate_captures s)) (.refl s))⟩
  | sealFailedCutPoint => exact ⟨_, rfl, .inr (.ite (refreshed_captures (plateChanged_captures s)) (.refl s))⟩
  | sealWriteResponse slot okay | nullWriteResponse slot okay =>
    exact ⟨_, rfl, .inr (refreshed_captures (ownTicketAnswered_captures _ okay s))⟩
  | ticketRead r => exact ⟨_, rfl, .inr (refreshed_captures (takeRead_captures r s))⟩
  | cutMissed n => exact ⟨_, rfl, .inr (refreshed_captures (missPlate_captures s n))⟩
  | passThrough e => exact ⟨_, rfl, .inr (finish_captures (takePassEvent_captures e s))⟩
  | arbiterGrant => exact ⟨_, rfl, .inr (.same (grant_cap s))⟩
  | orderFetch => exact ⟨_, rfl, .inr (.ite (refreshed_captures (.same rfl)) (.refl s))⟩
  | orderFetchDone r =>
    exact ⟨_, rfl, .inr (refreshed_captures (ownAnswered_captures (fun _ => orderAnswered_captures r) s))⟩
  | nop => exact ⟨_, rfl, .inr (refreshed_captures (withOrder_captures (fun _ s => .same (t := complete .done s) rfl) s))⟩
  | badOrder => exact ⟨_, rfl, .inr (refreshed_captures (.ite (.same rfl) (.refl s)))⟩
  | fence => exact ⟨_, rfl, .inr (refreshed_captures (withOrder_captures takeFence_captures s))⟩
  | fenceWrite => exact ⟨_, rfl, .inr (refreshed_captures (takeFenceWrite_captures s))⟩
  | fenceWriteResponse okay =>
    exact ⟨_, rfl, .inr (refreshed_captures (ownAnswered_captures (fun _ => fenceAnswered_captures okay) s))⟩
  | refresh => exact ⟨_, rfl, .inr (refreshed_captures (withOrder_captures takeRefreshOrder_captures s))⟩
  | refreshFetchDone r =>
    exact ⟨_, rfl, .inr (refreshed_captures (ownAnswered_captures (fun _ => refreshAnswered_captures r) s))⟩
  | streamStart => exact ⟨_, rfl, .inr (refreshed_captures (withOrder_captures takeStreamStart_captures s))⟩
  | streamStop => exact ⟨_, rfl, .inr (finish_captures (withOrder_captures takeStreamStop_captures s))⟩
  | profileLoad | laneAssign | laneRelease =>
    exact ⟨_, rfl, .inr (refreshed_captures (withOrder_captures handLaneOrder_captures s))⟩
  | tableLoad => exact ⟨_, rfl, .inr (refreshed_captures (withOrder_captures takeTableLoad_captures s))⟩
  | tableLoadFetchDone r =>
    exact ⟨_, rfl, .inr (refreshed_captures (ownAnswered_captures (fun _ => tableAnswered_captures r) s))⟩
  | planSet => exact ⟨_, rfl, .inr (refreshed_captures (withOrder_captures takePlanSet_captures s))⟩
  | cutRequest => exact ⟨_, rfl, .inr (refreshed_captures (withOrder_captures takeCutRequest_captures s))⟩
  | restart =>
    exact ⟨_, rfl, .inr (withOrder_captures
      (fun _ s => (refreshed_captures (takeRestart_captures s)).trans (decideAfterRestart_captures _)) s)⟩
  | shiftClose => exact ⟨_, rfl, .inr (refreshed_captures (withOrder_captures takeShiftOrder_captures s))⟩
  | completionWriteResponse okay =>
    exact ⟨_, rfl, .inr (refreshed_captures (ownAnswered_captures (fun _ => completionAnswered_captures okay) s))⟩
  | reportWriteResponse okays =>
    exact ⟨_, rfl, .inr (refreshed_captures (.ite (.same rfl) (.foldl reportBurst_captures okays s)))⟩
  | captureSegmentReadDone n bs =>
    refine ⟨_, rfl, .inr (finish_captures ?_)⟩
    split
    · exact burstsAnswered_captures (fun _ => segmentAnswered_captures _ _ _ bs) bs s
    · exact .same rfl
  | captureRowWriteDone okay => exact ⟨_, rfl, .inr (finish_captures (ownAnswered_captures (rowAnswered_captures okay) s))⟩
  | captureHeaderWriteDone okay =>
    exact ⟨_, rfl, .inr (finish_captures (ownAnswered_captures (headerAnswered_captures okay) s))⟩
  | logWriteResponse okays => exact ⟨_, rfl, .inr (refreshed_captures (logAnswered_captures okays s))⟩
  | statusBlockWriteResponse okay =>
    exact ⟨_, rfl, .inr (refreshed_captures (ownAnswered_captures (fun _ => statusAnswered_captures) s))⟩

end Sys2Proof.Machine
end

section
/-! SUPPORT. The capture slots' invariant (R155), selection (R156), the window and the capture streams (R157), and what the
beginning of a capture pins (R158). -/

namespace Sys2Proof.Machine

/-! ### Selection and the window (R156, R157) -/

/-- A capture is given the lowest FREE slot, if entry 10 is valid and no slot is FILLING (R156). -/
theorem captureSlotFor_eq_some_iff {s : State} {k : Nat} : captureSlotFor s = some k ↔
    s.window.capture.valid = true ∧ .filling ∉ s.cap.slots ∧ s.cap.slots[k]? = some .free ∧
      ∀ i < k, s.cap.slots[i]? ≠ some .free := by
  have lowest : s.cap.slots.findIdx? (· == .free) = some k ↔
      s.cap.slots[k]? = some .free ∧ ∀ i < k, s.cap.slots[i]? ≠ some .free := by
    rw [List.findIdx?_eq_some_iff_getElem]
    constructor
    · rintro ⟨inside, free, before⟩
      refine ⟨by simpa [List.getElem?_eq_getElem inside] using free, fun i hi => ?_⟩
      simpa [List.getElem?_eq_getElem (hi.trans inside)] using before i hi
    · rintro ⟨free, before⟩
      obtain ⟨inside, at_k⟩ := List.getElem?_eq_some_iff.mp free
      refine ⟨inside, by simp [at_k], fun i hi => ?_⟩
      simpa [List.getElem?_eq_getElem (hi.trans inside)] using before i hi
  unfold captureSlotFor
  split
  · rename_i open_
    simp only [Bool.and_eq_true, Bool.not_eq_true', List.contains_eq_mem, decide_eq_false_iff_not] at open_
    simp [lowest, open_]
  · rename_i closed
    simp only [Bool.and_eq_true, Bool.not_eq_true', List.contains_eq_mem, decide_eq_false_iff_not] at closed
    exact ⟨nofun, fun ⟨valid, idle, _⟩ => absurd ⟨valid, idle⟩ closed⟩

/-- The window is centred on the hull and kept within the columns (R157). -/
theorem windowFirst_spec (c0 c1 : Nat) : ((c0 + c1) / 2 ≤ 128 → windowFirst c0 c1 = 0) ∧
    (128 ≤ (c0 + c1) / 2 → (c0 + c1) / 2 ≤ 16256 → windowFirst c0 c1 + 128 = (c0 + c1) / 2) ∧
    (16256 ≤ (c0 + c1) / 2 → windowFirst c0 c1 = 16128) := by
  unfold windowFirst
  omega

section
variable (s : State) (x0 n : Nat)

/-- A stream in service has a column in the window (R157). -/
def MeetsWindow : Prop :=
  (stream s n).state ≠ .off ∧ max x0 (spanFirst (streamWindow s n)) ≤ min (x0 + 255) (spanLast (streamWindow s n))

/-- The capture stream that a stream makes, none of its lines handled (R157). -/
def freshStream : CapStream :=
  { stream := n, first := max x0 (spanFirst (streamWindow s n)), last := min (x0 + 255) (spanLast (streamWindow s n))
    stagger := (streamWindow s n).stagger, winStart := (streamWindow s n).winStart
    colBase := (streamWindow s n).colBase, next := 0, reading := none, segments := []
    gone := List.replicate 256 false }

end

theorem capStream_eq_some_iff {s : State} {x0 n : Nat} {cs : CapStream} :
    capStream s x0 n = some cs ↔ MeetsWindow s x0 n ∧ cs = freshStream s x0 n := by
  unfold capStream
  dsimp only
  split
  · rename_i apart
    simp only [Bool.or_eq_true, decide_eq_true_eq] at apart
    refine ⟨nofun, fun ⟨⟨inService, shares⟩, _⟩ => ?_⟩
    exact apart.elim (absurd · inService) (absurd shares ∘ Nat.not_le.mpr)
  · rename_i meets
    simp only [Bool.or_eq_true, decide_eq_true_eq, not_or, Nat.not_lt] at meets
    exact ⟨fun h => ⟨meets, (Option.some.inj h).symm⟩, fun ⟨_, h⟩ => congrArg some h.symm⟩

/-! ### The copy set up (R156 to R158) -/

/-- The active copy that a flaw's capture begins with. -/
def freshCopy (s : State) (k flaw c0 c1 y0 : Nat) : Copy :=
  { slot := k, flaw := flaw, x0 := windowFirst c0 c1, yw := (y0 : Int) - 8
    streams := (List.range 8).filterMap (capStream s (windowFirst c0 c1))
    missing := List.replicate 256 false, nextRow := 0, rowsOut := 0, headerOut := false }

theorem freshCopy_slot (s : State) (k flaw c0 c1 y0 : Nat) : (freshCopy s k flaw c0 c1 y0).slot = k := rfl

/-- Pins what the copy needs of these streams' slots. -/
def pinStreams (c : Copy) (l : List CapStream) (s : State) : State := l.foldl (fun s cs => pinDirectory c cs s) s

theorem pinStreams_eq_with (c : Copy) (l : List CapStream) (s : State) :
    pinStreams c l s = { s with streams := (pinStreams c l s).streams } := by
  induction l generalizing s with
  | nil => rfl
  | cons cs l ih => exact ih (pinDirectory c cs s)

theorem startCopy_eq (k flaw c0 c1 y0 : Nat) (s : State) : startCopy k flaw c0 c1 y0 s =
    pinStreams (freshCopy s k flaw c0 c1 y0) (freshCopy s k flaw c0 c1 y0).streams
      { s with cap := { slots := s.cap.slots.set k .filling, copy := some (freshCopy s k flaw c0 c1 y0) } } := rfl

theorem startCopy_cap (k flaw c0 c1 y0 : Nat) (s : State) : (startCopy k flaw c0 c1 y0 s).cap =
    { slots := s.cap.slots.set k .filling, copy := some (freshCopy s k flaw c0 c1 y0) } := by
  rw [startCopy_eq, pinStreams_eq_with]

/-- A capture that begins changes the capture slots, the copy and the streams' pins alone. -/
theorem startCopy_eq_with (k flaw c0 c1 y0 : Nat) (s : State) : startCopy k flaw c0 c1 y0 s =
    { s with cap := (startCopy k flaw c0 c1 y0 s).cap, streams := (startCopy k flaw c0 c1 y0 s).streams } := by
  rw [startCopy_cap, startCopy_eq]
  exact pinStreams_eq_with ..

theorem mem_freshCopy_streams {s : State} {k flaw c0 c1 y0 : Nat} {cs : CapStream} :
    cs ∈ (freshCopy s k flaw c0 c1 y0).streams ↔
      ∃ n < 8, MeetsWindow s (windowFirst c0 c1) n ∧ cs = freshStream s (windowFirst c0 c1) n := by
  change cs ∈ (List.range 8).filterMap (capStream s (windowFirst c0 c1)) ↔ _
  simp [capStream_eq_some_iff]

/-! ### Pins (R158) -/

/-- A slot FILLING, READY or DONE whose stamp a capture stream needs. -/
def needsPin (c : Copy) (cs : CapStream) (e : DirEntry) : Bool :=
  (e.state == .filling || e.state == .ready || e.state == .done) && e.stamp.any (neededLine c cs)

/-- A directory entry with its pin set if a capture stream needs its slot. -/
def pinnedEntry (c : Copy) (cs : CapStream) (e : DirEntry) : DirEntry :=
  if needsPin c cs e then { e with pin := true } else e

theorem pinDirectory_eq (c : Copy) (cs : CapStream) (s : State) : pinDirectory c cs s =
    modStream cs.stream (fun r => { r with dir := r.dir.map (pinnedEntry c cs) }) s := by
  refine congrArg (modStream cs.stream · s) (funext fun r => ?_)
  refine congrArg (fun d => { r with dir := d }) (List.map_congr_left fun e _ => ?_)
  obtain ⟨stamp, pixels, state, pin, awaiting, failed⟩ := e
  cases stamp <;> cases state <;> rfl

/-- The directory of another stream keeps its pins. -/
theorem dirEntry_pinDirectory_of_ne {n : Nat} {cs : CapStream} (h : cs.stream ≠ n) (c : Copy) (s : State) (j : Nat) :
    dirEntry (pinDirectory c cs s) n j = dirEntry s n j := by
  rw [pinDirectory_eq, dirEntry, stream_modStream_of_ne _ s (Ne.symm h), dirEntry]

theorem dirEntry_pinDirectory_self (c : Copy) (cs : CapStream) (s : State) (j : Nat) :
    dirEntry (pinDirectory c cs s) cs.stream j = pinnedEntry c cs (dirEntry s cs.stream j) := by
  rw [pinDirectory_eq]
  exact dirEntry_mapDir rfl ..

/-- A stream that is none of these keeps its pins. -/
theorem dirEntry_pinStreams_of_notMem {n : Nat} {l : List CapStream} (h : ∀ cs ∈ l, cs.stream ≠ n) (c : Copy) (s : State)
    (j : Nat) : dirEntry (pinStreams c l s) n j = dirEntry s n j := by
  induction l generalizing s with
  | nil => rfl
  | cons cs l ih =>
    obtain ⟨first, rest⟩ := List.forall_mem_cons.mp h
    exact (ih rest _).trans (dirEntry_pinDirectory_of_ne first c s j)

/-- Of several streams' slots, each stream's are pinned as it needs them. -/
theorem dirEntry_pinStreams_of_mem {pre post : List CapStream} {cs : CapStream}
    (before : ∀ ds ∈ pre, ds.stream ≠ cs.stream) (after : ∀ ds ∈ post, ds.stream ≠ cs.stream) (c : Copy) (s : State) (j : Nat) :
    dirEntry (pinStreams c (pre ++ cs :: post) s) cs.stream j =
      pinnedEntry c cs (dirEntry s cs.stream j) := by
  have split : pinStreams c (pre ++ cs :: post) s = pinStreams c post (pinDirectory c cs (pinStreams c pre s)) := by
    simp [pinStreams]
  rw [split, dirEntry_pinStreams_of_notMem after, dirEntry_pinDirectory_self, dirEntry_pinStreams_of_notMem before]

/-- The capture streams made of these streams, in their order. -/
theorem capStreams_stream {s : State} {x0 : Nat} {ns : List Nat} {cs : CapStream}
    (h : cs ∈ ns.filterMap (capStream s x0)) : cs.stream ∈ ns ∧ MeetsWindow s x0 cs.stream := by
  obtain ⟨n, listed, made⟩ := List.mem_filterMap.mp h
  obtain ⟨meets, rfl⟩ := capStream_eq_some_iff.mp made
  exact ⟨listed, meets⟩

section
variable {s : State} {k flaw c0 c1 y0 n : Nat}

/-- A stream without a column in the window keeps its pins. -/
theorem dirEntry_startCopy_of_apart (apart : ¬ MeetsWindow s (windowFirst c0 c1) n) (j : Nat) :
    dirEntry (startCopy k flaw c0 c1 y0 s) n j = dirEntry s n j := by
  rw [startCopy_eq]
  refine dirEntry_pinStreams_of_notMem (fun cs hcs same => apart ?_) _ _ j
  obtain ⟨-, meets⟩ := capStreams_stream hcs
  exact same ▸ meets

/-- A capture stream's slots are pinned as the copy needs them. -/
theorem dirEntry_startCopy_of_meets (hn : n < 8) (meets : MeetsWindow s (windowFirst c0 c1) n) (j : Nat) :
    dirEntry (startCopy k flaw c0 c1 y0 s) n j =
      pinnedEntry (freshCopy s k flaw c0 c1 y0) (freshStream s (windowFirst c0 c1) n) (dirEntry s n j) := by
  obtain ⟨pre, post, eight⟩ := List.append_of_mem (List.mem_range.mpr hn)
  have once : (pre ++ n :: post).Nodup := eight ▸ List.nodup_range
  rw [List.nodup_middle, List.nodup_cons, List.mem_append, not_or] at once
  obtain ⟨⟨notBefore, notAfter⟩, -⟩ := once
  have made := capStream_eq_some_iff.mpr ⟨meets, rfl⟩
  have streams : (freshCopy s k flaw c0 c1 y0).streams = pre.filterMap (capStream s (windowFirst c0 c1)) ++
      freshStream s (windowFirst c0 c1) n :: post.filterMap (capStream s (windowFirst c0 c1)) := by
    change (List.range 8).filterMap _ = _
    rw [eight, List.filterMap_append, List.filterMap_cons_some made]
  rw [startCopy_eq, streams]
  refine dirEntry_pinStreams_of_mem (cs := freshStream s (windowFirst c0 c1) n) (fun ds hds same => notBefore ?_)
    (fun ds hds same => notAfter ?_) _ _ j
  all_goals
    obtain ⟨listed, -⟩ := capStreams_stream hds
    rwa [same] at listed

/-- A capture that begins needs the slots whose lines lie in its window (R157, R158). -/
theorem needsPin_fresh_iff {e : DirEntry} :
    needsPin (freshCopy s k flaw c0 c1 y0) (freshStream s (windowFirst c0 c1) n) e = true ↔
      (e.state = .filling ∨ e.state = .ready ∨ e.state = .done) ∧ ∃ x, e.stamp = some x ∧
        y0 + (streamWindow s n).stagger ≤ x + 8 ∧ x ≤ y0 + (streamWindow s n).stagger + 247 := by
  have window (x : Nat) : neededLine (freshCopy s k flaw c0 c1 y0) (freshStream s (windowFirst c0 c1) n) x = true ↔
      y0 + (streamWindow s n).stagger ≤ x + 8 ∧ x ≤ y0 + (streamWindow s n).stagger + 247 := by
    have available (i : Nat) : (List.replicate 256 false).getD i false = false :=
      List.getElem?_getD_replicate_default_eq ..
    simp only [neededLine, freshCopy, freshStream, available]
    simp
    omega
  simp [needsPin, Option.any_eq_true, window, or_assoc]

end

/-! ### The invariant (R155) -/

/-- The invariant speaks of the slots and of the active copy's slot. -/
theorem CaptureInv.congr {s t : State} (i : CaptureInv s) (slots : t.cap.slots = s.cap.slots)
    (copy : t.cap.copy.map (·.slot) = s.cap.copy.map (·.slot)) : CaptureInv t := by
  unfold CaptureInv at i ⊢
  rw [slots]
  cases before : s.cap.copy with
  | none =>
    obtain none : t.cap.copy = none := by simpa [before] using copy
    simpa [before, none] using i
  | some c =>
    obtain ⟨d, some, same⟩ : ∃ d, t.cap.copy = some d ∧ d.slot = c.slot := by simpa [before] using copy
    simpa [before, some, same] using i

/-- With no slot FILLING, none is FILLING once a capture begins in a FREE slot but that one (R156). -/
theorem startCopy_captureInv {s : State} {k : Nat} (slot : captureSlotFor s = some k) (flaw c0 c1 y0 : Nat) :
    CaptureInv (startCopy k flaw c0 c1 y0 s) := by
  obtain ⟨-, idle, free, -⟩ := captureSlotFor_eq_some_iff.mp slot
  obtain ⟨inside, at_k⟩ := List.getElem?_eq_some_iff.mp free
  have none_filling := List.count_eq_zero_of_not_mem idle
  simp only [CaptureInv, startCopy_cap, freshCopy_slot]
  simp [inside, List.count_set inside, at_k, none_filling]

/-- The end of the active copy leaves no slot FILLING (R161, R163). -/
theorem CaptureInv.ended {s t : State} {c : Copy} {x : CapState} (i : CaptureInv s) (active : s.cap.copy = some c)
    (other : x ≠ .filling)
    (cap : t.cap = { slots := s.cap.slots.set c.slot x, copy := none }) : CaptureInv t := by
  simp only [CaptureInv, active] at i
  obtain ⟨filling, one⟩ := i
  obtain ⟨inside, at_slot⟩ := List.getElem?_eq_some_iff.mp filling
  simp only [CaptureInv, cap]
  simp [List.count_set inside, at_slot, one, other]

/-- Entries changed to and from others than `a` leave its count. -/
theorem count_mapIdx_of_iff {α : Type} [BEq α] [LawfulBEq α] {a : α} {f : Nat → α → α} (h : ∀ i x, f i x = a ↔ x = a)
    (l : List α) : (l.mapIdx f).count a = l.count a := by
  induction l generalizing f with
  | nil => rfl
  | cons x l ih =>
    have head : (f 0 x == a) = (x == a) := by rw [Bool.eq_iff_iff, beq_iff_eq, beq_iff_eq, h]
    rw [List.mapIdx_cons, List.count_cons, List.count_cons, ih fun i => h (i + 1), head]

/-- A release takes no FILLING slot and makes none (R162). -/
theorem releaseCaptures_captureInv (mask : BitVec 8) {s : State} (i : CaptureInv s) : CaptureInv (releaseCaptures mask s) := by
  have filling (k : Nat) (c : CapState) :
      (if mask.getLsbD k && decide (k < 4) && c == .locked then .free else c) = CapState.filling ↔ c = .filling := by
    split
    · rename_i release
      simp only [Bool.and_eq_true, beq_iff_eq] at release
      simp [release]
    · rfl
  have count := count_mapIdx_of_iff filling s.cap.slots
  cases active : s.cap.copy with
  | none =>
    simp only [CaptureInv, releaseCaptures, active] at i ⊢
    exact count.trans i
  | some c =>
    simp only [CaptureInv, releaseCaptures, active] at i ⊢
    obtain ⟨at_slot, one⟩ := i
    refine ⟨?_, count.trans one⟩
    rw [List.getElem?_mapIdx, at_slot]
    exact congrArg some ((filling _ _).mpr rfl)

theorem CaptureSteps.inv {s t : State} (k : CaptureSteps s t) : CaptureInv s → CaptureInv t := by
  induction k with
  | kept slots copy => exact fun i => i.congr slots copy
  | trans _ _ ih ih' => exact ih' ∘ ih
  | begun slot flaw c0 c1 y0 => exact fun _ => startCopy_captureInv slot flaw c0 c1 y0
  | ended active other cap => exact fun i => i.ended active other cap
  | released mask s => exact releaseCaptures_captureInv mask

theorem exec_captureInv (c : Instr) {s : State} (i : CaptureInv s) : ∃ t, exec c s = .next t ∧ CaptureInv t := by
  obtain ⟨t, ht, rfl | steps⟩ := exec_captures c s
  · exact ⟨_, ht, rfl⟩
  · exact ⟨t, ht, steps.inv i⟩

end Sys2Proof.Machine

open Sys2Proof Sys2Proof.Machine

/-- Settles O56: each command goes by acts that keep the invariant; then selection, the window, the copy and the pins. -/
theorem captureKept : Obligations.CaptureKept := by
  unfold Obligations.CaptureKept
  refine ⟨fun s t => step_keeps (fun i _ => i) exec_captureInv, fun s k => captureSlotFor_eq_some_iff, windowFirst_spec,
    fun s k flaw c0 c1 y0 => ?_⟩
  intro x0 meets t
  have cap : t.cap = _ := startCopy_cap k flaw c0 c1 y0 s
  refine ⟨startCopy_eq_with k flaw c0 c1 y0 s, congrArg Capture.slots cap,
    ⟨freshCopy s k flaw c0 c1 y0, congrArg Capture.copy cap, rfl, rfl, rfl, rfl, rfl, rfl, rfl, rfl,
      fun cs => mem_freshCopy_streams⟩, fun n hn j _ => ?_⟩
  intro e needed
  have at_j : meets n → dirEntry t n j = if needsPin (freshCopy s k flaw c0 c1 y0) (freshStream s x0 n) e
      then { e with pin := true } else e := fun h => dirEntry_startCopy_of_meets hn h j
  refine ⟨fun ⟨h, slot⟩ => (at_j h).trans (if_pos (needsPin_fresh_iff.mpr slot)), fun unneeded => ?_⟩
  by_cases h : meets n
  · exact (at_j h).trans (if_neg fun pin => unneeded ⟨h, needsPin_fresh_iff.mp pin⟩)
  · exact dirEntry_startCopy_of_apart h j
end

section
/-! SUPPORT. Writes to one control field of the anchor page (R174): what the field's latch becomes, and the acts of LOG_READ,
NOTICE_ACK and CAPTURE_RELEASE (R162, R183, R185). -/

namespace Sys2Proof.Machine

/-! ### Latches -/

/-- A little-endian number's byte. -/
theorem leNat_div_mod {bytes : List Byte} {i : Nat} (h : i < bytes.length) : leNat bytes / 256 ^ i % 256 = bytes[i].toNat := by
  induction bytes generalizing i with
  | nil => exact absurd h (Nat.not_lt_zero i)
  | cons b bytes ih =>
    have byte : b.toNat < 256 := b.isLt
    cases i with
    | zero =>
      rw [leNat, Nat.pow_zero, Nat.div_one, List.getElem_cons_zero]
      omega
    | succ i =>
      have rest : (b.toNat + 256 * leNat bytes) / 256 = leNat bytes := by omega
      rw [leNat, Nat.pow_succ', ← Nat.div_div_eq_div_mul, rest, List.getElem_cons_succ]
      exact ih (Nat.lt_of_succ_lt_succ h)

/-- A latch takes the strobed bytes of the write, and keeps its other bytes (R174). -/
theorem latched_div_mod (w : UpWrite) (addr : Nat) {size i : Nat} (old : Nat) (h : i < size) :
    latched w addr size old / 256 ^ i % 256 = match byteFor w (addr + i) with
      | some b => b.toNat
      | none => old / 256 ^ i % 256 := by
  rw [latched, leNat_div_mod (by simpa using h)]
  simp only [List.getElem_map, List.getElem_range]
  cases byteFor w (addr + i) with
  | none => exact BitVec.toNat_ofNat ..
  | some b => rfl

/-! ### A write to one control field -/

/-- A write strobes bytes of the control field at an offset, and of no other. -/
def StrobesField (s : State) (w : UpWrite) (off : Nat) : Prop :=
  ∀ f ∈ controlFields, strobedIn w (anchorBase s + f.1) f.2 = decide (f.1 = off)

section
variable {s : State} {w : UpWrite} {off : Nat}

theorem FieldWrite.strobes (h : FieldWrite s w off) (x : PassTxn) : StrobesField (forwardPass x s) w off := by
  obtain ⟨-, -, -, -, fields⟩ := h
  exact fields

/-- Of the control fields the one that is written acts, and no other. -/
theorem actOn_field (h : StrobesField s w off) {o size : Nat} (field : (o, size) ∈ controlFields)
    (old : Nat) (act : Nat → State → State) (t : State) :
    actOn (fieldWritten s w o size old) act t =
      if o = off then act (latched w (anchorBase s + o) size old) t else t := by
  have strobed : strobedIn w (anchorBase s + o) size = decide (o = off) := h (o, size) field
  simp only [fieldWritten, strobed, decide_eq_true_eq]
  split <;> rfl

/-- In a quiet state a write to a control field goes to the arbiter, and the field acts. -/
theorem arriveWrite_of_field (hq : Quiet s) (hw : FieldWrite s w off) :
    arriveWrite w s = latchAnchor w (forwardPass (.write w []) s) := by
  obtain ⟨hh, -, ht⟩ := hq
  obtain ⟨body, status, untracked, tag, -⟩ := hw
  rw [arriveWrite_of_free hh ht, judgeWrite, body, status]
  simp only [heldBy_of_untracked untracked]
  have passed : passWrite w true s = latchAnchor w (takeStatus w (forwardPass (.write w []) s)) := by
    unfold passWrite
    rw [untracked]
  refine passed.trans ?_
  rw [takeStatus_of_other_tag (s := forwardPass (.write w []) s) tag]

/-- A command whose write acts on one field ends with the status block refreshed. -/
theorem finish_of_field {t : State} (hq : Quiet s) (hw : FieldWrite s w off)
    (act : latchAnchor w (forwardPass (.write w []) s) = t) (quiet : Quiet t) :
    finish s (arriveWrite w s) = refreshStatus s t := by
  rw [arriveWrite_of_field hq hw, act, finish_of_quiet quiet]

/-- The write gone on to memory, with other latches and another read index. -/
def latchedState (w : UpWrite) (a : Anchor) (read : Nat) (s : State) : State :=
  { forwardPass (.write w []) s with anchor := a, writer := { s.writer with readIndex := read } }

theorem statusFields_latchedState (w : UpWrite) {a : Anchor} (control : a.control = s.anchor.control) (read : Nat) :
    statusFields (latchedState w a read s) = statusFields s := by
  have same : enabled (latchedState w a read s) = enabled s := congrArg (·.getLsbD 0) control
  simp only [statusFields, enabledCode, same]
  rfl

/-- A command whose write changes latches other than CONTROL, or the read index, ends there: no field of the status block
changes. -/
theorem finish_of_latched {a : Anchor} {read : Nat} (hq : Quiet s) (hw : FieldWrite s w off)
    (act : latchAnchor w (forwardPass (.write w []) s) = latchedState w a read s) (control : a.control = s.anchor.control) :
    finish s (arriveWrite w s) = latchedState w a read s := by
  have quiet : Quiet (latchedState w a read s) := hq
  rw [finish_of_field hq hw act quiet, refreshStatus_of_eq (statusFields_latchedState w control read)]

end

section
variable {s : State} {w : UpWrite}

theorem latchAnchor_of_tablePtr (h : StrobesField s w 0x18) : latchAnchor w s =
    writeTablePtr (latched w (anchorBase s + 0x18) 8 s.anchor.tablePtr.toNat) s := by
  simp (disch := decide) only [latchAnchor, actOn_field h, if_pos, if_neg]

theorem latchAnchor_of_logRead (h : StrobesField s w 0x20) : latchAnchor w s =
    writeLogRead (latched w (anchorBase s + 0x20) 4 s.anchor.logRead.toNat) s := by
  simp (disch := decide) only [latchAnchor, actOn_field h, if_pos, if_neg]

theorem latchAnchor_of_highWater (h : StrobesField s w 0x24) : latchAnchor w s =
    writeHighWater (latched w (anchorBase s + 0x24) 4 s.anchor.logHighWater.toNat) s := by
  simp (disch := decide) only [latchAnchor, actOn_field h, if_pos, if_neg]

theorem latchAnchor_of_noticeEnable (h : StrobesField s w 0x28) : latchAnchor w s =
    writeNoticeEnable (latched w (anchorBase s + 0x28) 1 s.anchor.noticeEnable.toNat) s := by
  simp (disch := decide) only [latchAnchor, actOn_field h, if_pos, if_neg]

theorem latchAnchor_of_noticeAck (h : StrobesField s w 0x2C) : latchAnchor w s =
    writeNoticeAck (latched w (anchorBase s + 0x2C) 1 s.anchor.noticeAck.toNat) s := by
  simp (disch := decide) only [latchAnchor, actOn_field h, if_pos, if_neg]

theorem latchAnchor_of_captureRelease (h : StrobesField s w 0x30) : latchAnchor w s =
    writeCaptureRelease (latched w (anchorBase s + 0x30) 1 s.anchor.captureRelease.toNat) s := by
  simp (disch := decide) only [latchAnchor, actOn_field h, if_pos, if_neg]

/-! ### LOG_READ, NOTICE_ACK and CAPTURE_RELEASE (R162, R183, R185) -/

/-- A value at most the log size behind the write index is latched and read (R183). -/
theorem writeLogRead_of_near {v : Nat} (near : (s.writer.writeIndex + 2 ^ 32 - v) % 2 ^ 32 ≤ logSize s) :
    writeLogRead v s =
      { s with anchor := { s.anchor with logRead := BitVec.ofNat 32 v }, writer := { s.writer with readIndex := v } } :=
  if_pos near

theorem writeLogRead_of_far {v : Nat} (far : logSize s < (s.writer.writeIndex + 2 ^ 32 - v) % 2 ^ 32) :
    writeLogRead v s = issueEvent .anchorBad [0x20, v] s := if_neg (Nat.not_le.mpr far)

/-- A notice flag stays set unless it is written as one (R185). -/
theorem acknowledged_ofNat (n : Notices) (v : Nat) : n.acknowledged (BitVec.ofNat 8 v) =
    { fence := n.fence && !v.testBit 0, log := n.log && !v.testBit 1, capture := n.capture && !v.testBit 2
      report := n.report && !v.testBit 3, fault := n.fault && !v.testBit 4 } := by
  have bit (i : Nat) (low : i < 8) : (~~~BitVec.ofNat 8 v).getLsbD i = !v.testBit i := by
    rw [BitVec.getLsbD_not, BitVec.getLsbD_ofNat, decide_eq_true low, Bool.true_and, Bool.true_and]
  simp (disch := decide) only [Notices.acknowledged, Notices.masked, bit]

/-- The capture slots after a release: the LOCKED ones whose bit is one are FREE, and no other changes (R162). -/
theorem releaseCaptures_slot {v k : Nat} {c : CapState} (h : s.cap.slots[k]? = some c) :
    (releaseCaptures (BitVec.ofNat 8 v) s).cap.slots[k]? =
      some (if k < 4 ∧ v.testBit k = true ∧ c = .locked then .free else c) := by
  have bit : ((BitVec.ofNat 8 v).getLsbD k && decide (k < 4) && c == .locked) = true ↔
      k < 4 ∧ v.testBit k = true ∧ c = .locked := by
    simp only [BitVec.getLsbD_ofNat, Bool.and_eq_true, decide_eq_true_eq, beq_iff_eq]
    constructor
    · exact fun ⟨⟨⟨_, bit⟩, low⟩, locked⟩ => ⟨low, bit, locked⟩
    · exact fun ⟨low, bit, locked⟩ => ⟨⟨⟨by omega, bit⟩, low⟩, locked⟩
  simp only [releaseCaptures, List.getElem?_mapIdx, h, Option.map_some, bit]

end

end Sys2Proof.Machine

open Sys2Proof Sys2Proof.Machine

/-- Settles O39: each field's act after the write has gone on; then the law of the latches. -/
theorem controlFieldsLatched : Obligations.ControlFieldsLatched := by
  unfold Obligations.ControlFieldsLatched
  refine ⟨fun s w hq => ⟨fun hw => ?logRead, fun hw => ?noticeEnable, fun hw => ?tablePtr, fun hw => ?highWater,
    fun hw => ?noticeAck, fun hw => ?captureRelease⟩, fun w addr size old i => latched_div_mod w addr old⟩
  case logRead =>
    intro v
    have act := latchAnchor_of_logRead (hw.strobes (.write w []))
    refine ⟨fun near => ?_, fun far => ?_⟩
    · rw [writeLogRead_of_near (by exact near)] at act
      exact congrArg _ (finish_of_latched hq hw act rfl)
    · rw [writeLogRead_of_far (by exact far)] at act
      have quiet := (issueEvent_logFrame .anchorBad [0x20, v] (forwardPass (.write w []) s)).quiet hq
      exact congrArg _ (finish_of_field hq hw act quiet)
  case noticeEnable =>
    exact congrArg _ (finish_of_latched (read := s.writer.readIndex) hq hw (latchAnchor_of_noticeEnable (hw.strobes _)) rfl)
  case tablePtr =>
    exact congrArg _ (finish_of_latched (read := s.writer.readIndex) hq hw (latchAnchor_of_tablePtr (hw.strobes _)) rfl)
  case highWater =>
    exact congrArg _ (finish_of_latched (read := s.writer.readIndex) hq hw (latchAnchor_of_highWater (hw.strobes _)) rfl)
  case noticeAck =>
    intro v n
    have act := latchAnchor_of_noticeAck (hw.strobes (.write w []))
    refine congrArg _ ((finish_of_field hq hw act hq).trans (congrArg (refreshStatus s) ?_))
    simp only [writeNoticeAck, setNotices, acknowledged_ofNat]
    rfl
  case captureRelease =>
    intro v
    have act := latchAnchor_of_captureRelease (hw.strobes (.write w []))
    have log := refreshStatus_logFrame s (writeCaptureRelease v (forwardPass (.write w []) s))
    have ⟨_, idle, _⟩ := hq
    refine ⟨refreshStatus s (writeCaptureRelease v (forwardPass (.write w []) s)),
      congrArg _ (finish_of_field hq hw act hq), log.anchor, ?_, ?_, fun k c at_k => ?_, ?_⟩
    · rw [log.cap]
      exact idle
    · rw [log.cap]
      exact List.length_mapIdx
    · rw [log.cap]
      exact releaseCaptures_slot at_k
    · rw [refreshStatus_eq_with]
      rfl
end
